-- ==== Sys2Proof/Word.lean ====
section
/-! DEFINITION. The words of the machine and the sparse tables that hold registers and memory. -/

namespace Sys2Proof

/-- A 64-bit register, configuration word or special register. -/
abbrev W64 := BitVec 64
/-- One lane of a vector (R63). -/
abbrev W32 := BitVec 32
/-- One byte of memory. -/
abbrev Byte := BitVec 8
/-- A vector register or a 256-byte data-plane payload: 64 lanes of 32 bits, lane `i` at bits `[32i+31:32i]` (R36, R63). -/
abbrev Vec := BitVec 2048

/-- A sparse table in canonical form: keys strictly rising, no entry equal to the default that an absent key reads as. -/
abbrev Tab (α : Type) := List (Nat × α)

/-- The value at a key, `d` when the key is not listed. -/
def Tab.get {α : Type} (d : α) : Tab α → Nat → α
  | [], _ => d
  | (k, v) :: rest, i => if i = k then v else Tab.get d rest i

/-- A table without a key. -/
def Tab.without {α : Type} (t : Tab α) (i : Nat) : Tab α := t.filter fun p => p.1 != i

/-- Lists a value at its place. -/
def Tab.insert {α : Type} : Tab α → Nat → α → Tab α
  | [], i, x => [(i, x)]
  | (k, v) :: rest, i, x => if i < k then (i, x) :: (k, v) :: rest else (k, v) :: Tab.insert rest i x

/-- Writes a key and keeps the canonical form: writing the default removes the entry. -/
def Tab.set {α : Type} [DecidableEq α] (d : α) (t : Tab α) (i : Nat) (x : α) : Tab α :=
  if x = d then t.without i else Tab.insert (t.without i) i x

/-- Changes the value of every listed key and keeps the canonical form. -/
def Tab.mapVals {α : Type} [DecidableEq α] (d : α) (f : Nat → α → α) : Tab α → Tab α
  | [] => []
  | (k, v) :: rest =>
    if f k v = d then (Tab.mapVals d f rest).without k else (k, f k v) :: Tab.mapVals d f rest

/-- Every key is above `lo` (when given), keys rise, and no value is the default. -/
def Tab.wfFrom {α : Type} [DecidableEq α] (d : α) : Option Nat → Tab α → Bool
  | _, [] => true
  | lo, (k, v) :: rest =>
    (match lo with | none => true | some l => decide (l < k)) && decide (v ≠ d) && Tab.wfFrom d (some k) rest

/-- The canonical form of a table. -/
def Tab.wf {α : Type} [DecidableEq α] (d : α) (t : Tab α) : Bool := Tab.wfFrom d none t

end Sys2Proof
end

