-- ==== Sys2Proof/Syntax.lean ====
section
/-! DEFINITION. The syntax of the machine: types, shapes, specifiers, the operands of an instruction word, and one
constructor of `Instr` for each row of the opcode table. -/

namespace Sys2Proof

/-- The type field T (R33). -/
inductive Ty
  | b64 | b32 | b16 | b8 | f32 | bf16 | f16 | e4m3 | e5m2 | aif13
  deriving DecidableEq, Repr, Inhabited

/-- The shape field S (R34): scalar, vector, or vector with b replicated. -/
inductive Shape
  | scalar | vector | vrep
  deriving DecidableEq, Repr

/-- An operand specifier (R36). -/
inductive Spec
  /-- A scalar temporary. -/
  | t (i : Fin 8)
  /-- A vector temporary. -/
  | v (i : Fin 8)
  /-- A context constant. -/
  | k (i : Fin 8)
  /-- The left matched operand. -/
  | il
  /-- The right matched operand. -/
  | ir
  /-- The predicate operand. -/
  | ip
  /-- The timestamp of the firing. -/
  | ts
  /-- Reads as 0 in any width and shape. -/
  | zero
  /-- The immediate in X. -/
  | imm
  /-- The vector whose lane i holds i. -/
  | lane
  /-- Not readable; a result written to it is discarded. -/
  | nul
  /-- A general register of a steward-mode core. -/
  | g (i : Fin 32)
  deriving DecidableEq, Repr

/-- The two modes in which instructions run (R48). -/
inductive Mode
  | firing | steward
  deriving DecidableEq, Repr

/-- The fields of an instruction word besides OP (R32). -/
structure Ops where
  /-- END, bit 55. -/
  e : Bool
  /-- The type. -/
  ty : Ty
  /-- The shape. -/
  sh : Shape
  /-- The modifier. -/
  m : BitVec 2
  /-- The destination. -/
  d : Spec
  /-- The first source. -/
  a : Spec
  /-- The second source. -/
  b : Spec
  /-- The immediate or form fields. -/
  x : BitVec 29
  deriving DecidableEq, Repr

/-- The particulars of an event: which unit it happens to, and what an outside agent brings. The meaning of each event says
which of the fields it reads. -/
structure Event where
  /-- The unit that the event happens to. -/
  unit : Nat
  /-- A second index, or a device. -/
  index : Nat
  /-- An address, or a third index. -/
  addr : Nat
  /-- A size or a count. -/
  size : Nat
  /-- A kind of request or of reason. -/
  kind : Nat
  /-- An operation code. -/
  op : Nat
  /-- A yes or no. -/
  flag : Bool
  /-- A modifier. -/
  m : BitVec 2
  /-- The first word brought from outside. -/
  w0 : W64
  /-- The second word. -/
  w1 : W64
  /-- The third word. -/
  w2 : W64
  /-- The fourth word. -/
  w3 : W64
  /-- A payload brought from outside. -/
  payload : Vec
  deriving DecidableEq, Repr, Inhabited

/-- One constructor for each row of the opcode table: the instructions that a word encodes carry the word's fields; the events,
which no word encodes, take their particulars from the state's `Event`. -/
inductive Instr
  /-- NOP (R129): Does nothing; with E = 1 it ends its run. -/
  | nop (o : Ops)
  /-- ADD (R130): Integer add, reduced to the type by wrap or saturation. -/
  | add (o : Ops)
  /-- SUB (R130): Integer subtract, reduced to the type by wrap or saturation. -/
  | sub (o : Ops)
  /-- MUL (R130): Integer multiply, reduced to the type by wrap or saturation. -/
  | mul (o : Ops)
  /-- MULHS (R130): High half of the signed product. -/
  | mulhs (o : Ops)
  /-- MULHU (R130): High half of the unsigned product. -/
  | mulhu (o : Ops)
  /-- DIVS (R130): Signed division truncated toward zero; division by zero gives -1. -/
  | divs (o : Ops)
  /-- DIVU (R130): Unsigned division; division by zero gives all ones. -/
  | divu (o : Ops)
  /-- REMS (R130): Signed remainder; with b = 0 the result is a. -/
  | rems (o : Ops)
  /-- REMU (R130): Unsigned remainder; with b = 0 the result is a. -/
  | remu (o : Ops)
  /-- MINS (R131): Smaller operand, read signed. -/
  | mins (o : Ops)
  /-- MINU (R131): Smaller operand, read unsigned. -/
  | minu (o : Ops)
  /-- MAXS (R131): Larger operand, read signed. -/
  | maxs (o : Ops)
  /-- MAXU (R131): Larger operand, read unsigned. -/
  | maxu (o : Ops)
  /-- ABS (R130): Absolute value, reduced by M. -/
  | abs (o : Ops)
  /-- NEG (R130): Negation, reduced by M. -/
  | neg (o : Ops)
  /-- AND (R132): Bitwise AND. -/
  | and (o : Ops)
  /-- OR (R132): Bitwise OR. -/
  | or (o : Ops)
  /-- XOR (R132): Bitwise exclusive OR. -/
  | xor (o : Ops)
  /-- ANDN (R132): a AND NOT b. -/
  | andn (o : Ops)
  /-- NOT (R132): Bitwise NOT. -/
  | not (o : Ops)
  /-- SHL (R132): Logical left shift; a count of w or more gives 0. -/
  | shl (o : Ops)
  /-- SHR (R132): Logical right shift; a count of w or more gives 0. -/
  | shr (o : Ops)
  /-- SAR (R132): Arithmetic right shift. -/
  | sar (o : Ops)
  /-- ROL (R132): Rotate left by n mod w. -/
  | rol (o : Ops)
  /-- CLZ (R132): Count of leading zero bits. -/
  | clz (o : Ops)
  /-- POPC (R132): Count of set bits. -/
  | popc (o : Ops)
  /-- BREV (R132): Bit reversal. -/
  | brev (o : Ops)
  /-- BEXT (R133): Extracts a bit field named by a descriptor, zero-extended. -/
  | bext (o : Ops)
  /-- BINS (R133): Inserts a's low bits into a field of c. -/
  | bins (o : Ops)
  /-- SEXT (R134): Sign-extends a from bit n. -/
  | sext (o : Ops)
  /-- ZEXT (R134): Zero-extends a from bit n. -/
  | zext (o : Ops)
  /-- CEQ (R135): Writes 1 when a = b. -/
  | ceq (o : Ops)
  /-- CNE (R135): Writes 1 when a differs from b. -/
  | cne (o : Ops)
  /-- CLTS (R135): Signed less-than compare. -/
  | clts (o : Ops)
  /-- CLES (R135): Signed less-or-equal compare. -/
  | cles (o : Ops)
  /-- CLTU (R135): Unsigned less-than compare. -/
  | cltu (o : Ops)
  /-- CLEU (R135): Unsigned less-or-equal compare. -/
  | cleu (o : Ops)
  /-- SEL (R136): Selects a or b by bit 0 of c. -/
  | sel (o : Ops)
  /-- MOV (R137): Moves the low Width(T) bits of a. -/
  | mov (o : Ops)
  /-- MOVI (R138): Writes the sign-extended immediate. -/
  | movi (o : Ops)
  /-- MOVHI (R138): Shifts a left by 29 and ORs in the unsigned 29-bit immediate. -/
  | movhi (o : Ops)
  /-- MAD (R130): Integer a times b plus c, reduced once. -/
  | mad (o : Ops)
  /-- LEA (R139): Adds a scaled signed index to a base. -/
  | lea (o : Ops)
  /-- CRC32C (R140): Advances a CRC-32C remainder over the bytes of b. -/
  | crc32c (o : Ops)
  /-- FADD (R141): Floating add, rounded once by M. -/
  | fadd (o : Ops)
  /-- FSUB (R141): Floating subtract, rounded once by M. -/
  | fsub (o : Ops)
  /-- FMUL (R141): Floating multiply, rounded once by M. -/
  | fmul (o : Ops)
  /-- FFMA (R141): Fused multiply-add, rounded once. -/
  | ffma (o : Ops)
  /-- FFMS (R141): Fused multiply-subtract, rounded once. -/
  | ffms (o : Ops)
  /-- FMIN (R143): Smaller floating operand without rounding. -/
  | fmin (o : Ops)
  /-- FMAX (R143): Larger floating operand without rounding. -/
  | fmax (o : Ops)
  /-- FABS (R144): Clears the sign bit. -/
  | fabs (o : Ops)
  /-- FNEG (R144): Inverts the sign bit. -/
  | fneg (o : Ops)
  /-- FCEQ (R145): Floating equality compare. -/
  | fceq (o : Ops)
  /-- FCLT (R145): Floating less-than compare. -/
  | fclt (o : Ops)
  /-- FCLE (R145): Floating less-or-equal compare. -/
  | fcle (o : Ops)
  /-- FCUN (R145): Writes 1 when either operand is NaN. -/
  | fcun (o : Ops)
  /-- FDIV (R141): Floating divide, rounded once by M. -/
  | fdiv (o : Ops)
  /-- FRCP (R146): Correctly rounded reciprocal. -/
  | frcp (o : Ops)
  /-- FRSQ (R146): Correctly rounded reciprocal square root. -/
  | frsq (o : Ops)
  /-- FSQRT (R146): Correctly rounded square root. -/
  | fsqrt (o : Ops)
  /-- FEXP2 (R146): Correctly rounded 2 to the power a. -/
  | fexp2 (o : Ops)
  /-- FLOG2 (R146): Correctly rounded base-2 logarithm. -/
  | flog2 (o : Ops)
  /-- FTANH (R146): Correctly rounded hyperbolic tangent. -/
  | ftanh (o : Ops)
  /-- FCLASS (R147): Writes a one-hot class mask of the operand. -/
  | fclass (o : Ops)
  /-- FCVT (R150): Converts between floating types with a saturate or overflow choice. -/
  | fcvt (o : Ops)
  /-- FTOI (R151): Converts floating to integer, rounding by M and clamping. -/
  | ftoi (o : Ops)
  /-- ITOF (R152): Converts integer to floating, rounding by M. -/
  | itof (o : Ops)
  /-- FSCALE (R148): Multiplies by 2 to an integer power, rounded by M. -/
  | fscale (o : Ops)
  /-- FRND (R149): Rounds to an integral value of the same type. -/
  | frnd (o : Ops)
  /-- VBCAST (R153): Broadcasts a scalar to every lane. -/
  | vbcast (o : Ops)
  /-- VEXTR (R154): Extracts lane j of a vector to a scalar. -/
  | vextr (o : Ops)
  /-- VINS (R154): Inserts lane 0 of a into lane j of D. -/
  | vins (o : Ops)
  /-- VPERM (R155): Permutes lanes by per-lane indices. -/
  | vperm (o : Ops)
  /-- VSHUP (R156): Moves lanes up by n, filling with zero. -/
  | vshup (o : Ops)
  /-- VSHDN (R156): Moves lanes down by n, filling with zero. -/
  | vshdn (o : Ops)
  /-- VREDADD (R160): Adds the 64 lanes through the fixed tree. -/
  | vredadd (o : Ops)
  /-- VREDMAX (R160): Maximum of the lanes through the fixed tree. -/
  | vredmax (o : Ops)
  /-- VREDMIN (R160): Minimum of the lanes through the fixed tree. -/
  | vredmin (o : Ops)
  /-- VSCAN (R161): Inclusive prefix sums in ascending lane order. -/
  | vscan (o : Ops)
  /-- VPACK (R157): Packs the lanes of two vectors into packed layout. -/
  | vpack (o : Ops)
  /-- VUNPK (R157): Unpacks one quarter or half of a packed payload into lanes. -/
  | vunpk (o : Ops)
  /-- VCMPM (R158): Collects bit 0 of each lane into a mask. -/
  | vcmpm (o : Ops)
  /-- VMSEL (R158): Selects lanes of a or b by a scalar mask. -/
  | vmsel (o : Ops)
  /-- VCOMPR (R159): Compresses the masked lanes to the bottom. -/
  | vcompr (o : Ops)
  /-- VEXPND (R159): Expands consecutive lanes into the masked positions. -/
  | vexpnd (o : Ops)
  /-- VIOTA (R159): Writes the prefix population count of a mask in each lane. -/
  | viota (o : Ops)
  /-- VSEQACC (R163): Adds one partial to a sequence accumulator in sequence order and sends the sum when complete. -/
  | vseqacc (o : Ops)
  /-- SEND (R190): Places a token send on a route in the commit buffer. -/
  | send (o : Ops)
  /-- SENDL (R190): Sends with SEQ and LAST taken from a register. -/
  | sendl (o : Ops)
  /-- STEER (R191): Sends on one of two routes chosen by a predicate bit. -/
  | steer (o : Ops)
  /-- REQN (R192): Registers a milestone request at a milestone entry. -/
  | reqn (o : Ops)
  /-- TSGET (R193): Reads one field of a timestamp. -/
  | tsget (o : Ops)
  /-- SENDM (R444): Sends a token to every member of a muster set. -/
  | sendm (o : Ops)
  /-- JOIN (R442): Adds an entry and side to a muster set at its keeper. -/
  | join (o : Ops)
  /-- LEAVE (R442): Removes an entry and side from a muster set. -/
  | leave (o : Ops)
  /-- WIDEN (R190): Sends on a stile after performing the firing's stores at the route's scope. -/
  | widen (o : Ops)
  /-- EOS (R190): Sends an end-of-stream token with zero payload. -/
  | eos (o : Ops)
  /-- SEQ (R190): Sends with SEQ taken from the innermost coordinate. -/
  | seq (o : Ops)
  /-- CHAIN (R190): Forwards a matched token with its flags. -/
  | chain (o : Ops)
  /-- SCALM (R190): Sends with the scaled flag set. -/
  | scalm (o : Ops)
  /-- LD (R234): Loads 1 to 8 bytes, synchronously from SCR or split-phase otherwise. -/
  | ld (o : Ops)
  /-- ST (R234): Stores 1 to 8 bytes. -/
  | st (o : Ops)
  /-- LDP (R237): Reads a granule once its presence bit is full. -/
  | ldp (o : Ops)
  /-- STP (R238): Writes an empty granule and sets its presence bit full. -/
  | stp (o : Ops)
  /-- CLRP (R239): Empties the presence bits of a granule or line. -/
  | clrp (o : Ops)
  /-- ATOM (R240): Atomic read-modify-write returning an acknowledgement. -/
  | atom (o : Ops)
  /-- ATOMR (R240): Atomic read-modify-write returning the old value. -/
  | atomr (o : Ops)
  /-- PREF (R242): Brings a line into the issuing core's L1. -/
  | pref (o : Ops)
  /-- CLEAN (R242): Writes every dirty sector of a line back to HBM. -/
  | clean (o : Ops)
  /-- INVAL (R242): Cleans a line and invalidates it in every L1 and the L2. -/
  | inval (o : Ops)
  /-- WATCH (R243): Arms a watch entry on a granule for c notifications. -/
  | watch (o : Ops)
  /-- FENCE (R246): Orders the firing's split-phase requests at a scope. -/
  | fence (o : Ops)
  /-- LDV (R234): Loads 16, 128 or 256 bytes into a vector. -/
  | ldv (o : Ops)
  /-- STV (R234): Stores 16, 128 or 256 bytes from a vector. -/
  | stv (o : Ops)
  /-- GATHV (R236): Gathers one element per lane through an index vector. -/
  | gathv (o : Ops)
  /-- SCATV (R236): Scatters one element per lane through an index vector. -/
  | scatv (o : Ops)
  /-- STRM (R247): Streams a block into the own scratchpad granule by granule as STPs. -/
  | strm (o : Ops)
  /-- STRMQ (R247): Drains full scratchpad granules out to a far range. -/
  | strmq (o : Ops)
  /-- WPWAIT (R249): Waits for an engine operation's write pointer to pass a byte count. -/
  | wpwait (o : Ops)
  /-- ORDT (R250): Sends an ordering token that releases stores in its footprint. -/
  | ordt (o : Ops)
  /-- MXCFG (R277): Configures role, output format and rounding of the array and takes ownership. -/
  | mxcfg (o : Ops)
  /-- MXLDB (R272): Stages k-rows of the stationary operand, making it stationary with DONE. -/
  | mxldb (o : Ops)
  /-- MXFEED (R273): Presents flowing rows to the array. -/
  | mxfeed (o : Ops)
  /-- MXDRN (R274): Reads, and unless KEEP drains, accumulator rows of a tile. -/
  | mxdrn (o : Ops)
  /-- MXREL (R277): Releases the stationary operand and the owner. -/
  | mxrel (o : Ops)
  /-- MXREL_FORCE (R269): Discards every array content, sets FORCED and releases the owner. -/
  | mxrelForce (o : Ops)
  /-- MXCOR (R275): Reads column corrections or the inner sums of the capture row. -/
  | mxcor (o : Ops)
  /-- MXSTAT (R276): Reads the array status or row masks, optionally clearing counts. -/
  | mxstat (o : Ops)
  /-- SHCFG (R287): Sets a context's sheaf configuration and descriptors. -/
  | shcfg (o : Ops)
  /-- SHCUT (R289): Makes one sheaf cut and sends its result word as a token. -/
  | shcut (o : Ops)
  /-- SHBND (R288): Narrows the k range that later cuts scan. -/
  | shbnd (o : Ops)
  /-- SHCO (R295): Gathers the partner rows matching the last cut. -/
  | shco (o : Ops)
  /-- SPHDR (R296): Captures combined bits and emits one index token per set bit after commit. -/
  | sphdr (o : Ops)
  /-- ISECT (R298): Intersects the coordinates of two blocks into masks. -/
  | isect (o : Ops)
  /-- SMERGE (R299): Merges two coordinate-value blocks. -/
  | smerge (o : Ops)
  /-- NMSEL (R270): Condenses packed rows by an N-of-64 mask. -/
  | nmsel (o : Ops)
  /-- COPY (R401): Queues a copy operation on an engine context. -/
  | copy (o : Ops)
  /-- ISTRM (R402): Queues an indexed row gather on an indirect-stream engine. -/
  | istrm (o : Ops)
  /-- TLWAIT (R403): Waits until an engine context's timeline reaches n. -/
  | tlwait (o : Ops)
  /-- TLRD (R404): Reads ETL, FAILLO or NEXT of an engine context. -/
  | tlrd (o : Ops)
  /-- COLL (R446): Contributes a buffer to a collective over a muster set. -/
  | coll (o : Ops)
  /-- RLD (R437): Loads from a named device's GLB memory. -/
  | rld (o : Ops)
  /-- RST (R437): Stores to a named device's GLB memory, or to every muster member device. -/
  | rst (o : Ops)
  /-- RATOM (R437): Atomic on a named device's GLB memory at fabric scope. -/
  | ratom (o : Ops)
  /-- MIGR (R464): Asks a page's home to move it to a target device and waits. -/
  | migr (o : Ops)
  /-- OWNQ (R465): Reads a page's home-map entry. -/
  | ownq (o : Ops)
  /-- OWNINV (R464): Drops this device's owner-cache entries for a page or all pages. -/
  | owninv (o : Ops)
  /-- SGNRCL (R464): Runs the signpost reclamation handshake for a page. -/
  | sgnrcl (o : Ops)
  /-- BR (R345): Unconditional branch. -/
  | br (o : Ops)
  /-- BZ (R345): Branch if zero. -/
  | bz (o : Ops)
  /-- BNZ (R345): Branch if nonzero. -/
  | bnz (o : Ops)
  /-- BEQ (R345): Branch if equal. -/
  | beq (o : Ops)
  /-- BNE (R345): Branch if not equal. -/
  | bne (o : Ops)
  /-- BLT (R345): Branch if signed less. -/
  | blt (o : Ops)
  /-- BGE (R345): Branch if signed greater or equal. -/
  | bge (o : Ops)
  /-- BLTU (R345): Branch if unsigned less. -/
  | bltu (o : Ops)
  /-- BGEU (R345): Branch if unsigned greater or equal. -/
  | bgeu (o : Ops)
  /-- CALL (R346): Saves the return address and branches. -/
  | call (o : Ops)
  /-- RET (R346): Jumps to the address in a register. -/
  | ret (o : Ops)
  /-- JMPR (R346): Jumps to a register plus offset, saving the return address. -/
  | jmpr (o : Ops)
  /-- WAITT (R347): Stalls the steward until CYCLE reaches a value. -/
  | waitt (o : Ops)
  /-- SWAIT (R347): Stalls the steward until a selected event or a deadline. -/
  | swait (o : Ops)
  /-- INJ (R349): Injects a counted control-plane token, or a start token, to an entry. -/
  | inj (o : Ops)
  /-- TRAP (R350): Raises a TRAPINS trap or firing fault. -/
  | trap (o : Ops)
  /-- ERET (R350): Returns from a steward trap to EPC. -/
  | eret (o : Ops)
  /-- MFS (R351): Reads a special register. -/
  | mfs (o : Ops)
  /-- MTS (R351): Writes a special register that has no behaviour of its own. -/
  | mts (o : Ops)
  /-- CFGW (R354): Writes or stages a configuration word after checking it. -/
  | cfgw (o : Ops)
  /-- CFGR (R354): Reads a live or staged configuration word. -/
  | cfgr (o : Ops)
  /-- CFGCOM (R355): Checks CRC and runs and commits a core's staged words, contexts HELD. -/
  | cfgcom (o : Ops)
  /-- CFGCOM_SEAL (R355): Commits if needed and releases HELD contexts, dropping the undo copy. -/
  | cfgcomSeal (o : Ops)
  /-- CFGABT (R356): Discards staged words or rolls back a committed transaction. -/
  | cfgabt (o : Ops)
  /-- CTXPRI (R357): Sets a context's priority between firings. -/
  | ctxpri (o : Ops)
  /-- PARK (R358): Withdraws a named frame to the lay-by. -/
  | park (o : Ops)
  /-- UNPARK_REPLAY (R359): Returns every token of a lay-by record to its element. -/
  | unparkReplay (o : Ops)
  /-- UNPARK_DROP (R359): Drops every token of a lay-by record, recording tainted decrements. -/
  | unparkDrop (o : Ops)
  /-- UNPARK_FRAME (R359): Replays L, R and P and drops the extra token. -/
  | unparkFrame (o : Ops)
  /-- DRAIN (R360): Evicts a region, optionally abandoning held port requests. -/
  | drain (o : Ops)
  /-- RESUME (R361): Retries a HELD port's kept request and returns it to FLOWING. -/
  | resume (o : Ops)
  /-- RESUME_FAIL (R361): Fails a HELD port's kept request with PAGEFLT and returns it to FLOWING. -/
  | resumeFail (o : Ops)
  /-- TLBINV (R362): Drops TLB entries for a page or all pages in a scope. -/
  | tlbinv (o : Ops)
  /-- SIGCHK (R363): Verifies an Ed448 signature over a SHAKE256 digest. -/
  | sigchk (o : Ops)
  /-- SSTAT_WRITE (R344): Writes TD and clears latched LOAD and DRAINED events. -/
  | sstatWrite (o : Ops)
  /-- ECCCNT_CLEAR (R221): An MTS of 0 clears the corrected-error counts. -/
  | ecccntClear (o : Ops)
  /-- HEDGECNT_CLEAR (R328): An MTS of 0 clears the hedge drop count. -/
  | hedgecntClear (o : Ops)
  /-- MBOX_READ (R410): Reading MBOX removes the oldest reeve message. -/
  | mboxRead (o : Ops)
  /-- MBOXOUT (R410): Queues a message in the reeve's inbox. -/
  | mboxout (o : Ops)
  /-- RINBOX_READ (R410): The reeve reading RINBOX removes the oldest inbox message. -/
  | rinboxRead (o : Ops)
  /-- RFPOP (R410): Removes the oldest fatal-line notice. -/
  | rfpop (o : Ops)
  /-- RMSEL_WRITE (R410): Selects the mailbox RMSEND writes, trapping on a reeve kind. -/
  | rmselWrite (o : Ops)
  /-- RMSEND (R410): Queues a message in the selected mailbox and sets MAIL. -/
  | rmsend (o : Ops)
  /-- KSLOT (R413): Loads or clears a key slot on all four dies. -/
  | kslot (o : Ops)
  /-- DBUD_WRITE (R417): Sets a die's energy budget, refusing one that breaks the envelope. -/
  | dbudWrite (o : Ops)
  /-- POLPOP (R457): Removes the oldest migration policy notice. -/
  | polpop (o : Ops)
  /-- POLSTAT_CLEAR (R457): An MTS of 0 clears the dropped-notice count. -/
  | polstatClear (o : Ops)
  /-- OBCORE_RELEASE (R470): Releases stopped elements. -/
  | obcoreRelease (o : Ops)
  /-- OBCTL_WRITE (R470): Sets trace control; setting TEN empties the ring and clears FROZEN. -/
  | obctlWrite (o : Ops)
  /-- TRDUMP (R472): Stops tracing and copies the ring to memory, then sets DUMPED. -/
  | trdump (o : Ops)
  /-- HSPILL_WRITE (R475): Restarts the spill area and clears SPILLFULL. -/
  | hspillWrite (o : Ops)
  /-- HCTL_ENABLE (R474): Sets HEN and clears HOVF. -/
  | hctlEnable (o : Ops)
  /-- WALKGO (R477): Samples every core's channels and state into memory and sets WALKED. -/
  | walkgo (o : Ops)
  /-- CHANNEL_COUNT_CLEAR (R470): An MTS of 0 clears a channel cycle count. -/
  | channelCountClear (o : Ops)
  /-- WATCH_CANCEL (R243): WATCH with count 0 cancels the matching armed entry. -/
  | watchCancel
  /-- TOKEN_ARRIVAL (R86): A token reaching an element joins or opens a frame, or waits in the network. -/
  | tokenArrival
  /-- FRAME_CHOICE (R93): An element chooses a complete frame and checks its channels. -/
  | frameChoice
  /-- COMMIT_POINT (R101): A firing consumes its tokens, performs its SCR store group and hands its buffer to release. -/
  | commitPoint
  /-- RELEASE_SENDS (R101): Released tokens and requests leave in program order once they have room. -/
  | releaseSends
  /-- RECORD_DECREMENTS (R185): A firing's decrements are recorded once its stores are performed and gated sends have left. -/
  | recordDecrements
  /-- TRAP_RECORD_LEAVE (R108): A waiting trap record leaves on the fault route or to the trap queue. -/
  | trapRecordLeave
  /-- PARKWAIT_RELEASE (R110): When a fault record is freed, the oldest PARKWAIT frame is written into it. -/
  | parkwaitRelease
  /-- VSEQACC_RETRY (R165): A waiting VSEQACC performs afresh when EXP or the early buffer changes. -/
  | vseqaccRetry
  /-- CLAIM_HANDOVER (R267): A stalled array or cutter instruction takes the freed claim. -/
  | claimHandover
  /-- PORT_ENTRY (R210): A request entering a stream port is checked against windows or sent to translation. -/
  | portEntry
  /-- TRANSLATION_WALK (R385): A finished walk maps the access, holds the port, or fails it. -/
  | translationWalk
  /-- REQUEST_PERFORM (R230): A split-phase request is performed at its home and its reply sent. -/
  | requestPerform
  /-- DEFERRED_READ_FILL (R206): A deferred presence read is performed when its granule fills. -/
  | deferredReadFill
  /-- WATCH_NOTIFY (R244): A watch entry delivers its next notification after the previous is consumed. -/
  | watchNotify
  /-- ORDT_LEAVE (R250): A late ordering token leaves once the overlapping requests are performed. -/
  | ordtLeave
  /-- STREAM_GRANULE (R247): A stream moves its next granule, waiting on presence for STRMQ. -/
  | streamGranule
  /-- CHAIN_TRIGGER (R201): A counter chain takes a complete trigger frame of its bound entry. -/
  | chainTrigger
  /-- CHAIN_EMIT (R201): A chain emits its next index token when the network has room. -/
  | chainEmit
  /-- SPHDR_EMIT (R296): The emitter sends the next index token of a captured emission. -/
  | sphdrEmit
  /-- ARRAY_ROW_EDGE (R257): A row reaches the edge unit, forms its partials and combines them in sequence order. -/
  | arrayRowEdge
  /-- ARRAY_RELEASE_WORD (R277): Writing 1 to core word 0x030 acts as MXREL with FORCE for the steward. -/
  | arrayReleaseWord
  /-- GATE_ADMISSION_GRANT (R175): The home aggregator admits an activation; the gated token is counted and sent. -/
  | gateAdmissionGrant
  /-- BATCH_CLOSE (R186): A frontier unit closes its open batch after 256 cycles or 32 pointstamps and forwards it. -/
  | batchClose
  /-- BATCH_APPLY (R187): The home aggregator applies one unit's batch whole. -/
  | batchApply
  /-- ACK_BROADCAST (R187): Every 1,024 aggregator cycles the home broadcasts the acknowledgement vector. -/
  | ackBroadcast
  /-- ACK_RECEIVE (R186): A frontier unit takes an acknowledgement vector and frees deferred decrements. -/
  | ackReceive
  /-- MILESTONE_DELIVERY (R181): The home delivers a milestone once the outstanding set passes its time. -/
  | milestoneDelivery
  /-- INGRESS_PACKET (R432): A host posted write to a packet area is accepted, held, or dropped with INGDROP. -/
  | ingressPacket
  /-- INGRESS_DELIVERY (R432): An ingress port delivers a buffered packet and records its increment. -/
  | ingressDelivery
  /-- ROUND_REGISTER_WRITE (R433): A host raises an ingress window's floor after earlier packets are delivered. -/
  | roundRegisterWrite
  /-- HOST_EGRESS (R434): A token on a host egress queue is written to the host. -/
  | hostEgress
  /-- ATTESTATION_REQUEST (R436): A host nonce write starts an attestation report on queue 63. -/
  | attestationRequest
  /-- SCHEDULER_DECISION (R318): The block scheduler picks the top image and hands it to the loader or raises PLACEREQ. -/
  | schedulerDecision
  /-- CONTEXT_RETIRE (R320): Predecessor contexts retire and successors receive their priority. -/
  | contextRetire
  /-- DRAIN_MARKER (R323): A core receiving all drain markers spills the region's frames and invalidates its contexts. -/
  | drainMarker
  /-- RELOAD (R324): An evicted region's spill records are returned and held milestones released. -/
  | reload
  /-- HEDGEDROP (R327): A hedge drops traffic crossing tenants with a tainted decrement or failure. -/
  | hedgedrop
  /-- STEWARD_TRAP (R338): A steward-mode core takes a precise trap to TVEC, or halts on a double trap. -/
  | stewardTrap
  /-- FATAL_NOTICE (R342): A fatal record enters the queue and a notice goes to the reeve on the fatal line. -/
  | fatalNotice
  /-- STEWARD_WAIT_END (R347): A stalled steward resumes when its event, deadline or access completes. -/
  | stewardWaitEnd
  /-- TQPOP_ORDINARY (R341): Removes the oldest ordinary trap-queue record. -/
  | tqpopOrdinary
  /-- TQPOP_FATAL (R341): Removes the oldest fatal trap-queue record. -/
  | tqpopFatal
  /-- PKGRST_DRAIN (R420): LIVE to DRAIN: the die's schedulers load nothing and its engines refuse requests. -/
  | pkgrstDrain
  /-- PKGRST_CANCEL (R420): DRAIN to LIVE cancels the drain. -/
  | pkgrstCancel
  /-- PKGRST_MASK (R420): DRAIN to MASKED sets HOMEMASK on all dies at the mask instant. -/
  | pkgrstMask
  /-- PKGRST_FLUSHED (R421): Hardware moves MASKED to FLUSHED once the die's L2 and directory are flushed. -/
  | pkgrstFlushed
  /-- PKGRST_LINKDOWN (R420): FLUSHED to LINKDOWN drains the die's links and switches diagonal paths. -/
  | pkgrstLinkdown
  /-- PKGRST_RESET (R411): LINKDOWN to RESET resets the die and runs the die column of the start. -/
  | pkgrstReset
  /-- PKGRST_TRAINED (R420): Hardware moves RESET to TRAINED when links are up and stewards started. -/
  | pkgrstTrained
  /-- PKGRST_RETURN (R422): TRAINED to RETURN: live dies return temporary home lines. -/
  | pkgrstReturn
  /-- PKGRST_CLEAR (R422): Hardware clears HOMEMASK at the clear instant and the die becomes LIVE. -/
  | pkgrstClear
  /-- CELSPLIT_WRITE (R373): Changes the cellar split after write-back, invalidation and zeroing. -/
  | celsplitWrite
  /-- HOMEMASK_WRITE (R391): A reeve write sets the package HOMEMASK on all dies in one cycle. -/
  | homemaskWrite
  /-- ECTX_WRITE (R398): Binds an engine context, resetting FAILLO. -/
  | ectxWrite
  /-- ENGINE_ACCEPT (R399): An engine context numbers and queues an arriving operation. -/
  | engineAccept
  /-- ENGINE_OPERATION_END (R400): An engine operation completes or fails, setting ETL and replying. -/
  | engineOperationEnd
  /-- COLLECTIVE_COMPLETE (R447): Once every pinned member contributes, the engine combines, writes and replies. -/
  | collectiveComplete
  /-- MUSTER_OPERATION (R442): A keeper performs an arriving JOIN, LEAVE or snapshot. -/
  | musterOperation
  /-- REMOTE_REQUEST_ARRIVAL (R438): A remote request is translated and performed at the target device. -/
  | remoteRequestArrival
  /-- UTERN_TIMEOUT (R430): A device unanswered within UTIME is marked dead and its traffic failed. -/
  | uternTimeout
  /-- DEAD_PEER_CLEAR (R430): A reeve write clears dead-peer bits. -/
  | deadPeerClear
  /-- ROUTE_TABLE_WRITE (R427): Changes a device route entry once earlier tokens are delivered. -/
  | routeTableWrite
  /-- INGB_WRITE (R433): Binds or unbinds an ingress window, adding or removing its ingress term. -/
  | ingbWrite
  /-- LINK_FLIT_RETRY (R426): The link layer retries a flit that fails its CRC. -/
  | linkFlitRetry
  /-- UCIE_MODULE_FAIL (R395): A module failing training is disabled, or the link goes down. -/
  | ucieModuleFail
  /-- OWNER_CACHE_LOOKUP (R455): A miss asks the page's home, which adds a sharer and returns the owner. -/
  | ownerCacheLookup
  /-- COUNT_MESSAGE (R456): A home applies a remote-access count message and may queue a policy notice. -/
  | countMessage
  /-- MIGRATION_COPY_PASS (R458): A bulk or dirty copy pass of a moving page ends. -/
  | migrationCopyPass
  /-- MIGRATION_FREEZE (R458): The old owner stops admitting accesses and copies the last dirty sectors. -/
  | migrationFreeze
  /-- MIGRATION_GO (R458): GO switches ownership, installs the signpost and updates the home. -/
  | migrationGo
  /-- MIGRATION_ABORT (R459): A failure before the switch returns the page to OWNED at the old owner. -/
  | migrationAbort
  /-- SIGNPOST_RELAY (R460): A signpost relays an arriving access to the owner and redirects the requester. -/
  | signpostRelay
  /-- REDIRECT (R461): A requester's die takes a redirect or CONSULT and closes the page. -/
  | redirect
  /-- OWNER_CACHE_REOPEN (R461): A CLOSED entry reopens once earlier accesses are answered. -/
  | ownerCacheReopen
  /-- SIGNPOST_INVALIDATION (R462): A sharer drops its entries and answers once its old accesses are answered. -/
  | signpostInvalidation
  /-- RECLAIM (R462): A signpost device relays its queue and frees the entry. -/
  | reclaim
  /-- ENERGY_TICK (R390): Each 1 microsecond tick sets LEAN for regions over allowance. -/
  | energyTick
  /-- GOVERNOR_TICK (R418): Each tick applies the fast and slow throttles of each die. -/
  | governorTick
  /-- WINDOW_EDGE (R419): Every 1 ms the energy window edge resets usage and lean and ages pin counters. -/
  | windowEdge
  /-- CELHOT_CHANGE (R376): A cellar sensor crossing a threshold sets or clears CELHOT. -/
  | celhotChange
  /-- PATROL_SCRUB (R415): A periodic scrub rewrites corrected cellar or HBM words. -/
  | patrolScrub
  /-- COLD_START (R411): Runs the cold start steps and releases all stewards. -/
  | coldStart
  /-- PACKAGE_WARM_START (R411): Runs the package warm start steps keeping HBM and engine timelines. -/
  | packageWarmStart
  /-- CORE_RESET (R222): Resets a core's contexts, buffers, ports, caches and tables. -/
  | coreReset
  /-- STEWARD_RESET (R336): Resets a steward to the boot vector. -/
  | stewardReset
  /-- TRACE_FREEZE (R471): POST clocks after a trigger the ring freezes. -/
  | traceFreeze
  /-- HCTL_FLUSH (R475): Spills every live count entry and empties the table. -/
  | hctlFlush
  /-- COUNT_SPILL (R475): An evicted count entry is written to the spill area. -/
  | countSpill
  /-- ENGINE_WRITE_POINTER (R249): A running engine operation's write pointer passes the byte count of a waiting WPWAIT, and the engine context sends its reply with the bytes delivered so far. -/
  | engineWritePointer
  /-- DISCARDED_HOST_WRITE (R431): A host write to an unnamed Utern offset, or a bad write to a window's control words, is discarded and counted in the window status, and a host read of such an offset completes with an error. -/
  | discardedHostWrite
  /-- LOST_REGION_DISPOSAL (R416): The reeve disposes of a lost region: it discards the region's waymarks and pending requests at its home aggregator, frees its frontier slots and lay-by, and reports REGLOST on queue 63. -/
  | lostRegionDisposal
  /-- LINK_LEVEL_RETRY (R395): A UCIe die-to-die link detects a CRC error on a flit and retries it under the standard's link-level retry, or repairs a lane. -/
  | linkLevelRetry
  deriving DecidableEq, Repr

end Sys2Proof
end

