-- ==== Sys2Proof/Config.lean ====
section
/-! DEFINITION. What an implementation fixes and the free values: constants with no body, so that no proof can see them. -/

namespace Sys2Proof

/-- An agent that runs instructions: a steward (die × 4 + cluster), a die service core, the reeve, or an element
(core × 4 + element, cores numbered die × 512 + cluster × 128 + core). -/
inductive Actor
  | steward (n : Nat)
  | dsc (d : Nat)
  | reeve
  | element (n : Nat)
  deriving DecidableEq, Repr

/-- What one step of the machine does. -/
inductive Turn
  /-- Core clocks pass. -/
  | elapse (clocks : Nat)
  /-- An agent runs its next instruction. -/
  | run (a : Actor)
  /-- An event of the opcode table happens, with its particulars. -/
  | happen (i : Instr) (e : Event)
  /-- A soft error comes to be, outside any agent: a kind, its place, and whether it is uncorrectable. -/
  | strike (kind unit place part : Nat) (hard : Bool)
  deriving DecidableEq, Repr, Inhabited

end Sys2Proof

namespace Sys2Proof.Config

/-- The fresh free value of a scalar temporary at the start of a firing (R98; log 4). -/
opaque freeWord : Nat → W64
/-- The fresh free value of a vector temporary at the start of a firing (R98; log 4). -/
opaque freeVec : Nat → Vec
/-- What a read of a matched operand gives where the frame holds no token for it, or one of the other width: images in which
that can happen are refused by the loader (R39; log 11). By step. -/
opaque absentOperand : Nat → Vec
/-- Whether a steward's instruction cache still holds a line that it has filled, at a step (R335; log 12). -/
opaque icacheKeeps : Nat → Bool
/-- Whether a translation unit still holds a TLB entry that it has taken, at a step (R386; log 12). -/
opaque tlbKeeps : Nat → Bool
/-- What happens at a schedule step: which agent runs, which event happens, or how many core clocks pass (log 1). -/
opaque schedule : Nat → Turn
/-- The rounded value of FEXP2, FLOG2 and FTANH (by number 0 to 2) on an operand where the computed enclosure leaves two
candidates: type, modifier and operand pattern (R146; log 7). -/
opaque roundedFunction : Nat → Ty → BitVec 2 → Nat → Nat
/-- The energy weight of an event, by its number in the list of R389 (log 8). -/
opaque energyWeight : Nat → Nat
/-- The energy of what a unit does for a firing, and of leakage, by step and cluster, in 1/1024 µJ (R389; log 8). -/
opaque unitEnergy : Nat → Nat → Nat
/-- Whether an owner's count table replaces the entry of a page and a device, by number, when it takes in a new one at a step (R456;
log 97). -/
opaque dropsCount : Nat → Nat → Bool
/-- The lay-by base that the loader firmware gave a region, by image id, when none is recorded (R110; log 9). -/
opaque laybyBase : Nat → W64 × W64
/-- The loop table entry that the loader firmware handed the hardware for a region and a loop, when none is recorded: the
parent, the window and the rank (R174; log 9). -/
opaque loopInfo : Nat → Nat → Nat × Nat × Nat

/-- The length of an operation by engine context handle and number, where the context does not hold it (R249; log 137). -/
opaque heldLength : Nat → Nat → W64

/-- A DETAIL or a result that the spec does not state, by step (log 16). -/
opaque openWord : Nat → W64

/-- What a channel's buffer is in a link cycle, by core (with the number of starts), channel and link cycle: 1 full, 2 empty (R476; log
27). -/
opaque channelState : Nat → Nat → Nat → Nat
/-- Whether a flit of a channel's class enters the core in a link cycle, likewise (R476; log 27). -/
opaque channelMoves : Nat → Nat → Nat → Bool
/-- Why the firing of an element spends the core clocks of a step: the RSN of R474 (log 29). -/
opaque stallReason : Nat → Nat → Nat
/-- The set of the count table in which a key stands, by the key's number (R474; log 29). -/
opaque countSet : Nat → Nat

/-- Whether a packet of a step goes in y where both directions lead on, with so many steps left (R306; log 18). -/
opaque packetTurn : Nat → Nat → Bool

end Sys2Proof.Config
end

