-- ==== Sys2Proof/Machine/Num.lean ====
section
/-! DEFINITION. Number formats: widths, integers reduced by M, exact floating values and their single rounding
(spec/03_numbers.md, R33, R62 to R72). -/

namespace Sys2Proof.Machine

/-- Width(T) of R117: aif13 counts its 16-bit container. -/
def Ty.width : Ty → Nat
  | .b64 => 64 | .b32 => 32 | .b16 => 16 | .b8 => 8 | .f32 => 32 | .bf16 => 16 | .f16 => 16
  | .e4m3 => 8 | .e5m2 => 8 | .aif13 => 16

/-- IsFloat(T): the class column of R33. -/
def Ty.isFloat : Ty → Bool
  | .f32 => true | .bf16 => true | .f16 => true | .e4m3 => true | .e5m2 => true
  | .b64 => false | .b32 => false | .b16 => false | .b8 => false | .aif13 => false

/-- The low `w` bits of a pattern. -/
def low (w x : Nat) : Nat := x % 2 ^ w

/-- A `w`-bit pattern read as two's complement. -/
def signed (w x : Nat) : Int := if low w x < 2 ^ (w - 1) then (low w x : Int) else (low w x : Int) - 2 ^ w

/-- The low `w` bits of an integer in two's complement. -/
def wrapInt (w : Nat) (n : Int) : Nat := (n % (2 ^ w : Int)).toNat

/-- An integer clamped to a range. -/
def clampInt (lo hi n : Int) : Int := if n < lo then lo else if hi < n then hi else n

/-- S(x): for aif13 the low 13 bits as two's complement (R117). -/
def readS (t : Ty) (x : Nat) : Int := match t with
  | .aif13 => signed 13 x
  | _ => signed (Ty.width t) x

/-- U(x): the whole Width(T)-bit pattern as unsigned binary (R117). -/
def readU (t : Ty) (x : Nat) : Int := (low (Ty.width t) x : Int)

/-- An operand of integer arithmetic whose "Read as" column says "by M": signed under wrap and ssat, unsigned under usat;
aif13 operands are always read signed (R130). -/
def readByM (t : Ty) (m : BitVec 2) (x : Nat) : Int := match t with
  | .aif13 => readS .aif13 x
  | _ => if m = 2#2 then readU t x else readS t x

/-- Sat(T, n, M): an exact integer reduced to the pattern of type T (R64). -/
def sat (t : Ty) (n : Int) (m : BitVec 2) : Nat := match t with
  | .aif13 => if m = 2#2 then wrapInt 16 (clampInt 0 4095 n) else wrapInt 16 (clampInt (-4095) 4095 n)
  | _ =>
    let w := Ty.width t
    if m = 1#2 then wrapInt w (clampInt (-(2 ^ (w - 1))) (2 ^ (w - 1) - 1) n)
    else if m = 2#2 then wrapInt w (clampInt 0 (2 ^ w - 1) n)
    else wrapInt w n

/-- An aif13 container is malformed if bits [15:13] are not copies of bit 12 or it holds -4096 (R72). -/
def aifMalformed (x : Nat) : Bool :=
  wrapInt 16 (signed 13 x) != low 16 x || low 16 x == 0xF000

/-! ## Floating formats -/

/-- Fraction bits of a floating type (R65). -/
def fracBits : Ty → Nat
  | .f32 => 23 | .bf16 => 7 | .f16 => 10 | .e4m3 => 3 | .e5m2 => 2
  | .b64 => 0 | .b32 => 0 | .b16 => 0 | .b8 => 0 | .aif13 => 0

/-- Exponent bias of a floating type (R65). -/
def expBias : Ty → Int
  | .f32 => 127 | .bf16 => 127 | .f16 => 15 | .e4m3 => 7 | .e5m2 => 15
  | .b64 => 0 | .b32 => 0 | .b16 => 0 | .b8 => 0 | .aif13 => 0

/-- The pattern of the largest finite value of positive sign (R65). -/
def maxFinite : Ty → Nat
  | .f32 => 0x7F7FFFFF | .bf16 => 0x7F7F | .f16 => 0x7BFF | .e4m3 => 0x7E | .e5m2 => 0x7B
  | .b64 => 0 | .b32 => 0 | .b16 => 0 | .b8 => 0 | .aif13 => 0

/-- The default NaN of a floating type (R67). -/
def defaultNaN : Ty → Nat
  | .f32 => 0x7FC00000 | .bf16 => 0x7FC0 | .f16 => 0x7E00 | .e4m3 => 0x7F | .e5m2 => 0x7E
  | .b64 => 0 | .b32 => 0 | .b16 => 0 | .b8 => 0 | .aif13 => 0

/-- The sign bit of a floating pattern. -/
def signBit (t : Ty) (neg : Bool) : Nat := if neg then 2 ^ (Ty.width t - 1) else 0

/-- A floating value: NaN, an infinity, or (-1)^neg × m × 2^e, with m = 0 a signed zero (R65, R117 Val). -/
inductive Val
  | nan
  | inf (neg : Bool)
  | fin (neg : Bool) (m : Nat) (e : Int)
  deriving DecidableEq, Repr

/-- Val(T, x): the value that a floating pattern denotes (R65, R66). -/
def val (t : Ty) (x : Nat) : Val :=
  let w := Ty.width t
  let f := fracBits t
  let neg := 2 ^ (w - 1) ≤ low w x
  let mag := low (w - 1) x
  if mag ≤ maxFinite t then
    let e := mag / 2 ^ f
    let fr := mag % 2 ^ f
    if e = 0 then .fin neg fr (1 - expBias t - f) else .fin neg (2 ^ f + fr) ((e : Int) - expBias t - f)
  else if t != .e4m3 && mag == maxFinite t + 1 then .inf neg
  else .nan

/-- The result of an overflow (R69; R70 for e4m3 and e5m2, saturating unless `ovf`). -/
def overflow (t : Ty) (neg : Bool) (m : BitVec 2) (ovf : Bool) : Nat :=
  let big := signBit t neg + maxFinite t
  let byMode := if m = 0#2 || (m = 2#2 && neg) || (m = 3#2 && !neg) then big + 1 else big
  match t with
  | .e4m3 => if ovf then 0x7F else big
  | .e5m2 => if ovf then byMode else big
  | _ => byMode

/-- An infinity as a pattern of T (R69, R70). -/
def infPattern (t : Ty) (neg : Bool) (ovf : Bool) : Nat := match t with
  | .e4m3 => if ovf then 0x7F else signBit t neg + maxFinite t
  | _ => signBit t neg + maxFinite t + 1

/-- Whether the magnitude is rounded up: `r` against `half`, with `sticky` for nonzero bits below (R69). -/
def roundsUp (neg odd : Bool) (r half : Nat) (sticky : Bool) (m : BitVec 2) : Bool :=
  let inexact := sticky || r != 0
  if m = 0#2 then decide (half < r) || (r == half && (sticky || odd))
  else if m = 1#2 then false
  else if m = 2#2 then inexact && neg
  else inexact && !neg

/-- Rounds a nonzero magnitude m × 2^e, or one strictly between m × 2^e and (m + 1) × 2^e when `sticky`, once into type T
(R69, R70). With `sticky`, m has more bits than the significand and one guard bit. -/
def roundMag (t : Ty) (neg : Bool) (mag : Nat) (e : Int) (sticky : Bool) (m : BitVec 2) (ovf : Bool := false) : Nat :=
  let f : Int := fracBits t
  let q := max (e + Nat.log2 mag - f) (1 - expBias t - f)
  let sh := (q - e).toNat
  let s := if q ≤ e then mag <<< (e - q).toNat else mag >>> sh
  let r := if q ≤ e then 0 else mag % 2 ^ sh
  let half := if q ≤ e then 1 else 2 ^ (sh - 1)
  let s' := if roundsUp neg (s % 2 == 1) r half sticky m then s + 1 else s
  let pat := (q + f + expBias t - 1).toNat * 2 ^ fracBits t + s'
  if maxFinite t < pat then overflow t neg m ovf else signBit t neg + pat

/-- RoundTo(T, v, M, ovf) for floating T (R121). An exact zero keeps its sign. -/
def roundTo (t : Ty) (v : Val) (m : BitVec 2) (ovf : Bool := false) : Nat := match v with
  | .nan => defaultNaN t
  | .inf neg => infPattern t neg ovf
  | .fin neg mag e => if mag = 0 then signBit t neg else roundMag t neg mag e false m ovf

/-! ## Exact arithmetic on values -/

/-- The negation of a value; a NaN stays. -/
def Val.neg : Val → Val
  | .nan => .nan
  | .inf n => .inf (!n)
  | .fin n m e => .fin (!n) m e

/-- The signed integer that a finite value is, in units of 2^u with u at most its exponent. -/
def scaled (neg : Bool) (m : Nat) (e u : Int) : Int :=
  let v : Int := ((m <<< (e - u).toNat : Nat) : Int)
  if neg then -v else v

/-- The exact sum of two values, with the zero rule of R68 and R142. -/
def addVal (x y : Val) (m : BitVec 2) : Val := match x, y with
  | .nan, _ => .nan
  | _, .nan => .nan
  | .inf a, .inf b => if a = b then .inf a else .nan
  | .inf a, .fin _ _ _ => .inf a
  | .fin _ _ _, .inf b => .inf b
  | .fin n1 m1 e1, .fin n2 m2 e2 =>
    let u := if m1 = 0 then e2 else if m2 = 0 then e1 else min e1 e2
    let z := (if m1 = 0 then 0 else scaled n1 m1 e1 u) + (if m2 = 0 then 0 else scaled n2 m2 e2 u)
    if z = 0 then
      if m1 = 0 ∧ m2 = 0 ∧ n1 = n2 then .fin n1 0 0 else .fin (m = 2#2) 0 0
    else .fin (decide (z < 0)) z.natAbs u

/-- The exact product of two values (R142). -/
def mulVal (x y : Val) : Val := match x, y with
  | .nan, _ => .nan
  | _, .nan => .nan
  | .inf a, .inf b => .inf (a != b)
  | .inf a, .fin n mg _ => if mg = 0 then .nan else .inf (a != n)
  | .fin n mg _, .inf b => if mg = 0 then .nan else .inf (n != b)
  | .fin n1 m1 e1, .fin n2 m2 e2 => .fin (n1 != n2) (m1 * m2) (e1 + e2)

/-- FADD, FSUB, FMUL of R141. -/
def fadd (t : Ty) (m : BitVec 2) (a b : Nat) : Nat := roundTo t (addVal (val t a) (val t b) m) m
/-- FSUB of R141. -/
def fsub (t : Ty) (m : BitVec 2) (a b : Nat) : Nat := roundTo t (addVal (val t a) (val t b).neg m) m
/-- FMUL of R141. -/
def fmul (t : Ty) (m : BitVec 2) (a b : Nat) : Nat := roundTo t (mulVal (val t a) (val t b)) m
/-- FFMA of R141: one rounding of the exact a × b + c. -/
def ffma (t : Ty) (m : BitVec 2) (a b c : Nat) : Nat := roundTo t (addVal (mulVal (val t a) (val t b)) (val t c) m) m
/-- FFMS of R141: one rounding of the exact a × b - c. -/
def ffms (t : Ty) (m : BitVec 2) (a b c : Nat) : Nat := roundTo t (addVal (mulVal (val t a) (val t b)) (val t c).neg m) m

/-- The rounded quotient of two values (R141, R142). -/
def divVal (t : Ty) (m : BitVec 2) (x y : Val) : Nat := match x, y with
  | .nan, _ => defaultNaN t
  | _, .nan => defaultNaN t
  | .inf _, .inf _ => defaultNaN t
  | .inf a, .fin n _ _ => infPattern t (a != n) false
  | .fin n _ _, .inf b => signBit t (n != b)
  | .fin n1 m1 e1, .fin n2 m2 e2 =>
    if m2 = 0 then (if m1 = 0 then defaultNaN t else infPattern t (n1 != n2) false)
    else if m1 = 0 then signBit t (n1 != n2)
    else
      let num := m1 <<< 96
      roundMag t (n1 != n2) (num / m2) (e1 - e2 - 96) (num % m2 != 0) m

/-- FDIV of R141. -/
def fdiv (t : Ty) (m : BitVec 2) (a b : Nat) : Nat := divVal t m (val t a) (val t b)
/-- FRCP of R146. -/
def frcp (t : Ty) (m : BitVec 2) (a : Nat) : Nat := divVal t m (.fin false 1 0) (val t a)

/-- The integer square root, built from bit `i` downwards onto `r`. -/
def isqrtFrom (n : Nat) : Nat → Nat → Nat
  | 0, r => r
  | i + 1, r =>
    let c := r + 2 ^ i
    if c * c ≤ n then isqrtFrom n i c else isqrtFrom n i r

/-- The integer square root of a number below 2^256. -/
def isqrt (n : Nat) : Nat := isqrtFrom n 128 0

/-- FSQRT of R146. -/
def fsqrt (t : Ty) (m : BitVec 2) (a : Nat) : Nat := match val t a with
  | .nan => defaultNaN t
  | .inf neg => if neg then defaultNaN t else infPattern t false false
  | .fin neg mg e =>
    if mg = 0 then signBit t neg
    else if neg then defaultNaN t
    else
      let k : Nat := if e % 2 = 0 then 96 else 97
      let n := mg <<< k
      let r := isqrt n
      roundMag t false r ((e - k) / 2) (r * r != n) m

/-- FRSQ of R146. -/
def frsq (t : Ty) (m : BitVec 2) (a : Nat) : Nat := match val t a with
  | .nan => defaultNaN t
  | .inf neg => if neg then defaultNaN t else 0
  | .fin neg mg e =>
    if mg = 0 then infPattern t neg false
    else if neg then defaultNaN t
    else
      let k : Nat := if e % 2 = 0 then 200 else 201
      let r := isqrt (2 ^ k / mg)
      roundMag t false r (-((k + e) / 2)) (r * r * mg != 2 ^ k) m

/-- Compares two values that are no NaN, -0 below +0 when `zeros`: less, equal or greater. -/
def cmpVal (zeros : Bool) (x y : Val) : Ordering := match x, y with
  | .inf a, .inf b => if a = b then .eq else if a then .lt else .gt
  | .inf a, _ => if a then .lt else .gt
  | _, .inf b => if b then .gt else .lt
  | .fin n1 m1 e1, .fin n2 m2 e2 =>
    let u := if m1 = 0 then e2 else if m2 = 0 then e1 else min e1 e2
    let p := if m1 = 0 then 0 else scaled n1 m1 e1 u
    let q := if m2 = 0 then 0 else scaled n2 m2 e2 u
    if p < q then .lt else if q < p then .gt
    else if zeros && m1 == 0 && n1 != n2 then (if n1 then .lt else .gt) else .eq
  | .nan, _ => .eq
  | .fin _ _ _, .nan => .eq

/-- FMIN and FMAX of R143: the pattern of the smaller (or larger) operand. -/
def fminmax (t : Ty) (wantMax : Bool) (a b : Nat) : Nat := match val t a, val t b with
  | .nan, .nan => defaultNaN t
  | .nan, _ => low (Ty.width t) b
  | _, .nan => low (Ty.width t) a
  | x, y => match cmpVal true x y with
    | .gt => if wantMax then low (Ty.width t) a else low (Ty.width t) b
    | _ => if wantMax then low (Ty.width t) b else low (Ty.width t) a

/-- Whether a value is a NaN. -/
def Val.isNaN : Val → Bool
  | .nan => true
  | .inf _ => false
  | .fin _ _ _ => false

/-- FCEQ of R145. -/
def fceq (t : Ty) (a b : Nat) : Bool :=
  !(val t a).isNaN && !(val t b).isNaN && cmpVal false (val t a) (val t b) == .eq
/-- FCLT of R145. -/
def fclt (t : Ty) (a b : Nat) : Bool :=
  !(val t a).isNaN && !(val t b).isNaN && cmpVal false (val t a) (val t b) == .lt
/-- FCLE of R145. -/
def fcle (t : Ty) (a b : Nat) : Bool := fclt t a b || fceq t a b
/-- FCUN of R145. -/
def fcun (t : Ty) (a b : Nat) : Bool := (val t a).isNaN || (val t b).isNaN

/-- FCLASS of R147: the mask with one bit set. -/
def fclass (t : Ty) (a : Nat) : Nat := match val t a with
  | .nan => 2 ^ 8
  | .inf true => 2 ^ 0
  | .inf false => 2 ^ 7
  | .fin neg mg _ =>
    if mg = 0 then (if neg then 2 ^ 3 else 2 ^ 4)
    else if mg < 2 ^ fracBits t then (if neg then 2 ^ 2 else 2 ^ 5)
    else (if neg then 2 ^ 1 else 2 ^ 6)

/-- A finite value rounded by M to an integer (R71, R149). -/
def roundInt (neg : Bool) (mg : Nat) (e : Int) (m : BitVec 2) : Int :=
  if 0 ≤ e then scaled neg mg e 0
  else
    let sh := (-e).toNat
    let s := mg >>> sh
    let s' := if roundsUp neg (s % 2 == 1) (mg % 2 ^ sh) (2 ^ (sh - 1)) false m then s + 1 else s
    if neg then -(s' : Int) else s'

/-- FTOI of R151: a floating value to integer type `o`, clamped (R71). -/
def ftoi (t o : Ty) (sgn : Bool) (m : BitVec 2) (a : Nat) : Nat :=
  let w := Ty.width o
  let lo : Int := if o = .aif13 then -4095 else if sgn then -(2 ^ (w - 1)) else 0
  let hi : Int := if o = .aif13 then 4095 else if sgn then 2 ^ (w - 1) - 1 else 2 ^ w - 1
  match val t a with
  | .nan => 0
  | .inf neg => wrapInt w (if neg then lo else hi)
  | .fin neg mg e => wrapInt w (clampInt lo hi (roundInt neg mg e m))

/-- An exact integer rounded into floating type T, zero being +0 (R71, R152). -/
def ofInt (t : Ty) (n : Int) (m : BitVec 2) : Nat := roundTo t (.fin (decide (n < 0)) n.natAbs 0) m

/-- ITOF of R152. -/
def itof (t o : Ty) (sgn : Bool) (m : BitVec 2) (a : Nat) : Nat :=
  ofInt t (if sgn then readS o a else readU o a) m

/-- FCVT of R150. -/
def fcvt (t o : Ty) (ovf : Bool) (m : BitVec 2) (a : Nat) : Nat := roundTo t (val o a) m ovf

/-- FSCALE of R148, and the scaling of a channel (R81): Val × 2^n rounded by M. A count beyond 4096 in magnitude has the
result of 4096. -/
def fscale (t : Ty) (m : BitVec 2) (a : Nat) (n : Int) : Nat := match val t a with
  | .nan => defaultNaN t
  | .inf neg => infPattern t neg false
  | .fin neg mg e => roundTo t (.fin neg mg (e + clampInt (-4096) 4096 n)) m

/-- The channel scaling of a typed floating read: each finite value is multiplied, any other keeps its bits (R81). -/
def scaleRead (t : Ty) (m : BitVec 2) (a : Nat) (n : Int) : Nat := match val t a with
  | .fin _ _ _ => fscale t m a n
  | _ => low (Ty.width t) a

/-- FRND of R149. -/
def frnd (t : Ty) (m : BitVec 2) (a : Nat) : Nat := match val t a with
  | .nan => defaultNaN t
  | .inf neg => infPattern t neg false
  | .fin neg mg e => roundTo t (.fin neg (roundInt neg mg e m).natAbs 0) m

/-- FABS of R144. -/
def fabs (t : Ty) (a : Nat) : Nat := low (Ty.width t - 1) a
/-- FNEG of R144. -/
def fneg (t : Ty) (a : Nat) : Nat := (low (Ty.width t) a + 2 ^ (Ty.width t - 1)) % 2 ^ Ty.width t

end Sys2Proof.Machine
end

