-- ==== Sys2Proof/Machine/Forms.lean ====
section
/-! DEFINITION. The encoding rules of instruction words: for each opcode the modes, types, shapes, modifiers, specifiers and
form of X that its description accepts (R32 to R49, R479 and the field tables of each chapter). -/

namespace Sys2Proof.Machine

/-! ## Codes of the fields -/

/-- The code of a type (R33). -/
def Ty.code : Ty → Nat
  | .b64 => 0 | .b32 => 1 | .b16 => 2 | .b8 => 3 | .f32 => 4 | .bf16 => 5 | .f16 => 6 | .e4m3 => 7 | .e5m2 => 8 | .aif13 => 9

/-- The type that a code names; codes 10 to 15 name none (R33). -/
def Ty.ofCode : Nat → Option Ty
  | 0 => some .b64 | 1 => some .b32 | 2 => some .b16 | 3 => some .b8 | 4 => some .f32 | 5 => some .bf16 | 6 => some .f16
  | 7 => some .e4m3 | 8 => some .e5m2 | 9 => some .aif13 | _ => none

/-- The code of a shape (R34). -/
def Shape.code : Shape → Nat
  | .scalar => 0 | .vector => 1 | .vrep => 2

/-- The shape that a code names; 3 names none (R34). -/
def Shape.ofCode : Nat → Option Shape
  | 0 => some .scalar | 1 => some .vector | 2 => some .vrep | _ => none

/-- The code of a specifier (R36). -/
def Spec.code : Spec → Nat
  | .t i => i.val | .v i => 8 + i.val | .k i => 16 + i.val
  | .il => 0x18 | .ir => 0x19 | .ip => 0x1A | .ts => 0x1B | .zero => 0x1C | .imm => 0x1D | .lane => 0x1E | .nul => 0x1F
  | .g i => 32 + i.val

/-- The specifier that a code names; every 6-bit code names one (R36). -/
def Spec.ofCode (n : Nat) : Spec :=
  if n < 8 then .t (Fin.ofNat 8 n)
  else if n < 16 then .v (Fin.ofNat 8 (n - 8))
  else if n < 24 then .k (Fin.ofNat 8 (n - 16))
  else if 32 ≤ n then .g (Fin.ofNat 32 (n - 32))
  else if n = 0x18 then .il else if n = 0x19 then .ir else if n = 0x1A then .ip else if n = 0x1B then .ts
  else if n = 0x1C then .zero else if n = 0x1D then .imm else if n = 0x1E then .lane else .nul

/-- Bits [hi:lo] of X. -/
def xField (x : BitVec 29) (hi lo : Nat) : Nat := (x.toNat >>> lo) % 2 ^ (hi - lo + 1)
/-- Bit n of X. -/
def xBit (x : BitVec 29) (n : Nat) : Bool := x.toNat.testBit n

/-! ## Sets of specifiers, as masks over their 64 codes -/

/-- t0 to t7. -/
def sT : Nat := 0xFF
/-- v0 to v7. -/
def sV : Nat := 0xFF00
/-- k0 to k7. -/
def sK : Nat := 0xFF0000
/-- il. -/
def sIl : Nat := 0x1000000
/-- ir. -/
def sIr : Nat := 0x2000000
/-- ip. -/
def sIp : Nat := 0x4000000
/-- ts. -/
def sTs : Nat := 0x8000000
/-- zero. -/
def sZero : Nat := 0x10000000
/-- imm. -/
def sImm : Nat := 0x20000000
/-- lane. -/
def sLane : Nat := 0x40000000
/-- nul. -/
def sNul : Nat := 0x80000000
/-- g0 to g31. -/
def sG : Nat := 0xFFFFFFFF00000000
/-- The scalar bases of R233. -/
def sBase : Nat := sT + sK + sZero + sIl + sIr + sG
/-- The wide payloads of R233 and R271. -/
def sData : Nat := sV + sIl + sIr

/-- Whether a set holds a specifier. -/
def holds (mask : Nat) (s : Spec) : Bool := mask.testBit (Spec.code s)

/-- The specifiers legal in a mode (R36). -/
def legalIn : Mode → Nat
  | .firing => 0xFFFFFFFF
  | .steward => sG + sZero + sImm + sNul

/-! ## Rows -/

/-- The types an opcode accepts. -/
inductive Types
  /-- T has no meaning and is 0x0. -/
  | none
  /-- The types whose codes the mask holds. -/
  | mask (m : Nat)
  /-- The types of the atomic operations (R240). -/
  | atomic
  /-- The types of the collective operations (R446). -/
  | collective
  deriving DecidableEq, Repr

/-- What M means for an opcode (R35). -/
inductive Modifier
  /-- M has no meaning and is 0b00. -/
  | none
  /-- The rounding of a floating T, or the reduction of an integer T. -/
  | byType
  /-- Rounding for a floating T, no meaning for an integer T (R240). -/
  | floatOnly
  /-- As `byType` for a sum, no meaning otherwise (R446). -/
  | collective
  deriving DecidableEq, Repr

/-- What an operand position holds. -/
inductive Pos
  /-- Unused: nul in D, zero elsewhere (R20). -/
  | none
  /-- A scalar. -/
  | scalar
  /-- A 64-lane vector. -/
  | vector
  /-- An elementwise position: the shape says which (R34, R37, R38). -/
  | elem
  /-- An elementwise position that takes the given specifiers only. -/
  | elemOnly (m : Nat)
  /-- The given specifiers only. -/
  | only (m : Nat)
  /-- A result that only steward mode has (R228). -/
  | result
  /-- The given specifiers, by mode: firing, steward. -/
  | byMode (f s : Nat)
  deriving DecidableEq, Repr

/-- The form of X, as far as R49's FORM and ZERO checks need it. -/
inductive Form
  /-- No field whose value the decoder checks. -/
  | plain
  /-- One field [.. : lo] of the given mask, whose ill-formed values the set holds. -/
  | field (mask lo bad : Nat)
  /-- FCVT of the conversion form (R150). -/
  | fcvt
  /-- FTOI and ITOF of the conversion form (R151, R152). -/
  | icvt
  /-- The memory and gather forms: spaces in firing and in steward mode, sizes, and whether T names the size (R233, R235). -/
  | mem (fs ss sizes : Nat) (typed : Bool)
  /-- The atomic form (R240). -/
  | atom
  /-- The send form, and any form whose route index stands in X[28:24] (R44). -/
  | send
  /-- STEER, which also names the next route (R191). -/
  | steer
  /-- SPHDR (R296). -/
  | sphdr
  /-- JOIN and LEAVE (R442). -/
  | member
  /-- A reply route in X[22:18]. -/
  | reply
  /-- TLRD: a reply route and SEL (R404). -/
  | replySel
  /-- The engine form; `rows` for ISTRM (R401, R402). -/
  | engine (rows : Bool)
  /-- COLL (R446). -/
  | coll
  /-- The remote form; `load` for RLD (R437). -/
  | remote (load : Bool)
  /-- The remote atomic form (R437). -/
  | ratom
  deriving DecidableEq, Repr

/-- What an opcode's description accepts. -/
structure Row where
  /-- Legal in firing mode (R48). -/
  firing : Bool := true
  /-- Legal in steward mode (R48). -/
  steward : Bool := true
  /-- Types. -/
  types : Types := .none
  /-- Shapes, bit n for code n. -/
  shapes : Nat := 1
  /-- Modifier. -/
  mod : Modifier := .none
  /-- Position D. -/
  d : Pos := .none
  /-- Position A. -/
  a : Pos := .none
  /-- Position B. -/
  b : Pos := .none
  /-- A third specifier in X: its low bit and its position. -/
  c : Option (Nat × Pos) := .none
  /-- Whether A or B may hold imm. -/
  imm : Bool := false
  /-- The bits of X that the description names. -/
  named : Nat := 0
  /-- The form of X. -/
  form : Form := .plain
  deriving DecidableEq, Repr

/-- The row of an opcode, none where R47 leaves it unassigned. -/
def opRow (op : Nat) : Option Row := match op with
  | 0x00 => some { shapes := 1 }
  | 0x01 => some { types := (.mask 0x20F), shapes := 7, mod := .byType, d := .elem, a := .elem, b := .elem, imm := true }
  | 0x02 => some { types := (.mask 0x20F), shapes := 7, mod := .byType, d := .elem, a := .elem, b := .elem, imm := true }
  | 0x03 => some { types := (.mask 0x00F), shapes := 7, mod := .byType, d := .elem, a := .elem, b := .elem, imm := true }
  | 0x04 => some { types := (.mask 0x00F), shapes := 7, d := .elem, a := .elem, b := .elem, imm := true }
  | 0x05 => some { types := (.mask 0x00F), shapes := 7, d := .elem, a := .elem, b := .elem, imm := true }
  | 0x06 => some { types := (.mask 0x00F), shapes := 7, mod := .byType, d := .elem, a := .elem, b := .elem, imm := true }
  | 0x07 => some { types := (.mask 0x00F), shapes := 7, mod := .byType, d := .elem, a := .elem, b := .elem, imm := true }
  | 0x08 => some { types := (.mask 0x00F), shapes := 7, d := .elem, a := .elem, b := .elem, imm := true }
  | 0x09 => some { types := (.mask 0x00F), shapes := 7, d := .elem, a := .elem, b := .elem, imm := true }
  | 0x0A => some { types := (.mask 0x20F), shapes := 7, d := .elem, a := .elem, b := .elem, imm := true }
  | 0x0B => some { types := (.mask 0x00F), shapes := 7, d := .elem, a := .elem, b := .elem, imm := true }
  | 0x0C => some { types := (.mask 0x20F), shapes := 7, d := .elem, a := .elem, b := .elem, imm := true }
  | 0x0D => some { types := (.mask 0x00F), shapes := 7, d := .elem, a := .elem, b := .elem, imm := true }
  | 0x0E => some { types := (.mask 0x20F), shapes := 7, mod := .byType, d := .elem, a := .elem, imm := true }
  | 0x0F => some { types := (.mask 0x20F), shapes := 7, mod := .byType, d := .elem, a := .elem, imm := true }
  | 0x10 => some { types := (.mask 0x00F), shapes := 7, d := .elem, a := .elem, b := .elem, imm := true }
  | 0x11 => some { types := (.mask 0x00F), shapes := 7, d := .elem, a := .elem, b := .elem, imm := true }
  | 0x12 => some { types := (.mask 0x00F), shapes := 7, d := .elem, a := .elem, b := .elem, imm := true }
  | 0x13 => some { types := (.mask 0x00F), shapes := 7, d := .elem, a := .elem, b := .elem, imm := true }
  | 0x14 => some { types := (.mask 0x00F), shapes := 7, d := .elem, a := .elem, imm := true }
  | 0x15 => some { types := (.mask 0x00F), shapes := 7, d := .elem, a := .elem, b := .elem, imm := true }
  | 0x16 => some { types := (.mask 0x00F), shapes := 7, d := .elem, a := .elem, b := .elem, imm := true }
  | 0x17 => some { types := (.mask 0x00F), shapes := 7, d := .elem, a := .elem, b := .elem, imm := true }
  | 0x18 => some { types := (.mask 0x00F), shapes := 7, d := .elem, a := .elem, b := .elem, imm := true }
  | 0x19 => some { types := (.mask 0x00F), shapes := 7, d := .elem, a := .elem, imm := true }
  | 0x1A => some { types := (.mask 0x00F), shapes := 7, d := .elem, a := .elem, imm := true }
  | 0x1B => some { types := (.mask 0x00F), shapes := 7, d := .elem, a := .elem, imm := true }
  | 0x1C => some { types := (.mask 0x00F), shapes := 7, d := .elem, a := .elem, b := .elem, imm := true }
  | 0x1D => some { types := (.mask 0x00F), shapes := 7, d := .elem, a := .elem, b := .elem, c := (some (23, .elem)), named := 0x1F800000 }
  | 0x1E => some { types := (.mask 0x00F), shapes := 7, d := .elem, a := .elem, b := .elem, imm := true }
  | 0x1F => some { types := (.mask 0x00F), shapes := 7, d := .elem, a := .elem, b := .elem, imm := true }
  | 0x20 => some { types := (.mask 0x20F), shapes := 7, d := .elem, a := .elem, b := .elem, imm := true }
  | 0x21 => some { types := (.mask 0x20F), shapes := 7, d := .elem, a := .elem, b := .elem, imm := true }
  | 0x22 => some { types := (.mask 0x20F), shapes := 7, d := .elem, a := .elem, b := .elem, imm := true }
  | 0x23 => some { types := (.mask 0x20F), shapes := 7, d := .elem, a := .elem, b := .elem, imm := true }
  | 0x24 => some { types := (.mask 0x00F), shapes := 7, d := .elem, a := .elem, b := .elem, imm := true }
  | 0x25 => some { types := (.mask 0x00F), shapes := 7, d := .elem, a := .elem, b := .elem, imm := true }
  | 0x26 => some { types := (.mask 0x3FF), shapes := 7, d := .elem, a := .elem, b := .elem, c := (some (23, .elem)), named := 0x1F800000 }
  | 0x27 => some { types := (.mask 0x3FF), shapes := 3, d := .elem, a := .elem, imm := true }
  | 0x28 => some { shapes := 1, d := .scalar, a := (.only sImm), imm := true }
  | 0x29 => some { shapes := 1, d := .scalar, a := .scalar, b := (.only sImm), imm := true }
  | 0x2A => some { types := (.mask 0x00F), shapes := 7, mod := .byType, d := .elem, a := .elem, b := .elem, c := (some (23, .elem)), named := 0x1F800000 }
  | 0x2B => some { types := (.mask 0x00F), shapes := 1, d := .scalar, a := .scalar, b := .scalar, imm := true }
  | 0x2C => some { types := (.mask 0x00F), shapes := 1, d := .scalar, a := .scalar, b := .scalar, imm := true }
  | 0x40 => some { types := (.mask 0x070), shapes := 7, mod := .byType, d := .elem, a := .elem, b := .elem, imm := true }
  | 0x41 => some { types := (.mask 0x070), shapes := 7, mod := .byType, d := .elem, a := .elem, b := .elem, imm := true }
  | 0x42 => some { types := (.mask 0x070), shapes := 7, mod := .byType, d := .elem, a := .elem, b := .elem, imm := true }
  | 0x43 => some { types := (.mask 0x070), shapes := 7, mod := .byType, d := .elem, a := .elem, b := .elem, c := (some (23, .elem)), named := 0x1F800000 }
  | 0x44 => some { types := (.mask 0x070), shapes := 7, mod := .byType, d := .elem, a := .elem, b := .elem, c := (some (23, .elem)), named := 0x1F800000 }
  | 0x45 => some { types := (.mask 0x070), shapes := 7, d := .elem, a := .elem, b := .elem, imm := true }
  | 0x46 => some { types := (.mask 0x070), shapes := 7, d := .elem, a := .elem, b := .elem, imm := true }
  | 0x47 => some { types := (.mask 0x1F0), shapes := 3, d := .elem, a := .elem, imm := true }
  | 0x48 => some { types := (.mask 0x1F0), shapes := 3, d := .elem, a := .elem, imm := true }
  | 0x49 => some { types := (.mask 0x1F0), shapes := 7, d := .elem, a := .elem, b := .elem, imm := true }
  | 0x4A => some { types := (.mask 0x1F0), shapes := 7, d := .elem, a := .elem, b := .elem, imm := true }
  | 0x4B => some { types := (.mask 0x1F0), shapes := 7, d := .elem, a := .elem, b := .elem, imm := true }
  | 0x4C => some { types := (.mask 0x1F0), shapes := 7, d := .elem, a := .elem, b := .elem, imm := true }
  | 0x4D => some { types := (.mask 0x070), shapes := 7, mod := .byType, d := .elem, a := .elem, b := .elem, imm := true }
  | 0x4E => some { types := (.mask 0x070), shapes := 3, mod := .byType, d := .elem, a := .elem, imm := true }
  | 0x4F => some { types := (.mask 0x070), shapes := 3, mod := .byType, d := .elem, a := .elem, imm := true }
  | 0x50 => some { types := (.mask 0x070), shapes := 3, mod := .byType, d := .elem, a := .elem, imm := true }
  | 0x51 => some { types := (.mask 0x070), shapes := 3, mod := .byType, d := .elem, a := .elem, imm := true }
  | 0x52 => some { types := (.mask 0x070), shapes := 3, mod := .byType, d := .elem, a := .elem, imm := true }
  | 0x53 => some { types := (.mask 0x070), shapes := 3, mod := .byType, d := .elem, a := .elem, imm := true }
  | 0x54 => some { types := (.mask 0x1F0), shapes := 3, d := .elem, a := .elem, imm := true }
  | 0x55 => some { types := (.mask 0x1F0), shapes := 3, mod := .byType, d := .elem, a := .elem, named := 0x1F, form := .fcvt }
  | 0x56 => some { types := (.mask 0x1F0), shapes := 3, mod := .byType, d := .elem, a := .elem, named := 0x1F, form := .icvt }
  | 0x57 => some { types := (.mask 0x1F0), shapes := 3, mod := .byType, d := .elem, a := .elem, named := 0x1F, form := .icvt }
  | 0x58 => some { types := (.mask 0x070), shapes := 7, mod := .byType, d := .elem, a := .elem, b := .elem, imm := true }
  | 0x59 => some { types := (.mask 0x070), shapes := 3, mod := .byType, d := .elem, a := .elem, imm := true }
  | 0x70 => some { steward := false, types := (.mask 0x3FE), shapes := 2, d := .vector, a := (.only (sT + sK + sIl + sIr + sIp + sZero + sImm)), imm := true }
  | 0x71 => some { steward := false, types := (.mask 0x3FE), shapes := 4, d := .scalar, a := .vector, b := (.only (sK + sZero + sImm)), imm := true }
  | 0x72 => some { steward := false, types := (.mask 0x3FE), shapes := 4, d := .vector, a := .vector, b := (.only (sK + sZero + sImm)), imm := true }
  | 0x73 => some { steward := false, types := (.mask 0x3FE), shapes := 2, d := .vector, a := .vector, b := .vector }
  | 0x74 => some { steward := false, types := (.mask 0x3FE), shapes := 4, d := .vector, a := .vector, b := (.only (sK + sZero + sImm)), imm := true }
  | 0x75 => some { steward := false, types := (.mask 0x3FE), shapes := 4, d := .vector, a := .vector, b := (.only (sK + sZero + sImm)), imm := true }
  | 0x76 => some { steward := false, types := (.mask 0x07E), shapes := 2, mod := .byType, d := .scalar, a := (.only sData) }
  | 0x77 => some { steward := false, types := (.mask 0x07E), shapes := 2, d := .scalar, a := (.only sData) }
  | 0x78 => some { steward := false, types := (.mask 0x07E), shapes := 2, d := .scalar, a := (.only sData) }
  | 0x79 => some { steward := false, types := (.mask 0x07E), shapes := 2, mod := .byType, d := .vector, a := .vector }
  | 0x7A => some { steward := false, types := (.mask 0x3EC), shapes := 2, d := .vector, a := .vector, b := .vector }
  | 0x7B => some { steward := false, types := (.mask 0x3EC), shapes := 4, d := .vector, a := .vector, b := (.only (sK + sZero + sImm)), imm := true }
  | 0x7C => some { steward := false, shapes := 2, d := .scalar, a := .vector }
  | 0x7D => some { steward := false, types := (.mask 0x3FE), shapes := 6, d := .vector, a := .vector, b := .elem, c := (some (23, .only (sT + sK + sZero))), named := 0x1F800000 }
  | 0x7E => some { steward := false, types := (.mask 0x3FE), shapes := 2, d := .vector, a := .vector, c := (some (23, .scalar)), named := 0x1F800000 }
  | 0x7F => some { steward := false, types := (.mask 0x3FE), shapes := 2, d := .vector, a := .vector, c := (some (23, .scalar)), named := 0x1F800000 }
  | 0x80 => some { steward := false, shapes := 2, d := .vector, a := (.only (sT + sK + sZero + sImm)), imm := true }
  | 0x81 => some { steward := false, types := (.mask 0x012), shapes := 4, mod := .byType, d := (.only (sT + sNul)), a := (.only (sIl + sIr)), b := (.only (sK + sZero + sImm)), imm := true }
  | 0x90 => some { steward := false, types := (.mask 0x3FF), shapes := 3, a := .elem, named := 0x1FFE0000, form := .send }
  | 0x91 => some { steward := false, types := (.mask 0x3FF), shapes := 3, a := .elem, b := (.only (sT + sK + sIl + sIr + sIp + sTs + sZero)), named := 0x1F000000, form := .send }
  | 0x92 => some { steward := false, types := (.mask 0x3FF), shapes := 3, a := .elem, b := (.only (sT + sK + sIl + sIr + sIp + sTs + sZero)), named := 0x1FFE0000, form := .steer }
  | 0x93 => some { steward := false, shapes := 1, a := (.only (sT + sK + sIl + sIr + sTs)), named := 0x1F000000, form := .send }
  | 0x94 => some { steward := false, shapes := 1, d := .scalar, a := (.only (sT + sK + sIl + sIr + sTs)), named := 0x7, form := (.field 7 0 0xC0) }
  | 0x95 => some { steward := false, types := (.mask 0x3FF), shapes := 3, a := .elem, named := 0x1FFE0000, form := .send }
  | 0x96 => some { steward := false, shapes := 1, named := 0x1F7FE000, form := .member }
  | 0x97 => some { steward := false, shapes := 1, named := 0x1F7FE000, form := .member }
  | 0x98 => some { steward := false, types := (.mask 0x3FF), shapes := 3, a := .elem, named := 0x1FFE0000, form := .send }
  | 0x99 => some { steward := false, shapes := 3, named := 0x1F800000, form := .send }
  | 0x9A => some { steward := false, types := (.mask 0x3FF), shapes := 3, a := .elem, named := 0x1F800000, form := .send }
  | 0x9B => some { steward := false, shapes := 3, a := (.elemOnly (sIl + sIr + sIp)), named := 0x1F000000, form := .send }
  | 0x9C => some { steward := false, types := (.mask 0x3FF), shapes := 3, a := .elem, named := 0x1FFE0000, form := .send }
  | 0xA0 => some { types := (.mask 0x3FF), shapes := 1, d := .scalar, a := (.only sBase), named := 0x1FFFFFFF, form := (.mem 0x0F 0x3F 0x0F true) }
  | 0xA1 => some { types := (.mask 0x3FF), shapes := 1, a := (.only sBase), b := (.only sBase), named := 0x1FFFFFFF, form := (.mem 0x0F 0x3F 0x0F true) }
  | 0xA2 => some { shapes := 1, d := .scalar, a := (.only sBase), named := 0x1FFFFFFF, form := (.mem 0x07 0x07 0x08 false) }
  | 0xA3 => some { shapes := 1, a := (.only sBase), b := (.only sBase), named := 0x1FFFFFFF, form := (.mem 0x07 0x07 0x08 false) }
  | 0xA4 => some { shapes := 1, a := (.only sBase), named := 0x1FFFFFFF, form := (.mem 0x07 0x07 0x48 false) }
  | 0xA5 => some { types := .atomic, shapes := 1, mod := .floatOnly, a := (.only sBase), b := (.only sBase), named := 0x1FFFFFF8, form := .atom }
  | 0xA6 => some { types := .atomic, shapes := 1, mod := .floatOnly, d := .scalar, a := (.only sBase), b := (.only sBase), named := 0x1FFFFFF8, form := .atom }
  | 0xA7 => some { shapes := 1, a := (.only sBase), named := 0x1FFFFFFF, form := (.mem 0x08 0x18 0x40 false) }
  | 0xA8 => some { shapes := 1, a := (.only sBase), named := 0x1FFFFFFF, form := (.mem 0x08 0x18 0x40 false) }
  | 0xA9 => some { shapes := 1, a := (.only sBase), named := 0x1FFFFFFF, form := (.mem 0x08 0x18 0x40 false) }
  | 0xAA => some { steward := false, shapes := 1, a := (.only sBase), b := (.only sBase), named := 0x1FFFFFFF, form := (.mem 0x09 0x00 0x08 false) }
  | 0xAB => some { shapes := 1, named := 0x7, form := (.field 7 0 0xE0) }
  | 0xAC => some { steward := false, shapes := 2, d := .vector, a := (.only sBase), named := 0x1FFFFFFF, form := (.mem 0x0F 0x00 0x70 false) }
  | 0xAD => some { steward := false, shapes := 2, a := (.only sBase), b := (.only sData), named := 0x1FFFFFFF, form := (.mem 0x0F 0x00 0x70 false) }
  | 0xAE => some { steward := false, shapes := 2, d := .vector, a := (.only sData), c := (some (12, .only sBase)), named := 0x1FFFFFFF, form := (.mem 0x0F 0x00 0x07 false) }
  | 0xAF => some { steward := false, shapes := 2, a := (.only sData), b := (.only sData), c := (some (12, .only sBase)), named := 0x1FFFFFFF, form := (.mem 0x0F 0x00 0x07 false) }
  | 0xB0 => some { steward := false, shapes := 1, a := (.only sBase), b := (.only sBase), named := 0x1FFFFFFF, form := (.mem 0x0E 0x00 0x08 false) }
  | 0xB1 => some { steward := false, shapes := 1, a := (.only sBase), b := (.only sBase), named := 0x1FFFFFFF, form := (.mem 0x0E 0x00 0x08 false) }
  | 0xB2 => some { steward := false, shapes := 1, a := (.only sBase), b := (.only sBase), c := (some (23, .only sBase)), named := 0x1FFC0000, form := .reply }
  | 0xB3 => some { steward := false, shapes := 1, a := (.only sBase), b := (.only sBase), named := 0x1FFFFFFF, form := (.mem 0x0F 0x00 0x01 false) }
  | 0xC0 => some { steward := false, types := (.mask 0x032), shapes := 1, mod := .byType, named := 0x3, form := (.field 3 0 0x8) }
  | 0xC1 => some { steward := false, types := (.mask 0x3E8), shapes := 2, a := (.only sData), b := (.only (sT + sK + sZero + sImm + sIl + sIr)), imm := true }
  | 0xC2 => some { steward := false, types := (.mask 0x3E8), shapes := 2, a := (.only sData), b := (.only (sT + sK + sZero + sImm + sIl + sIr)), imm := true }
  | 0xC3 => some { steward := false, types := (.mask 0x032), shapes := 2, d := (.only sV), b := (.only (sT + sK + sZero + sImm + sIl + sIr)), imm := true }
  | 0xC4 => some { steward := false, shapes := 1, named := 0x1 }
  | 0xC5 => some { steward := false, shapes := 2, d := (.only sV), named := 0x3, form := (.field 3 0 0x8) }
  | 0xC6 => some { steward := false, shapes := 1, d := (.only (sT + sNul)), named := 0x1F, form := (.field 3 0 0xC) }
  | 0xC7 => some { steward := false, shapes := 1, a := (.only (sT + sK + sZero + sImm + sIl + sIr)), b := (.only (sT + sK + sZero + sImm + sIl + sIr)), imm := true, c := (some (23, .only (sT + sK + sZero + sIl + sIr))), named := 0x1F800000 }
  | 0xC8 => some { steward := false, shapes := 1, d := (.only (sT + sNul)), named := 0x1F800000, form := .send }
  | 0xC9 => some { steward := false, shapes := 1, a := (.only (sT + sK + sZero + sImm + sIl + sIr)), b := (.only (sT + sK + sZero + sImm + sIl + sIr)), imm := true }
  | 0xCA => some { steward := false, types := (.mask 0x3E8), shapes := 2, d := (.only sV), a := (.only (sT + sK + sZero + sImm + sIl + sIr)), imm := true }
  | 0xCB => some { steward := false, shapes := 1, a := (.only (sT + sK + sZero + sImm + sIl + sIr)), b := (.only (sT + sK + sZero + sImm + sIl + sIr)), imm := true, named := 0x1FE00000, form := .sphdr }
  | 0xCC => some { steward := false, shapes := 2, d := (.only (sT + sNul)), a := (.only sData), b := (.only sData) }
  | 0xCD => some { steward := false, types := (.mask 0x072), shapes := 2, mod := .byType, d := (.only sV), a := (.only sData), b := (.only sData) }
  | 0xCE => some { steward := false, types := (.mask 0x3E8), shapes := 2, d := (.only sV), a := (.only sData), b := (.only (sT + sK + sIl + sIr)), named := 0x7 }
  | 0xD0 => some { shapes := 1, d := (.only (sG + sNul)), a := (.only sBase), b := (.only sBase), c := (some (23, .only (sT + sK + sIl + sIr + sG))), named := 0x1FFFF800, form := (.engine false) }
  | 0xD1 => some { shapes := 1, d := (.only (sG + sNul)), a := (.only sBase), b := (.only sBase), c := (some (23, .only (sT + sK + sIl + sIr + sG))), named := 0x1FFFF800, form := (.engine true) }
  | 0xD2 => some { shapes := 1, d := .result, a := .scalar, b := .scalar, named := 0x7C0000, form := .reply }
  | 0xD3 => some { shapes := 1, d := .result, a := .scalar, named := 0x7C0003, form := .replySel }
  | 0xD4 => some { types := .collective, shapes := 1, mod := .collective, a := .scalar, b := .scalar, c := (some (23, .scalar)), named := 0x1FFFFFF8, form := .coll }
  | 0xD5 => some { types := (.mask 0x3FF), shapes := 1, d := .result, a := (.only sBase), b := (.only sBase), c := (some (23, .only sZero)), named := 0x1FFFFFFF, form := (.remote true) }
  | 0xD6 => some { types := (.mask 0x3FF), shapes := 1, d := .result, a := (.only sBase), b := (.only sBase), c := (some (23, .only sBase)), named := 0x1FFFFFFF, form := (.remote false) }
  | 0xD7 => some { types := .atomic, shapes := 1, mod := .floatOnly, d := .result, a := (.only sBase), b := (.only sBase), c := (some (23, .only sBase)), named := 0x1FFFFFF8, form := .ratom }
  | 0xD8 => some { firing := false, shapes := 1, d := .scalar, a := (.only sG), b := (.only (sG + sZero)) }
  | 0xD9 => some { shapes := 1, d := (.byMode (sT + sNul) sG), a := (.byMode sBase sG), named := 0x7C0000, form := .reply }
  | 0xDA => some { firing := false, shapes := 1, a := (.only sG), named := 0x1 }
  | 0xDB => some { firing := false, shapes := 1, d := .scalar, a := (.only sG) }
  | 0xE0 => some { firing := false, shapes := 1, named := 0x1FFFFFFF }
  | 0xE1 => some { firing := false, shapes := 1, a := (.only (sG + sZero)), named := 0x1FFFFFFF }
  | 0xE2 => some { firing := false, shapes := 1, a := (.only (sG + sZero)), named := 0x1FFFFFFF }
  | 0xE3 => some { firing := false, shapes := 1, a := (.only (sG + sZero)), b := (.only (sG + sZero)), named := 0x1FFFFFFF }
  | 0xE4 => some { firing := false, shapes := 1, a := (.only (sG + sZero)), b := (.only (sG + sZero)), named := 0x1FFFFFFF }
  | 0xE5 => some { firing := false, shapes := 1, a := (.only (sG + sZero)), b := (.only (sG + sZero)), named := 0x1FFFFFFF }
  | 0xE6 => some { firing := false, shapes := 1, a := (.only (sG + sZero)), b := (.only (sG + sZero)), named := 0x1FFFFFFF }
  | 0xE7 => some { firing := false, shapes := 1, a := (.only (sG + sZero)), b := (.only (sG + sZero)), named := 0x1FFFFFFF }
  | 0xE8 => some { firing := false, shapes := 1, a := (.only (sG + sZero)), b := (.only (sG + sZero)), named := 0x1FFFFFFF }
  | 0xE9 => some { firing := false, shapes := 1, d := (.only sG), a := (.only (sG + sZero)), named := 0x1FFFFFFF }
  | 0xEA => some { firing := false, shapes := 1, a := (.only (sG + sZero)) }
  | 0xEB => some { firing := false, shapes := 1, d := .scalar, a := (.only (sG + sZero)), named := 0x1FFFFFFF }
  | 0xEC => some { firing := false, shapes := 1, d := .scalar, a := .scalar, b := .scalar, imm := true }
  | 0xED => some { firing := false, shapes := 1, d := .scalar, a := .scalar, b := .scalar, imm := true }
  | 0xEE => some { firing := false, shapes := 1, a := (.only (sG + sZero)), b := (.only (sG + sZero)), c := (some (23, .only (sG + sZero))), named := 0x1FFFE000 }
  | 0xF0 => some { shapes := 1, a := .scalar, imm := true }
  | 0xF1 => some { firing := false, shapes := 1 }
  | 0xF2 => some { shapes := 1, d := .scalar, named := 0xFFF }
  | 0xF3 => some { firing := false, shapes := 1, a := (.only (sG + sZero)), named := 0xFFF }
  | 0xF4 => some { firing := false, shapes := 1, d := .scalar, a := (.only (sG + sZero)), b := (.only (sG + sZero)), named := 0x1 }
  | 0xF5 => some { firing := false, shapes := 1, d := .scalar, a := (.only (sG + sZero)), named := 0x1 }
  | 0xF6 => some { firing := false, shapes := 1, d := .scalar, a := (.only (sG + sZero)), named := 0x1 }
  | 0xF7 => some { firing := false, shapes := 1, d := .scalar, a := (.only (sG + sZero)) }
  | 0xF8 => some { firing := false, shapes := 1, d := .scalar, a := (.only (sG + sZero)), b := (.only (sG + sZero)) }
  | 0xF9 => some { firing := false, shapes := 1, d := .scalar, a := (.only (sG + sZero)), b := (.only (sG + sZero)) }
  | 0xFA => some { firing := false, shapes := 1, d := .scalar, a := (.only (sG + sZero)), named := 0x3, form := (.field 3 0 0x8) }
  | 0xFB => some { firing := false, shapes := 1, d := .scalar, a := (.only (sG + sZero)), named := 0x1 }
  | 0xFC => some { firing := false, shapes := 1, d := .scalar, a := (.only (sG + sZero)), named := 0x1 }
  | 0xFD => some { firing := false, shapes := 1, a := (.only (sG + sZero)), named := 0xF, form := (.field 7 1 0xF3) }
  | 0xFE => some { firing := false, shapes := 1, d := .scalar, a := (.only (sG + sZero)) }
  | _ => none

/-! ## The checks of R49, from TYPE on -/

/-- A sub-cause of ILLOP (R49). -/
inductive SubCause
  | opc | mode | type | shape | mod | spec | form | zero
  deriving DecidableEq, Repr

/-- The 4-bit code of a sub-cause (R49). -/
def subCode : SubCause → Nat
  | .opc => 1 | .mode => 2 | .type => 3 | .shape => 4 | .mod => 5 | .spec => 6 | .form => 7 | .zero => 8

/-- The operation code AOP of the atomic forms (R240). -/
def aopOf (x : BitVec 29) : Nat := xField x 17 14

/-- The types that an atomic operation takes (R240). An ill-formed operation is found under FORM. -/
def aopTypes (aop : Nat) : Nat := if aop < 10 then 0x003 else if aop = 10 then 0x010 else if aop = 11 then 0x020 else 0x033

/-- The types that a collective operation takes (R446). An ill-formed operation is found under FORM. -/
def collTypes (op : Nat) : Nat := if op = 0 then 0x032 else if op < 3 then 0x012 else if op = 3 then 0x001 else 0x033

/-- Whether the row accepts the type (TYPE). -/
def typeOk (r : Row) (ty : Ty) (x : BitVec 29) : Bool := match r.types with
  | .none => ty == .b64
  | .mask m => m.testBit (Ty.code ty)
  | .atomic => (aopTypes (aopOf x)).testBit (Ty.code ty)
  | .collective => (collTypes (xField x 12 9)).testBit (Ty.code ty)

/-- Whether the row accepts the shape (SHAPE): a vector shape with b64 is ill-formed where T has a meaning, and so is a
vector FTOI with OTHER = b64 (R34, R151). -/
def shapeOk (op : Nat) (r : Row) (mode : Mode) (o : Ops) : Bool :=
  r.shapes.testBit (Shape.code o.sh) && (mode == .firing || o.sh == .scalar) &&
  (o.sh == .scalar || r.types == .none || o.ty != .b64) &&
  (o.sh == .scalar || op != 0x56 || xField o.x 3 0 != 0)

/-- Whether the row accepts the modifier (MOD). -/
def modOk (r : Row) (o : Ops) : Bool :=
  let byType := Ty.isFloat o.ty || o.m != 3#2
  match r.mod with
  | .none => o.m == 0#2
  | .byType => byType
  | .floatOnly => o.m == 0#2 || aopOf o.x == 10 || aopOf o.x == 11
  | .collective => if xField o.x 12 9 = 0 then byType else o.m == 0#2

/-- The specifiers that D takes at a position. -/
def dSet (mode : Mode) (p : Pos) (sh : Shape) : Nat := match p with
  | .none => sNul
  | .scalar => sT + sG + sNul
  | .vector => sV + sNul
  | .elem => if sh = .scalar then sT + sG + sNul else sV + sNul
  | .elemOnly m => m
  | .only m => m
  | .result => sT + sG + sNul
  | .byMode f s => if mode = .firing then f else s

/-- The scalar sources of R36. -/
def scalarSources : Nat := sT + sK + sIl + sIr + sIp + sTs + sZero + sImm + sG
/-- The vector sources of R36 and R37. -/
def vectorSources : Nat := sV + sIl + sIr + sZero + sLane
/-- The sources of a replicated B (R38). -/
def replicatedSources : Nat := sK + sZero + sImm

/-- The specifiers that a source takes at a position; `isB` for position B. Beside a replicated B, an elementwise A may be imm, which R41
replicates; it takes none of t, k, ip and ts (R36 to R38; log 53). -/
def srcSet (mode : Mode) (p : Pos) (sh : Shape) (isB : Bool) : Nat :=
  let elems := match sh with
    | .scalar => scalarSources
    | .vector => vectorSources
    | .vrep => if isB then replicatedSources else vectorSources + sImm
  match p with
  | .none => sZero
  | .scalar => scalarSources
  | .vector => vectorSources
  | .elem => elems
  | .elemOnly m => m &&& elems
  | .only m => m
  | .result => 0
  | .byMode f s => if mode = .firing then f else s

/-- The third specifier of a form that has one. -/
def cSpec (r : Row) (x : BitVec 29) : Option Spec := match r.c with
  | none => none
  | some (lo, _) => some (Spec.ofCode (xField x (lo + 5) lo))

/-- Whether an opcode of the atomic forms compares: CAS (R240). -/
def isCas (r : Row) (x : BitVec 29) : Bool := (r.form == .atom || r.form == .ratom) && aopOf x == 9

/-- The compare specifier of a CAS. -/
def cmpSpec (x : BitVec 29) : Spec := Spec.ofCode (xField x 11 6)

/-- Whether the memory form runs inside the firing: a load, store, STP or CLRP of SCR, but not LDP or an atomic (R228). -/
def isSync (op : Nat) (x : BitVec 29) : Bool :=
  xField x 28 26 == 0 && (op == 0xA0 || op == 0xA1 || op == 0xA3 || op == 0xA4 || op == 0xAC || op == 0xAD || op == 0xAE
    || op == 0xAF)

/-- Whether a word is of a split-phase form in its mode, whose D is nul (R228). -/
def isSplit (op : Nat) (r : Row) (mode : Mode) (x : BitVec 29) : Bool := mode == .firing && match r.form with
  | .mem _ _ _ _ => !isSync op x
  | .atom | .reply | .replySel | .remote _ | .ratom => true
  | .plain | .field _ _ _ | .fcvt | .icvt | .send | .steer | .sphdr | .member | .engine _ | .coll => false

/-- The specifiers that D takes: of a split-phase form any that can be written, for FORM refuses all but nul (R36, R37, R228; log 57). -/
def dHolds (op : Nat) (r : Row) (mode : Mode) (o : Ops) : Nat :=
  if isSplit op r mode o.x then sT + sV + sNul else dSet mode r.d o.sh

/-- Whether every specifier suits the mode and its position (SPEC; R36 to R38). -/
def specOk (op : Nat) (r : Row) (mode : Mode) (o : Ops) : Bool :=
  let noImm := fun (s : Spec) => r.imm || s != .imm
  holds (legalIn mode) o.d && holds (dHolds op r mode o) o.d &&
  holds (legalIn mode) o.a && holds (srcSet mode r.a o.sh false) o.a && noImm o.a &&
  holds (legalIn mode) o.b && holds (srcSet mode r.b o.sh true) o.b && noImm o.b &&
  !(o.a == .imm && o.b == .imm) &&
  (match r.c with
   | none => true
   | some (lo, p) =>
     let c := Spec.ofCode (xField o.x (lo + 5) lo)
     holds (legalIn mode) c && holds (srcSet mode p o.sh false) c && c != .imm) &&
  (!isCas r o.x || (holds (legalIn mode) (cmpSpec o.x) && holds sBase (cmpSpec o.x)))

/-- The bytes that a SIZE code names; 0 for the ill-formed code (R43). -/
def sizeBytes : Nat → Nat
  | 0 => 1 | 1 => 2 | 2 => 4 | 3 => 8 | 4 => 16 | 5 => 256 | 6 => 128 | _ => 0

/-- The SIZE code that an atomic operation takes for its type (R240). -/
def aopSize (aop : Nat) (ty : Ty) : Nat := if aop = 11 then 1 else if aop = 10 then 2 else if ty = .b64 then 3 else 2

/-- Whether the reply route suits the mode: an index below 16 in firing mode, 0 in steward mode (R43). -/
def replyOk (mode : Mode) (x : BitVec 29) : Bool :=
  if mode = .firing then decide (xField x 22 18 < 16) else xField x 22 18 == 0

/-- Whether no form field holds an ill-formed value (FORM). -/
def formOk (op : Nat) (r : Row) (mode : Mode) (o : Ops) : Bool :=
  let x := o.x
  (!isSplit op r mode x || o.d == .nul) && match r.form with
  | .plain => true
  | .field mask lo bad => !(bad.testBit ((x.toNat >>> lo) &&& mask))
  | .fcvt =>
    (0x1F0 : Nat).testBit (xField x 3 0) && (!xBit x 4 || o.ty == .e4m3 || o.ty == .e5m2)
  -- OTHER = aif13 needs FLAG = 1 (R151, R152), which name no sub-cause for FLAG = 0: FORM (log 120).
  | .icvt => (0x20F : Nat).testBit (xField x 3 0) && (xField x 3 0 != 9 || xBit x 4)
  | .mem fs ss sizes typed =>
    (if mode = .firing then fs else ss).testBit (xField x 28 26) && sizes.testBit (xField x 25 23) && replyOk mode x &&
    (!typed || Ty.width o.ty == 8 * sizeBytes (xField x 25 23)) &&
    (!typed || xField x 28 26 != 5 || xField x 25 23 == 3)
  | .atom =>
    decide (aopOf x < 12) && xField x 25 23 == aopSize (aopOf x) o.ty && decide (xField x 5 3 < 5) && replyOk mode x &&
    (if mode = .firing then decide (xField x 28 26 < 4) else decide (xField x 28 26 < 5))
  | .send => decide (xField x 28 24 < 16)
  | .steer => decide (xField x 28 24 < 15)
  | .sphdr => decide (xField x 28 24 < 16) && xField x 23 22 != 3
  | .member => decide (xField x 28 24 < 16) && decide (xField x 17 13 < 16)
  | .reply => replyOk mode x
  | .replySel => replyOk mode x && xField x 1 0 != 3
  | .engine rows =>
    let top := if mode = .firing then 3 else 4
    replyOk mode x && decide (xField x 17 15 ≤ top) && decide (xField x 14 12 ≤ top) && (!rows || decide (2 ≤ xField x 17 15))
  | .coll =>
    replyOk mode x && decide (xField x 17 13 < 16) && decide (xField x 12 9 < 4) &&
    (xField x 8 6 == 2 || xField x 8 6 == 3) && (xField x 5 3 == 2 || xField x 5 3 == 3)
  | .remote load =>
    replyOk mode x &&
    (if xField x 17 15 = 5 then load && mode == .firing && o.ty == .b64
     else decide (xField x 17 15 < 4) && Ty.width o.ty == 8 * sizeBytes (xField x 17 15))
  | .ratom => decide (aopOf x < 12) && xField x 5 3 == aopSize (aopOf x) o.ty && replyOk mode x

/-- Whether every bit that the form or description marks zero is 0 (ZERO). In the immediate form X is the immediate; where the form also
names fields of X, SHCFG and SPHDR, X holds both (R41, R300; log 128). -/
def zeroOk (op : Nat) (r : Row) (mode : Mode) (o : Ops) : Bool :=
  (if (o.a == .imm || o.b == .imm) && r.named == 0 then true else (o.x.toNat &&& (0x1FFFFFFF - r.named)) == 0) &&
  ((r.form != .atom && r.form != .ratom) || isCas r o.x || xField o.x 11 6 == 0) &&
  (!(mode == .firing && isSync op o.x) || xField o.x 22 18 == 0)

/-- The first check of R49 from TYPE on that the fields fail. -/
def Row.fault (op : Nat) (r : Row) (mode : Mode) (o : Ops) : Option SubCause :=
  if !typeOk r o.ty o.x then some .type
  else if !shapeOk op r mode o then some .shape
  else if !modOk r o then some .mod
  else if !specOk op r mode o then some .spec
  else if !formOk op r mode o then some .form
  else if !zeroOk op r mode o then some .zero
  else none

end Sys2Proof.Machine
end

