-- ==== Sys2Proof/WellFormed.lean ====
section
/-! DEFINITION. Well-formed instructions: the opcode and fields of each constructor, the checks of R49 on them, and which
words of one opcode belong to which constructor. -/

namespace Sys2Proof

open Machine (Row SubCause opRow xBit xField)

/-- The special-register number of MFS and MTS (R46). -/
def srNumber (x : BitVec 29) : Nat := xField x 11 0

/-- The constructor of an MTS whose register has a row of its own in the opcode table, by the register's number. -/
def mtsRow (o : Ops) : Nat → Option Instr
  | 0x1 => some (.sstatWrite o)
  | 0x21 => some (.mboxout o)
  | 0x3C => some (.rfpop o)
  | 0x43 => some (.rmselWrite o)
  | 0x44 => some (.rmsend o)
  | 0x4C => some (.kslot o)
  | 0x50 => some (.dbudWrite o)
  | 0x51 => some (.dbudWrite o)
  | 0x52 => some (.dbudWrite o)
  | 0x53 => some (.dbudWrite o)
  | 0x62 => some (.polpop o)
  | 0x63 => some (.polstatClear o)
  | 0x102 => some (.ecccntClear o)
  | 0x105 => some (.obcoreRelease o)
  | 0x121 => some (.hedgecntClear o)
  | 0x130 => some (.obctlWrite o)
  | 0x133 => some (.trdump o)
  | 0x134 => some (.hspillWrite o)
  | 0x135 => some (.hctlEnable o)
  | 0x137 => some (.walkgo o)
  | 0x141 => some (.channelCountClear o)
  | 0x142 => some (.channelCountClear o)
  | 0x143 => some (.channelCountClear o)
  | _ => none

/-- The constructor of an MFS whose register has a row of its own in the opcode table, by the register's number. -/
def mfsRow (o : Ops) : Nat → Option Instr
  | 0x20 => some (.mboxRead o)
  | 0x41 => some (.rinboxRead o)
  | _ => none

/-- The instruction that an opcode and its fields are, none for an unassigned opcode. Where one opcode has several rows of
the opcode table, a field of X decides between them. -/
def instrOf (mode : Mode) (op : Nat) (o : Ops) : Option Instr := match op with
  | 0x00 => some (.nop o)
  | 0x01 => some (.add o)
  | 0x02 => some (.sub o)
  | 0x03 => some (.mul o)
  | 0x04 => some (.mulhs o)
  | 0x05 => some (.mulhu o)
  | 0x06 => some (.divs o)
  | 0x07 => some (.divu o)
  | 0x08 => some (.rems o)
  | 0x09 => some (.remu o)
  | 0x0A => some (.mins o)
  | 0x0B => some (.minu o)
  | 0x0C => some (.maxs o)
  | 0x0D => some (.maxu o)
  | 0x0E => some (.abs o)
  | 0x0F => some (.neg o)
  | 0x10 => some (.and o)
  | 0x11 => some (.or o)
  | 0x12 => some (.xor o)
  | 0x13 => some (.andn o)
  | 0x14 => some (.not o)
  | 0x15 => some (.shl o)
  | 0x16 => some (.shr o)
  | 0x17 => some (.sar o)
  | 0x18 => some (.rol o)
  | 0x19 => some (.clz o)
  | 0x1A => some (.popc o)
  | 0x1B => some (.brev o)
  | 0x1C => some (.bext o)
  | 0x1D => some (.bins o)
  | 0x1E => some (.sext o)
  | 0x1F => some (.zext o)
  | 0x20 => some (.ceq o)
  | 0x21 => some (.cne o)
  | 0x22 => some (.clts o)
  | 0x23 => some (.cles o)
  | 0x24 => some (.cltu o)
  | 0x25 => some (.cleu o)
  | 0x26 => some (.sel o)
  | 0x27 => some (.mov o)
  | 0x28 => some (.movi o)
  | 0x29 => some (.movhi o)
  | 0x2A => some (.mad o)
  | 0x2B => some (.lea o)
  | 0x2C => some (.crc32c o)
  | 0x40 => some (.fadd o)
  | 0x41 => some (.fsub o)
  | 0x42 => some (.fmul o)
  | 0x43 => some (.ffma o)
  | 0x44 => some (.ffms o)
  | 0x45 => some (.fmin o)
  | 0x46 => some (.fmax o)
  | 0x47 => some (.fabs o)
  | 0x48 => some (.fneg o)
  | 0x49 => some (.fceq o)
  | 0x4A => some (.fclt o)
  | 0x4B => some (.fcle o)
  | 0x4C => some (.fcun o)
  | 0x4D => some (.fdiv o)
  | 0x4E => some (.frcp o)
  | 0x4F => some (.frsq o)
  | 0x50 => some (.fsqrt o)
  | 0x51 => some (.fexp2 o)
  | 0x52 => some (.flog2 o)
  | 0x53 => some (.ftanh o)
  | 0x54 => some (.fclass o)
  | 0x55 => some (.fcvt o)
  | 0x56 => some (.ftoi o)
  | 0x57 => some (.itof o)
  | 0x58 => some (.fscale o)
  | 0x59 => some (.frnd o)
  | 0x70 => some (.vbcast o)
  | 0x71 => some (.vextr o)
  | 0x72 => some (.vins o)
  | 0x73 => some (.vperm o)
  | 0x74 => some (.vshup o)
  | 0x75 => some (.vshdn o)
  | 0x76 => some (.vredadd o)
  | 0x77 => some (.vredmax o)
  | 0x78 => some (.vredmin o)
  | 0x79 => some (.vscan o)
  | 0x7A => some (.vpack o)
  | 0x7B => some (.vunpk o)
  | 0x7C => some (.vcmpm o)
  | 0x7D => some (.vmsel o)
  | 0x7E => some (.vcompr o)
  | 0x7F => some (.vexpnd o)
  | 0x80 => some (.viota o)
  | 0x81 => some (.vseqacc o)
  | 0x90 => some (.send o)
  | 0x91 => some (.sendl o)
  | 0x92 => some (.steer o)
  | 0x93 => some (.reqn o)
  | 0x94 => some (.tsget o)
  | 0x95 => some (.sendm o)
  | 0x96 => some (.join o)
  | 0x97 => some (.leave o)
  | 0x98 => some (.widen o)
  | 0x99 => some (.eos o)
  | 0x9A => some (.seq o)
  | 0x9B => some (.chain o)
  | 0x9C => some (.scalm o)
  | 0xA0 => some (.ld o)
  | 0xA1 => some (.st o)
  | 0xA2 => some (.ldp o)
  | 0xA3 => some (.stp o)
  | 0xA4 => some (.clrp o)
  | 0xA5 => some (.atom o)
  | 0xA6 => some (.atomr o)
  | 0xA7 => some (.pref o)
  | 0xA8 => some (.clean o)
  | 0xA9 => some (.inval o)
  | 0xAA => some (.watch o)
  | 0xAB => some (.fence o)
  | 0xAC => some (.ldv o)
  | 0xAD => some (.stv o)
  | 0xAE => some (.gathv o)
  | 0xAF => some (.scatv o)
  | 0xB0 => some (.strm o)
  | 0xB1 => some (.strmq o)
  | 0xB2 => some (.wpwait o)
  | 0xB3 => some (.ordt o)
  | 0xC0 => some (.mxcfg o)
  | 0xC1 => some (.mxldb o)
  | 0xC2 => some (.mxfeed o)
  | 0xC3 => some (.mxdrn o)
  | 0xC4 => some (if xBit o.x 0 then .mxrelForce o else .mxrel o)
  | 0xC5 => some (.mxcor o)
  | 0xC6 => some (.mxstat o)
  | 0xC7 => some (.shcfg o)
  | 0xC8 => some (.shcut o)
  | 0xC9 => some (.shbnd o)
  | 0xCA => some (.shco o)
  | 0xCB => some (.sphdr o)
  | 0xCC => some (.isect o)
  | 0xCD => some (.smerge o)
  | 0xCE => some (.nmsel o)
  | 0xD0 => some (.copy o)
  | 0xD1 => some (.istrm o)
  | 0xD2 => some (.tlwait o)
  | 0xD3 => some (.tlrd o)
  | 0xD4 => some (.coll o)
  | 0xD5 => some (.rld o)
  | 0xD6 => some (.rst o)
  | 0xD7 => some (.ratom o)
  | 0xD8 => some (.migr o)
  | 0xD9 => some (.ownq o)
  | 0xDA => some (.owninv o)
  | 0xDB => some (.sgnrcl o)
  | 0xE0 => some (.br o)
  | 0xE1 => some (.bz o)
  | 0xE2 => some (.bnz o)
  | 0xE3 => some (.beq o)
  | 0xE4 => some (.bne o)
  | 0xE5 => some (.blt o)
  | 0xE6 => some (.bge o)
  | 0xE7 => some (.bltu o)
  | 0xE8 => some (.bgeu o)
  | 0xE9 => some (.call o)
  | 0xEA => some (.ret o)
  | 0xEB => some (.jmpr o)
  | 0xEC => some (.waitt o)
  | 0xED => some (.swait o)
  | 0xEE => some (.inj o)
  | 0xF0 => some (.trap o)
  | 0xF1 => some (.eret o)
  | 0xF2 => some (if mode = .steward then (mfsRow o (srNumber o.x)).getD (.mfs o) else .mfs o)
  | 0xF3 => some ((mtsRow o (srNumber o.x)).getD (.mts o))
  | 0xF4 => some (.cfgw o)
  | 0xF5 => some (.cfgr o)
  | 0xF6 => some (if xBit o.x 0 then .cfgcomSeal o else .cfgcom o)
  | 0xF7 => some (.cfgabt o)
  | 0xF8 => some (.ctxpri o)
  | 0xF9 => some (.park o)
  | 0xFA => some (if xField o.x 1 0 = 0 then .unparkReplay o else if xField o.x 1 0 = 1 then .unparkDrop o else .unparkFrame o)
  | 0xFB => some (.drain o)
  | 0xFC => some (if xBit o.x 0 then .resumeFail o else .resume o)
  | 0xFD => some (.tlbinv o)
  | 0xFE => some (.sigchk o)
  | _ => none

/-- The opcode and fields of an instruction that a word encodes; none for an event. -/
def Instr.code : Instr → Option (Nat × Ops)
  | .nop o => some (0x00, o)
  | .add o => some (0x01, o)
  | .sub o => some (0x02, o)
  | .mul o => some (0x03, o)
  | .mulhs o => some (0x04, o)
  | .mulhu o => some (0x05, o)
  | .divs o => some (0x06, o)
  | .divu o => some (0x07, o)
  | .rems o => some (0x08, o)
  | .remu o => some (0x09, o)
  | .mins o => some (0x0A, o)
  | .minu o => some (0x0B, o)
  | .maxs o => some (0x0C, o)
  | .maxu o => some (0x0D, o)
  | .abs o => some (0x0E, o)
  | .neg o => some (0x0F, o)
  | .and o => some (0x10, o)
  | .or o => some (0x11, o)
  | .xor o => some (0x12, o)
  | .andn o => some (0x13, o)
  | .not o => some (0x14, o)
  | .shl o => some (0x15, o)
  | .shr o => some (0x16, o)
  | .sar o => some (0x17, o)
  | .rol o => some (0x18, o)
  | .clz o => some (0x19, o)
  | .popc o => some (0x1A, o)
  | .brev o => some (0x1B, o)
  | .bext o => some (0x1C, o)
  | .bins o => some (0x1D, o)
  | .sext o => some (0x1E, o)
  | .zext o => some (0x1F, o)
  | .ceq o => some (0x20, o)
  | .cne o => some (0x21, o)
  | .clts o => some (0x22, o)
  | .cles o => some (0x23, o)
  | .cltu o => some (0x24, o)
  | .cleu o => some (0x25, o)
  | .sel o => some (0x26, o)
  | .mov o => some (0x27, o)
  | .movi o => some (0x28, o)
  | .movhi o => some (0x29, o)
  | .mad o => some (0x2A, o)
  | .lea o => some (0x2B, o)
  | .crc32c o => some (0x2C, o)
  | .fadd o => some (0x40, o)
  | .fsub o => some (0x41, o)
  | .fmul o => some (0x42, o)
  | .ffma o => some (0x43, o)
  | .ffms o => some (0x44, o)
  | .fmin o => some (0x45, o)
  | .fmax o => some (0x46, o)
  | .fabs o => some (0x47, o)
  | .fneg o => some (0x48, o)
  | .fceq o => some (0x49, o)
  | .fclt o => some (0x4A, o)
  | .fcle o => some (0x4B, o)
  | .fcun o => some (0x4C, o)
  | .fdiv o => some (0x4D, o)
  | .frcp o => some (0x4E, o)
  | .frsq o => some (0x4F, o)
  | .fsqrt o => some (0x50, o)
  | .fexp2 o => some (0x51, o)
  | .flog2 o => some (0x52, o)
  | .ftanh o => some (0x53, o)
  | .fclass o => some (0x54, o)
  | .fcvt o => some (0x55, o)
  | .ftoi o => some (0x56, o)
  | .itof o => some (0x57, o)
  | .fscale o => some (0x58, o)
  | .frnd o => some (0x59, o)
  | .vbcast o => some (0x70, o)
  | .vextr o => some (0x71, o)
  | .vins o => some (0x72, o)
  | .vperm o => some (0x73, o)
  | .vshup o => some (0x74, o)
  | .vshdn o => some (0x75, o)
  | .vredadd o => some (0x76, o)
  | .vredmax o => some (0x77, o)
  | .vredmin o => some (0x78, o)
  | .vscan o => some (0x79, o)
  | .vpack o => some (0x7A, o)
  | .vunpk o => some (0x7B, o)
  | .vcmpm o => some (0x7C, o)
  | .vmsel o => some (0x7D, o)
  | .vcompr o => some (0x7E, o)
  | .vexpnd o => some (0x7F, o)
  | .viota o => some (0x80, o)
  | .vseqacc o => some (0x81, o)
  | .send o => some (0x90, o)
  | .sendl o => some (0x91, o)
  | .steer o => some (0x92, o)
  | .reqn o => some (0x93, o)
  | .tsget o => some (0x94, o)
  | .sendm o => some (0x95, o)
  | .join o => some (0x96, o)
  | .leave o => some (0x97, o)
  | .widen o => some (0x98, o)
  | .eos o => some (0x99, o)
  | .seq o => some (0x9A, o)
  | .chain o => some (0x9B, o)
  | .scalm o => some (0x9C, o)
  | .ld o => some (0xA0, o)
  | .st o => some (0xA1, o)
  | .ldp o => some (0xA2, o)
  | .stp o => some (0xA3, o)
  | .clrp o => some (0xA4, o)
  | .atom o => some (0xA5, o)
  | .atomr o => some (0xA6, o)
  | .pref o => some (0xA7, o)
  | .clean o => some (0xA8, o)
  | .inval o => some (0xA9, o)
  | .watch o => some (0xAA, o)
  | .watchCancel => none
  | .fence o => some (0xAB, o)
  | .ldv o => some (0xAC, o)
  | .stv o => some (0xAD, o)
  | .gathv o => some (0xAE, o)
  | .scatv o => some (0xAF, o)
  | .strm o => some (0xB0, o)
  | .strmq o => some (0xB1, o)
  | .wpwait o => some (0xB2, o)
  | .ordt o => some (0xB3, o)
  | .mxcfg o => some (0xC0, o)
  | .mxldb o => some (0xC1, o)
  | .mxfeed o => some (0xC2, o)
  | .mxdrn o => some (0xC3, o)
  | .mxrel o => some (0xC4, o)
  | .mxrelForce o => some (0xC4, o)
  | .mxcor o => some (0xC5, o)
  | .mxstat o => some (0xC6, o)
  | .shcfg o => some (0xC7, o)
  | .shcut o => some (0xC8, o)
  | .shbnd o => some (0xC9, o)
  | .shco o => some (0xCA, o)
  | .sphdr o => some (0xCB, o)
  | .isect o => some (0xCC, o)
  | .smerge o => some (0xCD, o)
  | .nmsel o => some (0xCE, o)
  | .copy o => some (0xD0, o)
  | .istrm o => some (0xD1, o)
  | .tlwait o => some (0xD2, o)
  | .tlrd o => some (0xD3, o)
  | .coll o => some (0xD4, o)
  | .rld o => some (0xD5, o)
  | .rst o => some (0xD6, o)
  | .ratom o => some (0xD7, o)
  | .migr o => some (0xD8, o)
  | .ownq o => some (0xD9, o)
  | .owninv o => some (0xDA, o)
  | .sgnrcl o => some (0xDB, o)
  | .br o => some (0xE0, o)
  | .bz o => some (0xE1, o)
  | .bnz o => some (0xE2, o)
  | .beq o => some (0xE3, o)
  | .bne o => some (0xE4, o)
  | .blt o => some (0xE5, o)
  | .bge o => some (0xE6, o)
  | .bltu o => some (0xE7, o)
  | .bgeu o => some (0xE8, o)
  | .call o => some (0xE9, o)
  | .ret o => some (0xEA, o)
  | .jmpr o => some (0xEB, o)
  | .waitt o => some (0xEC, o)
  | .swait o => some (0xED, o)
  | .inj o => some (0xEE, o)
  | .trap o => some (0xF0, o)
  | .eret o => some (0xF1, o)
  | .mfs o => some (0xF2, o)
  | .mts o => some (0xF3, o)
  | .cfgw o => some (0xF4, o)
  | .cfgr o => some (0xF5, o)
  | .cfgcom o => some (0xF6, o)
  | .cfgcomSeal o => some (0xF6, o)
  | .cfgabt o => some (0xF7, o)
  | .ctxpri o => some (0xF8, o)
  | .park o => some (0xF9, o)
  | .unparkReplay o => some (0xFA, o)
  | .unparkDrop o => some (0xFA, o)
  | .unparkFrame o => some (0xFA, o)
  | .drain o => some (0xFB, o)
  | .resume o => some (0xFC, o)
  | .resumeFail o => some (0xFC, o)
  | .tlbinv o => some (0xFD, o)
  | .sigchk o => some (0xFE, o)
  | .tokenArrival => none
  | .frameChoice => none
  | .commitPoint => none
  | .releaseSends => none
  | .recordDecrements => none
  | .trapRecordLeave => none
  | .parkwaitRelease => none
  | .vseqaccRetry => none
  | .claimHandover => none
  | .portEntry => none
  | .translationWalk => none
  | .requestPerform => none
  | .deferredReadFill => none
  | .watchNotify => none
  | .ordtLeave => none
  | .streamGranule => none
  | .chainTrigger => none
  | .chainEmit => none
  | .sphdrEmit => none
  | .arrayRowEdge => none
  | .arrayReleaseWord => none
  | .gateAdmissionGrant => none
  | .batchClose => none
  | .batchApply => none
  | .ackBroadcast => none
  | .ackReceive => none
  | .milestoneDelivery => none
  | .ingressPacket => none
  | .ingressDelivery => none
  | .roundRegisterWrite => none
  | .hostEgress => none
  | .attestationRequest => none
  | .schedulerDecision => none
  | .contextRetire => none
  | .drainMarker => none
  | .reload => none
  | .hedgedrop => none
  | .stewardTrap => none
  | .fatalNotice => none
  | .stewardWaitEnd => none
  | .sstatWrite o => some (0xF3, o)
  | .tqpopOrdinary => none
  | .tqpopFatal => none
  | .ecccntClear o => some (0xF3, o)
  | .hedgecntClear o => some (0xF3, o)
  | .mboxRead o => some (0xF2, o)
  | .mboxout o => some (0xF3, o)
  | .rinboxRead o => some (0xF2, o)
  | .rfpop o => some (0xF3, o)
  | .rmselWrite o => some (0xF3, o)
  | .rmsend o => some (0xF3, o)
  | .kslot o => some (0xF3, o)
  | .dbudWrite o => some (0xF3, o)
  | .polpop o => some (0xF3, o)
  | .polstatClear o => some (0xF3, o)
  | .pkgrstDrain => none
  | .pkgrstCancel => none
  | .pkgrstMask => none
  | .pkgrstFlushed => none
  | .pkgrstLinkdown => none
  | .pkgrstReset => none
  | .pkgrstTrained => none
  | .pkgrstReturn => none
  | .pkgrstClear => none
  | .celsplitWrite => none
  | .homemaskWrite => none
  | .ectxWrite => none
  | .engineAccept => none
  | .engineOperationEnd => none
  | .collectiveComplete => none
  | .musterOperation => none
  | .remoteRequestArrival => none
  | .uternTimeout => none
  | .deadPeerClear => none
  | .routeTableWrite => none
  | .ingbWrite => none
  | .linkFlitRetry => none
  | .ucieModuleFail => none
  | .ownerCacheLookup => none
  | .countMessage => none
  | .migrationCopyPass => none
  | .migrationFreeze => none
  | .migrationGo => none
  | .migrationAbort => none
  | .signpostRelay => none
  | .redirect => none
  | .ownerCacheReopen => none
  | .signpostInvalidation => none
  | .reclaim => none
  | .energyTick => none
  | .governorTick => none
  | .windowEdge => none
  | .celhotChange => none
  | .patrolScrub => none
  | .coldStart => none
  | .packageWarmStart => none
  | .coreReset => none
  | .stewardReset => none
  | .obcoreRelease o => some (0xF3, o)
  | .obctlWrite o => some (0xF3, o)
  | .traceFreeze => none
  | .trdump o => some (0xF3, o)
  | .hspillWrite o => some (0xF3, o)
  | .hctlEnable o => some (0xF3, o)
  | .hctlFlush => none
  | .countSpill => none
  | .walkgo o => some (0xF3, o)
  | .channelCountClear o => some (0xF3, o)
  | .engineWritePointer => none
  | .discardedHostWrite => none
  | .lostRegionDisposal => none
  | .linkLevelRetry => none

/-- The checks that a word's fields fail in a mode, in the order of R49, for an opcode and its fields. -/
def fieldsFault (mode : Mode) (op : Nat) (o : Ops) : Option SubCause := match opRow op with
  | none => some .opc
  | some r =>
    if (if mode = .firing then r.firing else r.steward && !o.e) then Row.fault op r mode o else some .mode

/-- A well-formed instruction of a mode: its fields pass the checks of R49, and they belong to this constructor. Events are
no words and are well-formed in neither mode. -/
def Instr.WellFormed (mode : Mode) (i : Instr) : Bool := match i.code with
  | none => false
  | some (op, o) => fieldsFault mode op o == none && instrOf mode op o == some i

end Sys2Proof
end

