-- ==== Sys2Proof/Decode.lean ====
section
/-! DEFINITION. The decoder, total on any word and rejecting by the sub-cause of R49, and the encoder. -/

namespace Sys2Proof

open Machine (SubCause opRow Row)

/-- The field [hi:lo] of an instruction word. -/
def wordField (w : W64) (hi lo : Nat) : Nat := (w.toNat >>> lo) % 2 ^ (hi - lo + 1)

/-- The fields of a word whose type and shape are `ty` and `sh` (R32). -/
def wordOps (w : W64) (ty : Ty) (sh : Shape) : Ops :=
  { e := w.toNat.testBit 55, ty := ty, sh := sh, m := BitVec.ofNat 2 (wordField w 48 47),
    d := Machine.Spec.ofCode (wordField w 46 41), a := Machine.Spec.ofCode (wordField w 40 35),
    b := Machine.Spec.ofCode (wordField w 34 29), x := BitVec.ofNat 29 (wordField w 28 0) }

/-- Decodes a word in a mode. The checks run in the order of R49, and the first that fails names the sub-cause. -/
def decode (mode : Mode) (w : W64) : Except SubCause Instr :=
  let op := wordField w 63 56
  match opRow op with
  | none => .error .opc
  | some r =>
    if (if mode = .firing then r.firing else r.steward && !w.toNat.testBit 55) then
      match Machine.Ty.ofCode (wordField w 54 51) with
      | none => .error .type
      | some ty =>
        match Machine.Shape.ofCode (wordField w 50 49) with
        | none => if Machine.typeOk r ty (BitVec.ofNat 29 (wordField w 28 0)) then .error .shape else .error .type
        | some sh =>
          match Row.fault op r mode (wordOps w ty sh) with
          | some c => .error c
          | none => match instrOf mode op (wordOps w ty sh) with
            | none => .error .opc
            | some i => .ok i
    else .error .mode

/-- The word of an opcode and its fields (R32). -/
def encodeFields (op : Nat) (o : Ops) : W64 :=
  BitVec.ofNat 64 (op * 2 ^ 56 + (if o.e then 2 ^ 55 else 0) + Machine.Ty.code o.ty * 2 ^ 51
    + Machine.Shape.code o.sh * 2 ^ 49 + o.m.toNat * 2 ^ 47 + Machine.Spec.code o.d * 2 ^ 41
    + Machine.Spec.code o.a * 2 ^ 35 + Machine.Spec.code o.b * 2 ^ 29 + o.x.toNat)

/-- The word of an instruction; none for an event, which no word encodes. -/
def encode (i : Instr) : Option W64 := match i.code with
  | none => none
  | some (op, o) => some (encodeFields op o)

/-- The 64-bit little-endian word that eight bytes hold, the first the least significant (R32). -/
def wordOfBytes (bytes : List Byte) : W64 :=
  BitVec.ofNat 64 (bytes.foldr (fun b acc => b.toNat + 256 * acc) 0)

/-- The eight bytes of a word, the least significant first (R32). -/
def bytesOfWord (w : W64) : List Byte :=
  (List.range 8).map fun i => BitVec.ofNat 8 (w.toNat >>> (8 * i))

/-- Decodes the eight bytes of a word in a mode. -/
def decodeBytes (mode : Mode) (bytes : List Byte) : Except SubCause Instr := decode mode (wordOfBytes bytes)

/-- The instruction that an instruction of `nbits` bits `w` is: the bytes of the word, the bits above `nbits` being 0, given to
the decoder, in steward mode first and in firing mode where that refuses. -/
def decodeTableWord (nbits w : Nat) : Option Instr :=
  let bytes := bytesOfWord (BitVec.ofNat 64 (w % 2 ^ nbits))
  match decodeBytes .steward bytes with
  | .ok i => some i
  | .error _ => match decodeBytes .firing bytes with
    | .ok i => some i
    | .error _ => none

end Sys2Proof
end

