-- ==== Sys2Proof/Machine/Causes.lean ====
section
/-! DEFINITION. The cause codes of traps and asynchronous records (R106, R220, R232, R278, R301, R329, R339, R406, R452). -/

namespace Sys2Proof.Machine.Cause

/-- ILLOP. -/
def illop : Nat := 0x01
/-- SLOTECC. -/
def slotecc : Nat := 0x02
/-- AIFRANGE. -/
def aifrange : Nat := 0x03
/-- SCALEMIS. -/
def scalemis : Nat := 0x04
/-- CHANOFF. -/
def chanoff : Nat := 0x05
/-- DUPOP. -/
def dupop : Nat := 0x06
/-- MSPARITY. -/
def msparity : Nat := 0x07
/-- MERGEXTRA. -/
def mergextra : Nat := 0x08
/-- SEQDUP. -/
def seqdup : Nat := 0x09
/-- STAMPOVF. -/
def stampovf : Nat := 0x0A
/-- NOTIFYBEH. -/
def notifybeh : Nat := 0x0B
/-- BADSPR. -/
def badspr : Nat := 0x0C
/-- ACCFULL. -/
def accfull : Nat := 0x0D
/-- SCRECC. -/
def screcc : Nat := 0x20
/-- OBUFECC. -/
def obufecc : Nat := 0x21
/-- L1POISON. -/
def l1poison : Nat := 0x22
/-- WINPERM. -/
def winperm : Nat := 0x23
/-- RANGEOUT. -/
def rangeout : Nat := 0x24
/-- MISALIGN. -/
def misalign : Nat := 0x25
/-- SPACEOOB. -/
def spaceoob : Nat := 0x26
/-- DOUBLEW. -/
def doublew : Nat := 0x27
/-- PAGEFLT. -/
def pageflt : Nat := 0x28
/-- PERMFLT. -/
def permflt : Nat := 0x29
/-- MEMECC. -/
def memecc : Nat := 0x2A
/-- WATCHLOST. -/
def watchlost : Nat := 0x2B
/-- STRMLEN. -/
def strmlen : Nat := 0x2C
/-- ARRBUSY. -/
def arrbusy : Nat := 0x40
/-- ARRNOSTAT. -/
def arrnostat : Nat := 0x41
/-- ARRSEQ. -/
def arrseq : Nat := 0x42
/-- ARRFULL. -/
def arrfull : Nat := 0x43
/-- ARRDESC. -/
def arrdesc : Nat := 0x44
/-- ARRTYPE. -/
def arrtype : Nat := 0x45
/-- ARRCHAIN. -/
def arrchain : Nat := 0x46
/-- ARRSCALE. -/
def arrscale : Nat := 0x47
/-- ARROWN. -/
def arrown : Nat := 0x48
/-- ARRPEND. -/
def arrpend : Nat := 0x49
/-- NMASK. -/
def nmask : Nat := 0x4A
/-- SHCFGBAD. -/
def shcfgbad : Nat := 0x50
/-- SHNOCFG. -/
def shnocfg : Nat := 0x51
/-- SHDESC. -/
def shdesc : Nat := 0x52
/-- SHNMASK. -/
def shnmask : Nat := 0x53
/-- SHSEQ. -/
def shseq : Nat := 0x54
/-- SHTYPE. -/
def shtype : Nat := 0x55
/-- SHSTREAM. -/
def shstream : Nat := 0x56
/-- SHBOUND. -/
def shbound : Nat := 0x57
/-- ENGBIND. -/
def engbind : Nat := 0x60
/-- ENGDESC. -/
def engdesc : Nat := 0x61
/-- ENGDOWN. -/
def engdown : Nat := 0x62
/-- HOMEDOWN. -/
def homedown : Nat := 0x63
/-- RSTSEQ. -/
def rstseq : Nat := 0x64
/-- ENVSUM. -/
def envsum : Nat := 0x65
/-- REGLOST. -/
def reglost : Nat := 0x66
/-- IMGREF. -/
def imgref : Nat := 0x67
/-- DEADPEER. -/
def deadpeer : Nat := 0x68
/-- UTIMEOUT. -/
def utimeout : Nat := 0x69
/-- PARTMC. -/
def partmc : Nat := 0x6A
/-- MUSTFULL. -/
def mustfull : Nat := 0x6B
/-- MUSTIMG. -/
def mustimg : Nat := 0x6C
/-- MUSTNONE. -/
def mustnone : Nat := 0x6D
/-- COLLFAIL. -/
def collfail : Nat := 0x6E
/-- INGDROP. -/
def ingdrop : Nat := 0x6F
/-- CIRCUITS. -/
def circuits : Nat := 0x70
/-- EGQFULL. -/
def egqfull : Nat := 0x71
/-- BADTARGET. -/
def badtarget : Nat := 0x72
/-- BADFIELD. -/
def badfield : Nat := 0x80
/-- CFGSTATE. -/
def cfgstate : Nat := 0x81
/-- CRCFAIL. -/
def crcfail : Nat := 0x82
/-- RUNCHECK. -/
def runcheck : Nat := 0x83
/-- CFGFULL. -/
def cfgfull : Nat := 0x84
/-- CFGADDR. -/
def cfgaddr : Nat := 0x85
/-- SPRNUM. -/
def sprnum : Nat := 0x86
/-- PRIV. -/
def priv : Nat := 0x87
/-- TRAPINS. -/
def trapins : Nat := 0x88
/-- NOTRAP. -/
def notrap : Nat := 0x89
/-- DBLTRAP. -/
def dbltrap : Nat := 0x8A
/-- TAGLOST. -/
def taglost : Nat := 0x8B
/-- LAYBYLOST. -/
def laybylost : Nat := 0x8C
/-- PARKED. -/
def parked : Nat := 0x8D
/-- UNPARKREF. -/
def unparkref : Nat := 0x8E
/-- DRAINREF. -/
def drainref : Nat := 0x8F
/-- HEDGEDROP. -/
def hedgedrop : Nat := 0x90
/-- STRAYTOK. -/
def straytok : Nat := 0x91
/-- PLACEREQ. -/
def placereq : Nat := 0x92
/-- NOTHELD. -/
def notheld : Nat := 0x93
/-- SIGFAIL. -/
def sigfail : Nat := 0x94
/-- INJREF. -/
def injref : Nat := 0x95
/-- IFETCH. -/
def ifetch : Nat := 0x96

end Sys2Proof.Machine.Cause
end

