-- ==== Sys2Proof/Machine/State.lean ====
section
/-! DEFINITION. The state of the machine as plain data, its faults and refusals, and the state after reset. -/

namespace Sys2Proof.Machine

/-! ## Tokens and requests -/

/-- A token: the header words 0 to 2 of R60 (word 3 is zero), the payload (8 bytes in its low bits on the control plane), and
the image id of the region that counts it (R169). -/
structure Token where
  ts : W64
  h1 : W64
  h2 : W64
  payload : Vec
  region : Nat
  deriving DecidableEq, Repr, Inhabited

/-- A token on a network: the element and route it left on (R169), none where a unit that is no element sent it, and the
network: 0 stream, 1 packet, 2 control plane (R56). A token of another device, and one that INJ sent, bear a mark as their source.
`origin` is the core whose mesh port it leaves by, none where a unit of the system sends it (R326). -/
structure Flight where
  tok : Token
  src : Option (Nat × Nat)
  net : Nat
  origin : Option Nat := none
  deriving DecidableEq, Repr, Inhabited

/-- The kinds of split-phase requests (spec/09, 17, 19, 20). -/
inductive ReqKind
  | ld | st | ldp | stp | clrp | atom | atomr | pref | clean | inval | watch | fence | ldv | stv | gathv | scatv | strm | strmq
  | wpwait | ordt | copy | istrm | tlwait | tlrd | coll | rld | rst | ratom | join | leave | ownq | sheaf
  deriving DecidableEq, Repr, Inhabited

/-- How far a request in a port has come. -/
inductive Stage
  /-- In the port, not yet checked against windows (R210). -/
  | entered
  /-- At the die translation unit (R385). -/
  | walking
  /-- Addressed physically, or needing no translation: ready to be performed (R230). -/
  | ready
  /-- Waiting at its home: a deferred presence read (R206), a wait of an engine (R249, R403), or an answer of another device. -/
  | held
  deriving DecidableEq, Repr, Inhabited

/-- What an access of another device's bytes is a part of: a request in a port, the running operation of an engine context, or a
collective instance (R236, R247, R401, R447). -/
inductive Parent
  | request
  | engine (handle : Nat)
  | coll (mid : Nat) (ts : W64)
  deriving DecidableEq, Repr, Inhabited

/-- A request of a firing: what it does, for whom, and its reply. -/
structure Req where
  /-- Kind. -/
  kind : ReqKind
  /-- The release that the request belongs to, for its decrement (R185). -/
  rel : Nat
  /-- Its number in the order in which requests leave. -/
  ord : Nat
  /-- Issuing element. -/
  elem : Nat
  /-- Issuing context, 0 to 7. -/
  ctx : Nat
  /-- Issuing entry, 0 to 7. -/
  ent : Nat
  /-- Slot of the issuing instruction, which a record of its failure names (R107). -/
  slot : Nat := 0
  /-- The firing's timestamp. -/
  ts : W64
  /-- Space code (R43). -/
  space : Nat
  /-- Effective address. -/
  ea : Nat
  /-- Addresses in the numbering of memory, once mapped: one, or one for each lane of a gather or scatter. -/
  pas : List Nat
  /-- Access size in bytes, or a length. -/
  size : Nat
  /-- Store data, index vector or second operand. -/
  data : Vec
  /-- Second vector: the data of a scatter. -/
  data2 : Vec
  /-- Compare value, descriptor or byte count. -/
  cmp : W64
  /-- Second address or descriptor. -/
  aux : W64
  /-- AOP, OP or MODE. -/
  op : Nat
  /-- Type. -/
  ty : Ty
  /-- M. -/
  m : BitVec 2
  /-- REL and ACQ of an atomic. -/
  rlse : Bool
  acq : Bool
  /-- Scope of an atomic or a fence. -/
  scope : Nat
  /-- The reply tokens as they were counted when the request left, one for each branch of a fork, with an empty payload; none
  where no reply is wanted. -/
  reply : List Token
  /-- The network of the reply. -/
  net : Nat
  /-- The route index of the reply route, for WATCH and the records. -/
  route : Nat
  /-- The port that carries it (R208). -/
  port : Nat
  /-- The declared-range words of the context at issue, for ISTRM (R402). -/
  ranges : List W64
  /-- Stage. -/
  stage : Stage
  /-- The device that serves a remote request, for a request sent to another device. -/
  dev : Nat
  /-- Progress: bytes moved by a stream. -/
  done : Nat
  /-- HOMEMASK when a GLB request was mapped, which gives the home it was routed to (R379, R421). -/
  home : Nat
  /-- The cores that the reply goes to, as its route and fork stood at issue (R104, R311). -/
  forks : List Nat
  /-- For a part of a larger access: what it is a part of, and the lane, the member's slot, or the place of the block. -/
  parent : Option Parent
  part : Nat
  /-- The first failure met by a part of this request: cause and DETAIL (R229, R236). -/
  failed : Option (Nat × W64)
  /-- Reuse class of a read of an ISTRM row, 0 or 1; 2 for the class 1 of a row's first block, whose first line counts though it begins before
  the block (R377, R402). -/
  rcls : Nat := 0
  deriving DecidableEq, Repr, Inhabited

/-- What a commit buffer holds, in program order (R100). -/
inductive Item
  /-- A send: the token without its batch tag, the route index it leaves on, the route word, and the cores that it goes to as the
  route's fork stood at issue (R104, R311); and whether WIDEN sends it, after the firing's stores (R190). -/
  | send (tok : Token) (routeIx : Nat) (route : W64) (cores : List Nat) (widen : Bool)
  /-- A send whose copies are counted (R101, R313). -/
  | counted (toks : List Token) (routeIx : Nat) (route : W64)
  /-- A REQN: the request's location and time (R192). -/
  | reqn (loc : Nat) (s : W64) (route : W64)
  /-- A SENDM over a muster route, whether its keeper, another device, has been asked for the snapshot (R444), and the slot of the
  instruction. -/
  | sendm (tok : Token) (routeIx : Nat) (route : W64) (asked : Bool) (slot : Nat)
  /-- A SENDM with the snapshot that its keeper answered: slot, location and side of each member. -/
  | snapped (tok : Token) (routeIx : Nat) (route : W64) (members : List (Nat × Nat × Nat))
  /-- A request. -/
  | req (r : Req) (route : W64)
  deriving DecidableEq, Repr, Inhabited

/-- A store of a firing's SCR group (R101, R102). -/
inductive ScrStore
  /-- Bytes written at an offset. -/
  | write (addr : Nat) (bytes : List Byte)
  /-- The lanes of a scatter, ascending: one store (R236). -/
  | scatter (lanes : List (Nat × List Byte))
  /-- An STP: eight bytes to an empty granule (R238), the slot of the instruction, and how many split-phase stores of the firing come before
  it, which its fill releases (R216). -/
  | stp (addr : Nat) (bytes : List Byte) (slot before : Nat)
  /-- A CLRP of a length in bytes (R239). -/
  | clrp (addr len : Nat)
  deriving DecidableEq, Repr, Inhabited

/-! ## Frames, firings, releases -/

/-- States of a matching-store entry that holds a frame (R87); FIRING frames stand in the firing. The frame of an entry whose tag failed
is lost: it stays, and its tokens are never counted off (R89; log 94). -/
inductive FrameState
  | filling | complete | parkwait | lost
  deriving DecidableEq, Repr, Inhabited

/-- A frame: its matching-store entry, tag, tokens, and the order in which it became complete (R85 to R93). -/
structure Frame where
  /-- Matching-store entry, 0 to 63. -/
  ms : Nat
  ctx : Nat
  ent : Nat
  ts : W64
  l : Option Token
  r : Option Token
  /-- The predicate or milestone token. -/
  p : Option Token
  /-- The extra token of R88. -/
  x : Option Token
  state : FrameState
  /-- Rank in the order of completion. -/
  order : Nat
  /-- Waited of R93. -/
  waited : Nat
  /-- For PARKWAIT: word 0 of the trap record, DETAIL, POISON, and the order of entry. -/
  trap0 : W64
  trap3 : W64
  poison : Bool
  /-- The send places and the request places that its firing had used when it was parked, for its trace records (R471). -/
  ns : Nat := 0
  nr : Nat := 0
  deriving DecidableEq, Repr, Inhabited

/-- The firing in progress of an element (R96 to R105). -/
structure Firing where
  frame : Frame
  /-- Slot of the next instruction. -/
  slot : Nat
  /-- Temporaries t0 to t7. -/
  t : List W64
  /-- Temporaries v0 to v7. -/
  v : List Vec
  /-- The commit buffer, in program order, and its places in use. -/
  items : List Item
  nsend : Nat
  nreq : Nat
  /-- The SCR store group, in program order. -/
  scr : List ScrStore
  /-- The channel entries of the left, right and predicate operands as they stood at the start (R83). -/
  chL : W64
  chR : W64
  chP : W64
  /-- The effective priority at which it was chosen (R198). -/
  prio : Nat
  /-- The last array row that this firing fed: tag and output row (R275). -/
  fed : Option (Nat × Nat)
  /-- END has issued; the commit point is next (R101). -/
  ended : Bool
  /-- The slot for which the counts of R474 already hold that the firing issued. -/
  counted : Option Nat := none
  deriving DecidableEq, Repr, Inhabited

/-- A decrement to record: location, timestamp, batch tag (cluster, sequence number). -/
structure Dec where
  loc : Nat
  ts : W64
  bcl : Nat
  bseq : Nat
  region : Nat
  deriving DecidableEq, Repr, Inhabited

/-- A request that left and whose outcome is outstanding: its number, its place in the commit buffer, the runs of bytes that it touches
(space, first byte, length), whether it holds an entry of the address-compare queue (R251), and whether it writes. -/
structure Outst where
  ord : Nat
  place : Nat
  runs : List (Nat × Nat × Nat)
  entry : Bool
  write : Bool
  deriving DecidableEq, Repr, Inhabited

/-- A committed firing whose buffer has not wholly left or whose decrements are not yet recorded (R101, R185). -/
structure Release where
  id : Nat
  ctx : Nat
  ent : Nat
  items : List Item
  decs : List Dec
  taint : Bool
  /-- Requests that left and whose outcome is outstanding (R103, R213). -/
  out : List Outst
  /-- Ingress sends still in the gate queue (R175). -/
  gated : Nat
  /-- Items of the commit buffer that have left. -/
  popped : Nat
  deriving DecidableEq, Repr, Inhabited

/-- A trap record (R107), the element and context it comes from, and whether the extra token goes with a frame. -/
structure TrapRec where
  w0 : W64
  w1 : W64
  w2 : W64
  w3 : W64
  deriving DecidableEq, Repr, Inhabited

/-- A trap record waiting to leave an element (R108): the context that faulted and the record. -/
structure WaitingTrap where
  ctx : Nat
  record : TrapRec
  deriving DecidableEq, Repr, Inhabited

/-- An element (R85 to R112). -/
structure Elem where
  frames : List Frame
  firing : Option Firing
  /-- The context that last fired at each priority level, 0 to 15 (R93). -/
  rr : List Nat
  traps : List WaitingTrap
  /-- STOP of OBCORE (R473). -/
  stopped : Bool
  releases : List Release
  deriving DecidableEq, Repr, Inhabited

/-- An element as core reset leaves it (R222, R93). -/
def Elem.init : Elem := { frames := [], firing := none, rr := List.replicate 16 7, traps := [], stopped := false, releases := [] }

/-! ## Units of a core -/

/-- A partial of a sequence accumulator's early buffer (R162). -/
structure Partial where
  seq : Nat
  value : Vec
  last : Bool
  deriving DecidableEq, Repr, Inhabited

/-- What a sequence accumulator holds besides its lock (R162). -/
structure AccData where
  acc : Vec
  exp : Nat
  lseq : Option Nat
  taint : Bool
  early : List Partial
  deriving DecidableEq, Repr, Inhabited

/-- An empty accumulator; the spec gives it no ACC, which is 64 zero lanes here (R162; log 6). -/
def AccData.init : AccData := { acc := 0, exp := 0, lseq := none, taint := false, early := [] }

/-- A sequence accumulator: its contents, and the firing that locks it (the element) with the contents to restore (R164). -/
structure Acc where
  data : AccData
  lock : Option (Nat × AccData)
  deriving DecidableEq, Repr, Inhabited

/-- An empty, free accumulator. -/
def Acc.init : Acc := { data := AccData.init, lock := none }

/-- A row of the squarer array on its way to the edge (R257, R262): the element that fed it, its descriptor, and what the cells and
the edge unit make of it with the stationary operand that it met: sums, products, row term, exponent, partials. -/
structure ArrRow where
  elem : Nat
  tag : Nat
  row : Nat
  seq : Nat
  last : Bool
  /-- Inner sums P of the 32 columns. -/
  p : List Int
  /-- Products Q. -/
  q : List Int
  /-- Row term RA. -/
  ra : Int
  /-- Exponent EA of the row group. -/
  ea : Int
  /-- The 32 partials, as patterns of the output format (R256). -/
  part : List W32
  /-- The row reserves an early-store place (R262). -/
  early : Bool
  /-- An invalid group contributes to it (R75). -/
  inv : Bool
  deriving DecidableEq, Repr, Inhabited

/-- State of an output (tag, row) (R260). -/
inductive TileState
  | empty | accum | complete
  deriving DecidableEq, Repr, Inhabited

/-- A partial of a row waiting in the early store (R262): sequence number, last flag, and the 32 partials as patterns of the
output format. -/
structure EarlyRow where
  tag : Nat
  row : Nat
  seq : Nat
  last : Bool
  part : List W32
  early : Bool
  deriving DecidableEq, Repr, Inhabited

/-- One row of an output tile: the 32 accumulators, EXP, LSEQ (R260). -/
structure TileRow where
  acc : List W32
  exp : Nat
  lseq : Option Nat
  state : TileState
  deriving DecidableEq, Repr, Inhabited

/-- An EMPTY row. -/
def TileRow.init : TileRow := { acc := [], exp := 0, lseq := none, state := .empty }

/-- The squarer array (spec/10). -/
structure Arr where
  ownv : Bool
  ownimg : Nat
  role : Nat
  outf : Nat
  rm : BitVec 2
  /-- The stationary operand is valid. -/
  statv : Bool
  /-- The stationary block: 32 columns of aligned values. -/
  stat : List (List Int)
  /-- Group exponents EB of the columns. -/
  eb : List Int
  /-- Column corrections CB. -/
  cb : List Int
  /-- Invalid columns. -/
  invc : List Bool
  /-- The staging area: for each k-row the type code, the scale exponent plus 128, and 32 patterns. -/
  staging : Tab (List Nat)
  /-- Output rows that are not EMPTY, by tag × 32 + row. -/
  tiles : Tab TileRow
  early : List EarlyRow
  /-- Rows in the cells, oldest first. -/
  cells : List ArrRow
  /-- The last row that reached the edge, for MXCOR. -/
  capture : Option ArrRow
  trunc : Nat
  inv : Bool
  forced : Bool
  deriving DecidableEq, Repr, Inhabited

/-- The array as R278 and core reset leave it. -/
def Arr.init : Arr :=
  { ownv := false, ownimg := 0, role := 0, outf := 0, rm := 0, statv := false, stat := [], eb := [], cb := [], invc := [],
    staging := [], tiles := [], early := [], cells := [], capture := none, trunc := 0, inv := false, forced := false }

/-- A sheaf register set (R284, R286). -/
structure Sheaf where
  v : Bool
  scfg : W64
  spdesc : W64
  sqdesc : W64
  sk0 : Nat
  sk1 : Nat
  sn : Nat
  si : Nat
  bound : Nat
  snum : Nat
  done : Bool
  skr : Nat
  deriving DecidableEq, Repr, Inhabited

/-- A sheaf set as reset leaves it. -/
def Sheaf.init : Sheaf :=
  { v := false, scfg := 0, spdesc := 0, sqdesc := 0, sk0 := 0, sk1 := 0, sn := 0, si := 0, bound := 0, snum := 0, done := false,
    skr := 0 }

/-- A running activation of a counter chain (R201): the trigger token and frame, and the next token's number. -/
structure Activation where
  trigger : Frame
  next : Nat
  /-- Tokens still in the gate queue. -/
  gated : Nat
  deriving DecidableEq, Repr, Inhabited

/-- The SPHDR emitter's capture (R296). -/
structure Emission where
  elem : Nat
  ctx : Nat
  ent : Nat
  ts : W64
  route : Nat
  /-- The route's word and its cores as they stood when the SPHDR issued (R104). -/
  word : W64
  cores : List Nat
  /-- Positions of the set bits, ascending. -/
  bits : List Nat
  next : Nat
  /-- The issuing firing has committed; the emitter may send. -/
  live : Bool
  /-- The release whose decrements wait for the last token (R296). -/
  rel : Nat
  gated : Nat
  /-- Items that stood in the commit buffer before the SPHDR: their stores come before its tokens (R213). -/
  after : Nat
  deriving DecidableEq, Repr, Inhabited

/-- An armed watch entry (R207, R243 to R245). -/
structure Watch where
  /-- Canonical address of the granule. -/
  addr : Nat
  /-- The granule's address in its space, as the WATCH named it. -/
  ea : Nat
  elem : Nat
  ctx : Nat
  ent : Nat
  /-- Slot of the WATCH. -/
  slot : Nat := 0
  route : Nat
  /-- The held token, counted; one for each branch of a fork. -/
  held : List Token
  /-- Notifications left. -/
  left : Nat
  /-- Values not yet delivered, oldest first, at most four. -/
  queue : List W64
  /-- The previous notification while it is not yet consumed (R244). -/
  sent : List Token
  /-- The token of the next notification where its +1 is already recorded while the held one awaits delivery (R207). -/
  next : List Token := []
  /-- A value was lost; the next notification is tainted. -/
  lost : Bool
  /-- Values lost so far (R245). -/
  losses : Nat
  deriving DecidableEq, Repr, Inhabited

/-- A granule of a scratchpad that an STP of an SCR group has filled while split-phase stores before it in its firing are not all performed:
its address, the element and the release of the firing, and how many items of that release the fill waits for (R216). -/
structure FillHold where
  addr : Nat
  elem : Nat
  rel : Nat
  upto : Nat
  deriving DecidableEq, Repr, Inhabited

/-- A stream port (R208, R212). -/
structure Port where
  held : Bool
  /-- The kept request while HELD. -/
  kept : Option Req
  /-- Core clock at which the port became HELD, for the time limit of R387. -/
  since : Nat
  /-- Requests in flight, in the order in which they entered. -/
  reqs : List Req
  deriving DecidableEq, Repr, Inhabited

/-- An empty, FLOWING port. -/
def Port.init : Port := { held := false, kept := none, since := 0, reqs := [] }

/-- A line of the L1 or of the L2 (R204, R380): the masks of valid and of dirty sectors, the step of its last use, the poisoned
sectors (R219), and what stands behind each dirty sector, as a 16-byte number: memory itself holds the newest bytes. -/
structure CacheLine where
  valid : Nat
  dirty : Nat
  used : Nat
  poison : Nat
  behind : Tab Nat
  deriving DecidableEq, Repr, Inhabited

/-- An absent line. -/
def CacheLine.init : CacheLine := { valid := 0, dirty := 0, used := 0, poison := 0, behind := [] }

/-- A configuration transaction (R353). -/
inductive TxnState
  | idle | opened | committed
  deriving DecidableEq, Repr, Inhabited

/-- A core's configuration transaction: its owner, its staged words and the undo copy (R353 to R356). A word's key is its
configuration address with die, cluster and core 0; a window word carries its port and slot above bit 32. -/
structure Txn where
  state : TxnState
  owner : Nat
  staged : List (Nat × W64)
  undo : List (Nat × W64)
  /-- Contexts (element × 8 + context) that the commit made valid, and those it retired. -/
  made : List Nat
  retired : List Nat
  deriving DecidableEq, Repr, Inhabited

/-- An idle transaction. -/
def Txn.init : Txn := { state := .idle, owner := 0, staged := [], undo := [], made := [], retired := [] }

/-- A core (spec/08 to spec/11, spec/14, spec/22). -/
structure Core where
  /-- Class-1 configuration words by offset (R221). -/
  cfg1 : Tab W64
  /-- Context words, by (element × 8 + context) × 128 + offset (R53); the shared words 0x58 to 0x5B and 0x5F stand below. -/
  cfg0 : Tab W64
  crcWord : W64
  wsel : W64
  /-- WVA, WLEN, WPA of the 32 windows, by port × 4 + slot (R209). -/
  wva : Tab W64
  wlen : Tab W64
  wpa : Tab W64
  /-- HELD contexts (element × 8 + context) (R355). -/
  heldCtx : List Nat
  txn : Txn
  /-- Running activations of chains 0 to 3. -/
  chains : List (Option Activation)
  emission : Option Emission
  accs : List Acc
  arr : Arr
  /-- The array's claim: the element and the contents to restore on a fault (R267, R268). -/
  arrClaim : Option (Nat × Arr)
  /-- Sheaf sets by element × 8 + context. -/
  sheaf : Tab Sheaf
  /-- The cutter's claim: the element, the context and the set to restore (R285). -/
  cutClaim : Option (Nat × Nat × Sheaf)
  watches : List Watch
  /-- Deferred presence reads (R206): requests that wait at this memory node. -/
  deferred : List Req
  /-- Fills whose release is not yet complete (R216). -/
  fills : List FillHold := []
  ports : List Port
  /-- L1 lines by line number, pa / 128. -/
  l1 : Tab CacheLine
  /-- The core clock at which CCYCLE was 0, as an offset (R221). -/
  ccycleBase : Int
  eccScr : Nat
  eccL1 : Nat
  eccObuf : Nat
  chsel : Nat
  /-- The core clock at which CHFULL, CHEMPTY and CHMOVE of a channel were last 0 (R476; log 27). -/
  chfull : Tab Nat
  chempty : Tab Nat
  chmove : Tab Nat
  /-- Ordering tokens waiting to leave (R250): release, footprint (space, ea, length), token, network. -/
  ordts : List Req
  /-- Sides on which a firing of a valid context has consumed a token with EOS = 1: (element × 8 + context) × 32 + entry × 4 + side
  (R320). -/
  eosSeen : List Nat
  deriving DecidableEq, Repr, Inhabited

/-- A core as core reset leaves it (R222). The spec gives no reset value of instruction slots 0x10 to 0x2F, of the constants k0 to k7, of the
IVAL words and of the CRC word 0x5F (R32, R53): the model has 0, its own choice (log 6). -/
def Core.init : Core :=
  { cfg1 := [], cfg0 := [], crcWord := 0, wsel := 0, wva := [], wlen := [], wpa := [], heldCtx := [], txn := Txn.init,
    chains := [none, none, none, none], emission := none, accs := List.replicate 4 Acc.init, arr := Arr.init, arrClaim := none,
    sheaf := [], cutClaim := none, watches := [], deferred := [], ports := List.replicate 8 Port.init, l1 := [],
    ccycleBase := 0, eccScr := 0, eccL1 := 0, eccObuf := 0, chsel := 0, chfull := [], chempty := [], chmove := [], ordts := [],
    eosSeen := [] }

/-! ## Steward-mode cores -/

/-- What a stalled steward-mode core waits for; its instruction completes when the wait ends (R231, R347). -/
inductive Wait
  /-- WAITT: until CYCLE reaches a value. -/
  | cycle (t : Nat)
  /-- SWAIT: a mask of events, and a deadline where B names one. -/
  | event (mask : Nat) (deadline : Option Nat)
  /-- A request that another unit or device performs; its result goes to D. -/
  | request (r : Req)
  deriving DecidableEq, Repr, Inhabited

/-- A steward-mode core: a steward, a die service core or the reeve (R334, R344). -/
structure Stew where
  g : List W64
  pc : W64
  td : Bool
  /-- Latched events LOAD and DRAINED of SSTAT. -/
  evLoad : Bool
  evDrained : Bool
  epc : W64
  etrap0 : W64
  etrap3 : W64
  tvec : W64
  csel : W64
  scratch : W64
  halted : Bool
  /-- The instruction cache: words by address (R335). -/
  icache : Tab (Option W64)
  /-- Mailbox from the reeve, oldest first (R410). -/
  mbox : List W64
  /-- The stalled wait: what for, the destination specifier's code, and the pc after the instruction. -/
  waiting : Option (Wait × Nat)
  deriving DecidableEq, Repr, Inhabited

/-- A steward-mode core as its reset leaves it, at the boot vector (R336). -/
def Stew.init (boot : W64) : Stew :=
  { g := List.replicate 32 0, pc := boot, td := false, evLoad := false, evDrained := false, epc := 0, etrap0 := 0, etrap3 := 0,
    tvec := 0, csel := 0, scratch := 0, halted := false, icache := [], mbox := [], waiting := none }

/-! ## Frontier units and home aggregators -/

/-- An entry of a batch: location, timestamp, increment or decrement, the tag it carries (cluster, sequence), taint,
whether it is a request, and whether it is the +1 of a token that the gate admitted (R175, R180, R185, R186). -/
structure Mark where
  loc : Nat
  ts : W64
  plus : Bool
  tag : Option (Nat × Nat)
  taint : Bool
  isReq : Bool
  gate : Bool := false
  deriving DecidableEq, Repr, Inhabited

/-- A batch: sequence number, core clock of its opening, entries oldest first (R186). -/
structure Batch where
  seq : Nat
  opened : Nat
  marks : List Mark
  /-- The first batch of an allocation, which announces the restart of the sequence numbers (R315). -/
  first : Bool := false
  deriving DecidableEq, Repr, Inhabited

/-- A region slot of a frontier unit (R315). -/
structure Slot where
  image : Nat
  batch : Option Batch
  /-- Next sequence number, modulo 2^16. -/
  next : Nat
  /-- Highest sequence number acknowledged, by cluster, plus one; a cluster not listed has none. -/
  acked : Tab Nat
  /-- Batches forwarded and not yet acknowledged, by sequence number. -/
  unacked : List Nat
  /-- The slot's allocation is not yet announced to the home aggregator (R315). -/
  announce : Bool
  deriving DecidableEq, Repr, Inhabited

/-- A token in a gate queue (R175): its copies, one for each branch of a fork, the element and route it left on, its network, the loop
and prefix it asks admission to, and the release, chain or emission that waits for it (element, release id). -/
structure Gated where
  toks : List Token
  src : Nat × Nat
  net : Nat
  loop : Nat
  prefixTs : W64
  elem : Nat
  /-- The release it belongs to; none for a chain or an emission. -/
  rel : Option Nat
  /-- The chain, 0 to 3, or 4 for the SPHDR emitter. -/
  chain : Option Nat
  deriving DecidableEq, Repr, Inhabited

/-- A pointstamp with its count at a home aggregator (R179). -/
structure Count where
  loc : Nat
  ts : W64
  n : Int
  deriving DecidableEq, Repr, Inhabited

/-- A pending request at a home aggregator, with the unit and the batch that opened it (R180, R181). -/
structure Pending where
  loc : Nat
  s : W64
  bcl : Nat
  bseq : Nat
  taint : Bool
  delivered : Bool
  deriving DecidableEq, Repr, Inhabited

/-- An activation in flight (R175): loop, prefix, and whether the +1 of a token admitted under it has been applied. -/
structure Act where
  loop : Nat
  pfx : W64
  applied : Bool
  deriving DecidableEq, Repr, Inhabited

/-- The home aggregator of a region (R175 to R187). -/
structure Home where
  counts : List Count
  pending : List Pending
  acts : List Act
  /-- Batches received, by unit (device × 64 + cluster), oldest first; those of other devices while they arrive stand 2^24 higher. -/
  received : Tab (List Batch)
  /-- Highest sequence number applied of each unit, plus one. -/
  applied : Tab Nat
  /-- Units that forwarded a batch since the last broadcast. -/
  fresh : List Nat
  /-- Acknowledgement vectors on their way to the units: (cluster, vector). -/
  acks : List (Nat × List (Nat × Nat))
  /-- Ingress terms of windows of other devices: the floor plus one, by device × 64 + window (R170; log 9). -/
  terms : Tab Nat
  /-- Milestones are held: the region is evicted (R323). -/
  hold : Bool
  /-- The region is lost (R89, R112). -/
  lost : Bool
  deriving DecidableEq, Repr, Inhabited

/-- A home aggregator that counts nothing. -/
def Home.init : Home :=
  { counts := [], pending := [], acts := [], received := [], applied := [], fresh := [], acks := [], terms := [], hold := false, lost := false }

/-! ## Clusters -/

/-- An entry of the count table (R474): image, location, slot, reason, and the count. -/
structure CountEntry where
  image : Nat
  loc : Nat
  slot : Nat
  rsn : Nat
  count : Nat
  deriving DecidableEq, Repr, Inhabited

/-- A walk that runs: where its records go, and the records of the cores sampled so far (R477). -/
structure Walk where
  pa : Nat
  records : List TrapRec
  deriving DecidableEq, Repr, Inhabited

/-- A cluster (spec/13, spec/14, spec/22). -/
structure Cluster where
  /-- Core clock at which CYCLE was 0 (R344). -/
  cycleBase : Nat
  /-- Trap queue: ordinary records, fatal records, LOST (R341). -/
  tq : List TrapRec
  tf : List TrapRec
  lost : Nat
  /-- Fatal records on their way to the fatal places and the fatal line, oldest first (R342). -/
  fatalOut : List TrapRec
  /-- Waiting table words WTA and WTB (R316). -/
  wta : Tab W64
  wtb : Tab W64
  /-- The entry for which PLACEREQ was sent since the last change (R318). -/
  placed : Option Nat
  slots : List Slot
  gate : List Gated
  hedgecnt : W64
  /-- Core clock of the last HEDGEDROP record by far core, plus one (R328). -/
  hedgeLast : Tab Nat
  /-- Evictions in progress: waiting-table entry, image, cores still to drain (R323). -/
  evicting : List (Nat × Nat × List Nat)
  /-- Images that the loader reloads: their spill records return before they run (R324). -/
  reloading : List Nat
  /-- The sides on which contexts of an evicted image have consumed a token with EOS = 1: the image, the core, and the number in `Core.eosSeen`
  (R320, R323). -/
  keptEos : List (Nat × Nat × Nat)
  /-- Observation: OBCTL, the flags of OBSTAT, TRLOST, the ring's next slot and wrap (R470, R471). -/
  obctl : W64
  frozen : Bool
  dumped : Bool
  walked : Bool
  spillFull : Bool
  trlost : Nat
  trhead : Nat
  wrapped : Bool
  /-- Core clock of the trigger record while the ring runs on (R471). -/
  trigger : Option Nat
  /-- The trace ring, by slot: 32-byte records. -/
  ring : Tab TrapRec
  hspill : W64
  /-- Next byte of the spill area. -/
  hspillAt : Nat
  hen : Bool
  hovf : Nat
  /-- Records written in this core clock, and records lost whose KIND 6 record is due (R471). -/
  trNow : Nat
  trMissed : Nat
  /-- The count table: counts by key, the oldest key first (R474). -/
  hist : List CountEntry
  /-- Evicted entries that are not yet written to the spill area, oldest first (R475). -/
  evicted : List CountEntry
  bpt : List W64
  /-- A walk of the stall walker that runs (R477). -/
  walk : Option Walk
  deriving DecidableEq, Repr, Inhabited

/-- A cluster as its reset leaves it. -/
def Cluster.init : Cluster :=
  { cycleBase := 0, tq := [], tf := [], lost := 0, fatalOut := [], wta := [], wtb := [], placed := none, slots := [], gate := [], hedgecnt := 0,
    hedgeLast := [], evicting := [], reloading := [], keptEos := [], obctl := 0, frozen := false, dumped := false, walked := false,
    spillFull := false, trlost := 0, trhead := 0, wrapped := false, trigger := none, ring := [], hspill := 0, hspillAt := 0,
    hen := false, hovf := 0, trNow := 0, trMissed := 0, hist := [], evicted := [], bpt := List.replicate 8 0, walk := none }

/-! ## Dies -/

/-- A TLB entry: tenant, first address, size and leaf of a mapped page (R386). -/
structure TlbEntry where
  ten : Nat
  base : Nat
  size : Nat
  leaf : W64
  deriving DecidableEq, Repr, Inhabited

/-- An access to a fabric-global page as one that may wait at its die's owner cache (R461). -/
inductive Waiter
  /-- A request in a port, by its number. -/
  | request (ord : Nat)
  /-- The instruction at the PC of a steward-mode core. -/
  | steward (n : Nat) (pc : W64)
  /-- The block of an operation of an engine context from `done` on: its read, or its write. -/
  | engine (h num done : Nat) (writes : Bool)
  /-- A part of the running block of a collective. -/
  | collective (mid : Nat) (ts : W64) (done part : Nat)
  deriving DecidableEq, Repr, Inhabited

/-- An owner-cache entry (R455, R461): tenant, page, owner, generation, whether it is CLOSED, and whether it awaits the home's
answer. Its outstanding accesses are those of the package for its page. -/
structure OwnerEntry where
  ten : Nat
  page : Nat
  owner : Nat
  gen : Nat
  closed : Bool
  awaits : Bool
  /-- The accesses numbered below it waited while the entry was CLOSED: they leave in their order (R461). -/
  reopened : Nat := 0
  /-- The accesses of other units than ports that wait, each with its number in the order of the requests (R461). -/
  line : List (Nat × Waiter) := []
  /-- The requests of ports that had hit the entry when it was CLOSED and had not left, by number: they leave before those that waited (R461; log
  131). -/
  early : List Nat := []
  /-- The CLOSED entry lets those through. -/
  ajar : Bool := false
  deriving DecidableEq, Repr, Inhabited

/-- A directory entry (R381): the clusters that may hold the line and, when it is writable, the core that holds it. -/
structure DirEntry where
  clusters : Nat
  writer : Option Nat
  deriving DecidableEq, Repr, Inhabited

/-- An absent directory entry. -/
def DirEntry.init : DirEntry := { clusters := 0, writer := none }

/-- A die (spec/16, spec/17, spec/20). -/
structure Die where
  celsplit : W64
  hlimit : W64
  pinthr : W64
  ttroot : Tab W64
  region : Tab W64
  celhot : Bool
  ewin : W64
  /-- Energy used in the current window by image, in 1/1024 µJ (R389). -/
  eused : Tab Nat
  /-- Images with LEAN set, and those whose frames are ranked so since the last tick (R390). -/
  lean : List Nat
  leanNow : List Nat
  /-- Energy metered by clusters 0 to 3, in 1/1024 µJ. -/
  emc : List Nat
  /-- Their sum at the last tick. -/
  emMark : Nat
  /-- Energy of the die in the last ten ticks, newest first, and in the window (R418). -/
  ticks : List Nat
  ewindow : Nat
  tickParity : Bool
  tlb : List TlbEntry
  /-- Frequency counters by index, and pinned lines (R377). -/
  freq : Tab Nat
  pinned : List Nat
  /-- L2 lines and directory entries by line number (R380, R381). -/
  l2 : Tab CacheLine
  dir : Tab DirEntry
  /-- Deferred presence reads of the cellar (R237). -/
  deferred : List Req
  owner : List OwnerEntry
  /-- Owner lookups in flight: page and tenant (R455). -/
  lookups : List (Nat × Nat)
  /-- Key slots 0 to 7: empty or 57 bytes as a number (R413). -/
  keys : List (Option Nat)
  /-- Corrected-error log and uncorrectable errors since the last scrub (R411, R415). -/
  corrected : Nat
  eccLog : Nat
  deriving DecidableEq, Repr, Inhabited

/-- A die as cold start leaves it (R373, R391). -/
def Die.init : Die :=
  { celsplit := 0, hlimit := 1000, pinthr := 64, ttroot := [], region := [], celhot := false, ewin := 0, eused := [], lean := [], leanNow := [],
    emc := [0, 0, 0, 0], emMark := 0, ticks := [], ewindow := 0, tickParity := false, tlb := [], freq := [], pinned := [], l2 := [], dir := [],
    deferred := [], owner := [], lookups := [], keys := List.replicate 8 none, corrected := 0, eccLog := 0 }

/-! ## Engines -/

/-- An operation of an engine context (R399 to R402). -/
structure EngOp where
  /-- The issuing request. -/
  req : Req
  /-- Its number. -/
  num : Nat
  /-- Bytes delivered so far. -/
  done : Nat
  /-- The core whose scratchpad SCR names: the issuing one, or the one that CSEL named (R401, R402). -/
  core : Nat
  /-- The running block's bytes, once read from another device. -/
  block : Option (List Byte)
  /-- Another device has written the running block. -/
  written : Bool
  /-- The failure that another device answered with. -/
  failed : Option (Nat × W64)
  deriving DecidableEq, Repr, Inhabited

/-- An engine context (R398, R399). -/
structure Engine where
  ectx : W64
  etl : Nat
  nextOp : Nat
  faillo : Nat
  queue : List EngOp
  /-- Waits of TLWAIT and WPWAIT held by the context, and completion replies that no link lets through yet (R395, R403). -/
  waits : List Req
  /-- The length of each ended operation, by number, doubled, plus 1 where it failed, plus 1, for WPWAIT (R249, R400); 0 where the context
  holds none. -/
  lens : Tab Nat
  deriving DecidableEq, Repr, Inhabited

/-- An engine context after a cold start (R399). -/
def Engine.init : Engine := { ectx := 0, etl := 0, nextOp := 1, faillo := 0, queue := [], waits := [], lens := [] }

/-! ## The fabric -/

/-- A packet that an ingress window has accepted (R432). -/
structure Packet where
  w0 : W64
  w1 : W64
  payload : Vec
  deriving DecidableEq, Repr, Inhabited

/-- An ingress window: accepted packets, packets held for an image that is not resident, dropped count, and the floors that
its host wrote, each with the packets before it (R317, R432, R433). -/
structure Window where
  packets : List Packet
  dropped : Nat
  /-- Pending floors: packets still ahead of it, and the floor. -/
  floors : List (Nat × Nat)
  deriving DecidableEq, Repr, Inhabited

/-- An ingress window nothing has used. -/
def Window.init : Window := { packets := [], dropped := 0, floors := [] }

/-- A member of a muster set: entry id, device included, and side (R441). -/
structure Member where
  loc : Nat
  side : Nat
  deriving DecidableEq, Repr, Inhabited

/-- A muster set that this device keeps (R441). -/
structure Muster where
  image : Option Nat
  members : List (Option Member)
  /-- Snapshots and collectives that pin the set (R444, R447). -/
  pins : Nat
  /-- JOINs and LEAVEs that wait, oldest first. -/
  queue : List Req
  deriving DecidableEq, Repr, Inhabited

/-- A free muster set. -/
def Muster.init : Muster := { image := none, members := List.replicate 64 none, pins := 0, queue := [] }

/-- A collective instance (R447): set, timestamp, pinned members, contributions by slot, bytes done, and whether it failed. -/
structure Collective where
  mid : Nat
  ts : W64
  pinned : List (Nat × Member)
  given : List (Nat × Req)
  done : Nat
  failed : Bool
  /-- The running block: what has been read of each source, by slot, and the slots whose destination has been written. -/
  read : List (Nat × Nat)
  wrote : List Nat
  deriving DecidableEq, Repr, Inhabited

/-- States of a fabric-global page at its home (R454). -/
inductive PageState
  | owned | queued | moving
  deriving DecidableEq, Repr, Inhabited

/-- A home map entry (R454); `posts` are the devices that hold a signpost of the page (R462). -/
structure PageEntry where
  owner : Nat
  state : PageState
  gen : Nat
  cnt : Nat
  cdev : Nat
  sharers : List Nat
  overflow : Bool
  posts : List Nat
  /-- The switch is made and the old owner still relays: the move has not ended (R458 step 5, R464). -/
  relaying : Bool := false
  deriving DecidableEq, Repr, Inhabited

/-- No entry: the page is owned by its home (R454). -/
def PageEntry.init : PageEntry :=
  { owner := 4096, state := .owned, gen := 0, cnt := 0, cdev := 0, sharers := [], overflow := false, posts := [] }

/-- Phases of a migration (R458). -/
inductive MigrPhase
  | copying | frozen
  deriving DecidableEq, Repr, Inhabited

/-- A migration in progress of a page that this device owns (R458). -/
structure Migration where
  page : Nat
  /-- Its physical address here. -/
  pa : Nat
  target : Nat
  ten : Nat
  phase : MigrPhase
  passes : Nat
  /-- Sectors written since they were sent. -/
  dirty : List Nat
  deriving DecidableEq, Repr, Inhabited

/-- A signpost (R460): page, owner, generation, accesses queued to relay; the owner is this device until the switch (R458). -/
structure Signpost where
  page : Nat
  owner : Nat
  gen : Nat
  queue : List Req
  /-- Accesses of other devices that it has relayed and whose replies have not yet left the owner (R462). -/
  relayed : Nat := 0
  /-- The switch is made and what queued before it is not all relayed: the move has not ended (R458 step 5, R464). -/
  draining : Bool := false
  deriving DecidableEq, Repr, Inhabited

/-- A reclamation in progress at a page's home (R462): the sharers that have not yet answered and, once RECLAIM is sent, the devices that still
hold a signpost. -/
structure Reclaim where
  page : Nat
  left : List Nat
  posts : Option (List Nat)
  deriving DecidableEq, Repr, Inhabited

/-- A policy notice (R457). -/
structure Notice where
  va : W64
  w1 : W64
  deriving DecidableEq, Repr, Inhabited

/-- What has left the package towards hosts, other devices and the management sideband. -/
inductive Sent
  /-- A posted write of a token to a host (R434). -/
  | hostWrite (queue : Nat) (tok : Token) (hdev : Nat) (haddr : Nat)
  /-- A token to another device (R427). -/
  | token (port dev : Nat) (tok : Token)
  /-- A copy of a SENDM to a member on another device: the sender's element, context, entry and slot, or a mark with the sender's device and the
  set, the slots of the fork and the copy's own (R444). -/
  | copy (port dev : Nat) (tok : Token) (sender : Nat × Nat × Nat × Nat) (all slot : Nat)
  /-- The token of a SENDM on its way to the set's keeper, as its counted copies (R444). -/
  | fork (port dev : Nat) (toks : List Token)
  /-- A token that another device counted and this one dropped: the frontier unit that its tag names records the decrement (R327, R430,
  R444). -/
  | dropped (dev : Nat) (tok : Token)
  /-- A request to another device (R437, R455). -/
  | request (port dev : Nat) (r : Req)
  /-- A message of the migration protocol: kind, device, page, owner, generation (R455 to R462). Kinds: 1 redirect, 2 CONSULT,
  3 count, 4 start of a migration, 5 GO, 6 the switch told to the home, 7 abort, 8 a new sharer, 9 invalidation, 10 its answer,
  11 RECLAIM, 12 the owner that a lookup asked for, 13 a lookup, 17 a signpost freed, 18 the end of a move's relays told to the home; and of the muster keeper: 14 a contribution accepted, 15 a snapshot asked
  for, 16 the delivered slots of a fork that is not whole, with the set, the slots, or the set and the slots as page and owner (R444,
  R447). -/
  | message (kind dev page owner gen : Nat)
  /-- The answer to a remote request: device, value, tainted (R438). -/
  | answer (dev : Nat) (v : Vec) (taint : Bool)
  /-- The management sideband reports that the reeve's firmware did not verify (R412). -/
  | bootFailure
  /-- A host read that completes with a value, or with an error (R431). -/
  | hostRead (v : Option W64)
  /-- A batch of a region that another device homes, or, without marks, an entry of an acknowledgement vector to other devices: the
  highest sequence number, and the unit in `opened` (R448). -/
  | batch (image : Nat) (unit : Nat) (b : Batch)
  /-- A region's ingress term of a window here goes to the home on another device: its floor, or none where the window is unbound (R170). -/
  | term (image window : Nat) (floor : Option Nat)
  /-- A gate here asks the home on another device to admit an activation of a loop, or, with `granted`, the home here grants what another device's
  gate asked (R175). -/
  | admission (image loop : Nat) (pfx : W64) (granted : Bool)
  deriving DecidableEq, Repr, Inhabited

/-- A fatal-line notice (R342, R410). -/
abbrev FatalNotice := TrapRec

/-- A latent soft error, an input: the structure and its place (R52, R89, R112, R219, R375, R415). -/
inductive SoftErr
  /-- An instruction slot of a context (core × 32 + element × 8 + context, slot); uncorrectable or corrected. -/
  | slot (ctx slot : Nat) (hard : Bool)
  /-- A scratchpad granule. -/
  | scr (core offset : Nat) (hard : Bool)
  /-- An L1 line's sector. -/
  | l1 (core line sector : Nat) (hard : Bool)
  /-- An L2 line's sector, at its home die. -/
  | l2 (die line sector : Nat) (hard : Bool)
  /-- An operand-buffer slot that holds a token of a matching-store entry: its element, entry and slot number. -/
  | obuf (elem ms slot : Nat) (hard : Bool)
  /-- A matching-store entry: in the tag, or in another field. -/
  | store (elem ms : Nat) (inTag : Bool)
  /-- A cellar granule. -/
  | cellar (die offset : Nat) (hard : Bool)
  /-- An HBM granule, for reads of memory and writes of the lay-by. -/
  | hbm (addr : Nat) (hard : Bool)
  deriving DecidableEq, Repr, Inhabited

/-- A loop of a region's loop table (R174). -/
structure LoopRow where
  image : Nat
  loop : Nat
  parent : Nat
  window : Nat
  rank : Nat
  deriving DecidableEq, Repr, Inhabited

/-- What the package's fuses hold for the starts: the digest that the vendor key must have, the vendor key, and the unique secret, whose
length the spec does not give (R411, R412; log 5). -/
structure Fuses where
  rootDigest : BitVec 512
  vendorKey : BitVec 456
  secret : BitVec 512
  deriving DecidableEq, Repr, Inhabited

/-- The attestation measurement of a start: the digests of the reeve image and of the steward firmware, and the secret of the device
identity key (R411, R412, R414). -/
structure Measurement where
  reeveImage : BitVec 512
  stewardFirmware : BitVec 512
  identity : BitVec 456
  deriving DecidableEq, Repr, Inhabited

/-- The package (spec/17 to spec/20). -/
structure Package where
  fuses : Fuses
  measured : Measurement
  homemask : W64
  bootvec : W64
  /-- Inbox of the reeve: message and sender's SSELF (R410). -/
  inbox : List (W64 × W64)
  rinsrc : W64
  rmsel : W64
  fatal : List FatalNotice
  /-- The reeve's record queue and its LOST (R343). -/
  rq : List TrapRec
  rlost : Nat
  pkgrst : W64
  dbud : List W64
  govstat : W64
  gwin : W64
  engines : Tab Engine
  /-- D0's die-space words at 0x400 and above, by offset. -/
  fabric : Tab W64
  windows : Tab Window
  /-- Host egress queues (R434). -/
  egress : Tab (List Token)
  musters : Tab Muster
  collectives : List Collective
  /-- Nonces of attestation requests pending (R436). -/
  attest : List (BitVec 256)
  /-- Starts since manufacture (R414). -/
  starts : Nat
  policy : List Notice
  polOvf : Nat
  /-- Home map of the pages homed here, by page (R454). -/
  pages : Tab PageEntry
  /-- Pages that this device owns and another one homes (R458). -/
  owned : List Nat
  /-- Remote accesses counted per (page, device): page × 4096 + device (R456). -/
  remote : Tab Nat
  signposts : List Signpost
  migrations : List Migration
  /-- Reclamations in progress (R462). -/
  reclaims : List Reclaim
  /-- Working UCIe modules of the four die-to-die links D0–D1, D0–D2, D1–D3, D2–D3, eight bits each (R394, R395). -/
  ucie : List Nat
  /-- Requests sent to other devices and not yet answered (R430, R438). -/
  outstanding : List Req
  /-- Writes of route-table words that wait for the tokens on the old port: offset and value (R427). -/
  reroutes : List (Nat × W64)
  /-- Releases that met a full or unbound host egress queue, by queue (R434, R452). -/
  egqFull : Tab Nat
  /-- Reports of the reeve that wait for queue 63 (R416, R435). -/
  reports : List Token
  deriving DecidableEq, Repr, Inhabited

/-- The package right after a cold start (R411, R417, R430, R456). -/
def Package.init : Package :=
  { fuses := { rootDigest := 0, vendorKey := 0, secret := 0 }, measured := { reeveImage := 0, stewardFirmware := 0, identity := 0 },
    homemask := 0, bootvec := 0, inbox := [], rinsrc := 0, rmsel := 0, fatal := [], rq := [], rlost := 0, pkgrst := 0,
    dbud := List.replicate 4 (BitVec.ofNat 64 (7500 * 2 ^ 32 + 600000)), govstat := 0, gwin := 0, engines := [],
    fabric := [(0x400, 200), (0x600, 4096)], windows := [], egress := [], musters := [], collectives := [], attest := [],
    starts := 0, policy := [], polOvf := 0, pages := [], owned := [], remote := [], signposts := [], migrations := [], reclaims := [],
    ucie := List.replicate 4 0xFF, outstanding := [], reroutes := [], egqFull := [], reports := [] }

/-! ## The machine -/

/-- Why the machine stops with a fault. -/
inductive Fault
  /-- Raised by an instruction's meaning called for an element that runs no firing, or for an agent of the other mode. `step`
  never calls one so: safe, the hardware has no such situation. -/
  | noFiring
  deriving DecidableEq, Repr

/-- Why an instruction has no meaning. -/
inductive Refusal
  /-- Raised by a dispatch arm of an instruction that is not modelled yet: safe, nothing can be proved of its effect. -/
  | notModelled (mnemonic : String)
  deriving DecidableEq, Repr

/-- The state of the machine: one package, and what surrounds a step of it. -/
structure State where
  /-- What the next step does (log 1). -/
  turn : Turn
  /-- What the steps after it do, while it lasts (log 1). -/
  agenda : List Turn
  /-- Steps taken, which number the schedule (log 1). -/
  stepNo : Nat
  /-- The agent that moves in this step (log 2). -/
  actor : Actor
  /-- The particulars of the event of this step (log 2). -/
  event : Event
  /-- The number of the next free value (log 4). -/
  free : Nat
  /-- The number of the next release, and of the next completion (log 2). -/
  fresh : Nat
  /-- Core clocks since the start. -/
  clock : Nat
  /-- Memory: physical addresses as they stand, scratchpads at 2^52 + core × 2^19, cellars at 2^53 + die × 2^30 (log 3). -/
  mem : List Host.Cell
  /-- Full granules of scratchpads and cellars, by address / 8 in the numbering of `mem` (R206, R237). -/
  presence : Tab Bool
  /-- Latent soft errors. -/
  soft : List SoftErr
  /-- Tokens on the networks. -/
  net : List Flight
  /-- Loop tables of the resident regions (R174; log 9). -/
  loops : List LoopRow
  /-- Other devices on which a region has cores, by image (R430, R448; log 9). -/
  devices : Tab (List Nat)
  /-- Entry words of locations on other devices, by location (R448; log 9). -/
  farEntries : Tab W64
  /-- Images of contexts on other devices, plus 1, by location / 8 (R169; log 9). -/
  farImages : Tab Nat
  /-- Lay-bys of the resident regions, by image: global virtual and physical base (R110; log 9). -/
  laybys : Tab (W64 × W64)
  /-- The contexts (element × 8 + context) that a region occupies by its placement, by image, ascending (R110, R324; log 9). -/
  places : Tab (List Nat)
  /-- Fuses: fused-off cores of each cluster and the device id (R411; log 5). -/
  fused : List (BitVec 128)
  devId : Nat
  cores : Tab Core
  elems : Tab Elem
  clusters : List Cluster
  dies : List Die
  homes : Tab Home
  stewards : List Stew
  pkg : Package
  /-- What has left the package, newest first. -/
  out : List Sent
  deriving DecidableEq, Repr

/-- The machine right after a cold start: every unit as R411 leaves it, the stewards, die service cores and the reeve at the
boot vector, memory with nothing listed. The values the spec does not give are those of logs 1 to 6. -/
def State.reset : State :=
  { turn := .run .reeve, agenda := [], stepNo := 0, actor := .reeve, event := default, free := 0, fresh := 0, clock := 0,
    mem := [], presence := [], soft := [], net := [], loops := [], devices := [], farEntries := [], farImages := [], laybys := [], places := [], fused := List.replicate 16 0, devId := 0,
    cores := [], elems := [], clusters := List.replicate 16 Cluster.init, dies := List.replicate 4 Die.init, homes := [],
    stewards := List.replicate 21 (Stew.init 0), pkg := Package.init, out := [] }

end Sys2Proof.Machine
end

