-- ==== Sys2Proof/Machine/Ops.lean ====
section
/-! DEFINITION. The named operations over registers, configuration words, memory, trap queues and counts, among them taking an
exception (a steward's precise trap, the parking of a frame) and the return from one. -/

namespace Sys2Proof.Machine

/-! ## Bits, words and numbers of units -/

/-- Bits [hi:lo] of a word. -/
def bits (w : W64) (hi lo : Nat) : Nat := (w.toNat >>> lo) % 2 ^ (hi - lo + 1)
/-- Bit n of a word. -/
def bitOf (w : W64) (n : Nat) : Bool := w.toNat.testBit n
/-- A word from a number. -/
def word (n : Nat) : W64 := BitVec.ofNat 64 n
/-- A word with bits [hi:lo] replaced. -/
def setBits (w : W64) (hi lo v : Nat) : W64 :=
  word (w.toNat - (bits w hi lo) * 2 ^ lo + (v % 2 ^ (hi - lo + 1)) * 2 ^ lo)
/-- 1 or 0. -/
def ofBool (b : Bool) : Nat := if b then 1 else 0
/-- A word read as two's complement. -/
def sword (w : W64) : Int := signed 64 w.toNat
/-- The sign-extended X (R41, R479). -/
def signX (x : BitVec 29) : Int := signed 29 x.toNat
/-- The number of set bits among the low `n`. -/
def popCount (n x : Nat) : Nat := (List.range n).countP fun i => x.testBit i

/-- Replaces the `n`-th entry of a list. -/
def setAt {α : Type} (l : List α) (n : Nat) (x : α) : List α := l.set n x

/-- The core of an element. -/
def coreOf (e : Nat) : Nat := e / 4
/-- The cluster, 0 to 15, of a core. -/
def clusterOf (c : Nat) : Nat := c / 128
/-- The die of a core. -/
def dieOf (c : Nat) : Nat := c / 512

/-- A location: an entry of a context, with its device (0 for this one is `devId`): device × 2^19 + entry number. -/
def locOf (dev core el ctx ent : Nat) : Nat := dev * 2 ^ 19 + ((core * 4 + el) * 8 + ctx) * 8 + ent
/-- The device of a location. -/
def locDev (loc : Nat) : Nat := loc / 2 ^ 19
/-- The core of a location. -/
def locCore (loc : Nat) : Nat := loc % 2 ^ 19 / 256
/-- The element of a location within its core. -/
def locEl (loc : Nat) : Nat := loc / 64 % 4
/-- The context of a location within its element. -/
def locCtx (loc : Nat) : Nat := loc / 8 % 8
/-- The entry of a location. -/
def locEnt (loc : Nat) : Nat := loc % 8

/-! ## The units -/

/-- A core. -/
def State.core (s : State) (c : Nat) : Core := Tab.get Core.init s.cores c
/-- Replaces a core. -/
def State.setCore (s : State) (c : Nat) (x : Core) : State := { s with cores := Tab.set Core.init s.cores c x }
/-- An element. -/
def State.elem (s : State) (e : Nat) : Elem := Tab.get Elem.init s.elems e
/-- Replaces an element. -/
def State.setElem (s : State) (e : Nat) (x : Elem) : State := { s with elems := Tab.set Elem.init s.elems e x }
/-- A cluster. -/
def State.cluster (s : State) (c : Nat) : Cluster := s.clusters.getD c Cluster.init
/-- Replaces a cluster. -/
def State.setCluster (s : State) (c : Nat) (x : Cluster) : State := { s with clusters := setAt s.clusters c x }
/-- A die. -/
def State.die (s : State) (d : Nat) : Die := s.dies.getD d Die.init
/-- Replaces a die. -/
def State.setDie (s : State) (d : Nat) (x : Die) : State := { s with dies := setAt s.dies d x }
/-- A steward-mode core. -/
def State.stew (s : State) (n : Nat) : Stew := s.stewards.getD n (Stew.init 0)
/-- Replaces a steward-mode core. -/
def State.setStew (s : State) (n : Nat) (x : Stew) : State := { s with stewards := setAt s.stewards n x }
/-- The home aggregator of a region. -/
def State.home (s : State) (image : Nat) : Home := Tab.get Home.init s.homes image
/-- Replaces the home aggregator of a region. -/
def State.setHome (s : State) (image : Nat) (x : Home) : State := { s with homes := Tab.set Home.init s.homes image x }
/-- A port of a core. -/
def Core.port (c : Core) (p : Nat) : Port := c.ports.getD p Port.init
/-- Replaces a port of a core. -/
def Core.setPort (c : Core) (p : Nat) (x : Port) : Core := { c with ports := setAt c.ports p x }
/-- An engine context. -/
def State.engine (s : State) (h : Nat) : Engine := Tab.get Engine.init s.pkg.engines h
/-- Replaces an engine context. -/
def State.setEngine (s : State) (h : Nat) (x : Engine) : State :=
  { s with pkg := { s.pkg with engines := Tab.set Engine.init s.pkg.engines h x } }

/-- The number of a steward-mode core: stewards 0 to 15, die service cores 16 to 19, the reeve 20; none for an element. -/
def stewNo : Actor → Option Nat
  | .steward n => some n
  | .dsc d => some (16 + d)
  | .reeve => some 20
  | .element _ => none

/-- The steward-mode core of a number. -/
def stewActor (n : Nat) : Actor := if n < 16 then .steward n else if n < 20 then .dsc (n - 16) else .reeve

/-- The die of a steward-mode core. -/
def stewDie (n : Nat) : Nat := if n < 16 then n / 4 else if n < 20 then n - 16 else 0
/-- The cluster, 0 to 15, that a steward-mode core works in: its own, or cluster 0 of its die (R344). -/
def stewCluster (n : Nat) : Nat := if n < 16 then n else stewDie n * 4
/-- SSELF (R344). -/
def sself (s : State) (n : Nat) : W64 :=
  word (s.devId * 2 ^ 52 + stewDie n * 2 ^ 50 + (if n < 16 then n % 4 else 0) * 2 ^ 48
    + (if n < 16 then 0 else if n < 20 then 1 else 2) * 2 ^ 46)

/-- Whether core `n`, 0 to 127, of a cluster is fused off (R344). -/
def isFused (s : State) (core : Nat) : Bool := (s.fused.getD (clusterOf core) 0).toNat.testBit (core % 128)

/-- CYCLE of a cluster: its core clocks since cluster reset (R344). -/
def cycleOf (s : State) (cl : Nat) : Nat := s.clock - (s.cluster cl).cycleBase

/-! ## Context configuration words -/

/-- A context word by element, context and offset; 0x58 to 0x5B and 0x5F are one set for each core (R53, R58, R209). -/
def Core.ctxWord (c : Core) (el ctx off : Nat) : W64 :=
  let slot := bits c.wsel 4 0
  if off = 0x58 then c.wsel
  else if off = 0x59 then Tab.get 0 c.wva slot
  else if off = 0x5A then Tab.get 0 c.wlen slot
  else if off = 0x5B then Tab.get 0 c.wpa slot
  else if off = 0x5F then c.crcWord
  else Tab.get 0 c.cfg0 ((el * 8 + ctx) * 128 + off)

/-- Writes a context word live. -/
def Core.setCtxWord (c : Core) (el ctx off : Nat) (v : W64) : Core :=
  let slot := bits c.wsel 4 0
  if off = 0x58 then { c with wsel := v }
  else if off = 0x59 then { c with wva := Tab.set 0 c.wva slot v }
  else if off = 0x5A then { c with wlen := Tab.set 0 c.wlen slot v }
  else if off = 0x5B then { c with wpa := Tab.set 0 c.wpa slot v }
  else if off = 0x5F then { c with crcWord := v }
  else { c with cfg0 := Tab.set 0 c.cfg0 ((el * 8 + ctx) * 128 + off) v }

/-- The context word of a context of element `e` (R54). -/
def ctxWord (s : State) (e ctx : Nat) : W64 := (s.core (coreOf e)).ctxWord (e % 4) ctx 0
/-- The entry word of a location of this device (R55). -/
def entryWord (s : State) (e ctx ent : Nat) : W64 := (s.core (coreOf e)).ctxWord (e % 4) ctx (1 + ent)
/-- A route word (R56). -/
def routeWord (s : State) (e ctx r : Nat) : W64 := (s.core (coreOf e)).ctxWord (e % 4) ctx (0x30 + r)
/-- V of a context (R54). -/
def ctxValid (s : State) (e ctx : Nat) : Bool := bitOf (ctxWord s e ctx) 63
/-- IMAGE of a context (R54). -/
def ctxImage (s : State) (e ctx : Nat) : Nat := bits (ctxWord s e ctx) 52 37
/-- Whether a cluster is evicting a region, or its reload is not complete: its contexts are frozen (R323, R324). -/
def frozenRegion (s : State) (cl image : Nat) : Bool :=
  ((s.cluster cl).evicting.any fun (_, i, _) => i == image) || (s.cluster cl).reloading.contains image
/-- PRI of a context, 0 while it is HELD or frozen (R54, R104, R355). -/
def ctxPri (s : State) (e ctx : Nat) : Nat :=
  if (s.core (coreOf e)).heldCtx.contains (e % 4 * 8 + ctx) || frozenRegion s (clusterOf (coreOf e)) (ctxImage s e ctx) then 0
  else bits (ctxWord s e ctx) 62 59
/-- SCOPE of a context (R54). -/
def ctxScope (s : State) (e ctx : Nat) : Nat := bits (ctxWord s e ctx) 58 56
/-- The tenant of a core (R326). -/
def tenantOf (s : State) (core : Nat) : Nat := bits (Tab.get 0 (s.core core).cfg1 0x31) 7 0

/-- The valid contexts of a region: element and context, in ascending order, as the configured cores hold them. -/
def regionCtxs (s : State) (image : Nat) : List (Nat × Nat) :=
  s.cores.flatMap fun (c, core) => core.cfg0.filterMap fun (k, w) =>
    if k % 128 = 0 ∧ bitOf w 63 ∧ bits w 52 37 = image then some (c * 4 + k / 1024, k / 128 % 8) else none

/-- The elements that a region occupies, ascending: by its placement, else those that hold a valid context of it. -/
def regionElems (s : State) (image : Nat) : List Nat :=
  let l := Tab.get [] s.places image
  if l.isEmpty then ((regionCtxs s image).map Prod.fst).eraseDups else (l.map (· / 8)).eraseDups

/-! ## Memory -/

/-- First address of scratchpads in the numbering of `mem`. -/
def scrBase : Nat := 2 ^ 52
/-- First address of cellars in the numbering of `mem`. -/
def celBase : Nat := 2 ^ 53
/-- The address of a scratchpad byte. -/
def scrAddr (core off : Nat) : Nat := scrBase + core * 2 ^ 19 + off
/-- The address of a cellar byte. -/
def celAddr (die off : Nat) : Nat := celBase + die * 2 ^ 30 + off

/-- What an address that memory does not list reads as (R396 for HBM; log 3). -/
def Memory.unlisted : Byte := 0

/-- The canonical form of memory: addresses strictly rising, none listed with the value of an unlisted address. -/
def Memory.wf (m : List Host.Cell) : Bool := Tab.wf Memory.unlisted m

/-- The byte at an address. -/
def State.readByte (s : State) (a : Nat) : Byte := Tab.get Memory.unlisted s.mem a
/-- Writes the byte at an address. -/
def State.writeByte (s : State) (a : Nat) (b : Byte) : State := { s with mem := Tab.set Memory.unlisted s.mem a b }

/-- `n` bytes from an address on. -/
def State.readBytes (s : State) (a n : Nat) : List Byte := (List.range n).map fun i => s.readByte (a + i)
/-- Writes bytes from an address on. -/
def State.writeBytes (s : State) (a : Nat) : List Byte → State
  | [] => s
  | b :: rest => (s.writeByte a b).writeBytes (a + 1) rest

/-- The number that bytes hold, little-endian (R5). -/
def numOfBytes : List Byte → Nat
  | [] => 0
  | b :: rest => b.toNat + 256 * numOfBytes rest
/-- The low `n` bytes of a number, little-endian (R5). -/
def bytesOfNum : Nat → Nat → List Byte
  | 0, _ => []
  | n + 1, v => BitVec.ofNat 8 v :: bytesOfNum n (v / 256)

/-- An `n`-byte little-endian number in memory. -/
def State.readNum (s : State) (a n : Nat) : Nat := numOfBytes (s.readBytes a n)
/-- Writes an `n`-byte little-endian number. -/
def State.writeNum (s : State) (a n v : Nat) : State := s.writeBytes a (bytesOfNum n v)

/-- The presence bit of the granule that holds an address (R206, R237). -/
def State.present (s : State) (a : Nat) : Bool := Tab.get false s.presence (a / 8)
/-- Sets the presence bit of the granule that holds an address. -/
def State.setPresent (s : State) (a : Nat) (b : Bool) : State := { s with presence := Tab.set false s.presence (a / 8) b }

/-- Whether a range of physical addresses lies in HBM (R396). -/
def inHbm (a n : Nat) : Bool := decide (a + n ≤ 0x8000000000)
/-- Whether a range lies in the engine register blocks (R396). -/
def inEngineRegs (a n : Nat) : Bool := decide (0xE000000000000 ≤ a) && decide (a + n ≤ 0xE000000080000)
/-- Whether a range lies in the boot flash window (R396). -/
def inFlash (a n : Nat) : Bool := decide (0xF000000000000 ≤ a) && decide (a + n ≤ 0xF000010000000)

/-- Whether a latent uncorrectable error lies in a range of memory, in the numbering of `mem`. -/
def hasHardError (s : State) (a n : Nat) : Bool := s.soft.any fun e => match e with
  | .scr core off hard => hard && decide (a < scrAddr core off + 8) && decide (scrAddr core off < a + n)
  | .cellar die off hard => hard && decide (a < celAddr die off + 8) && decide (celAddr die off < a + n)
  | .hbm addr hard => hard && decide (a < addr + 8) && decide (addr < a + n)
  | _ => false

/-! ## Records and queues -/

/-- Word 0 of a trap record (R107). -/
def recWord0 (cause sub slot : Nat) (pre async : Bool) (hrank dev die cl cy cx el ctx ent : Nat) : W64 :=
  word (cause * 2 ^ 56 + sub * 2 ^ 52 + slot * 2 ^ 47 + ofBool pre * 2 ^ 46 + ofBool async * 2 ^ 45 + hrank * 2 ^ 42
    + dev * 2 ^ 30 + die * 2 ^ 28 + cl * 2 ^ 26 + cy * 2 ^ 22 + cx * 2 ^ 19 + el * 2 ^ 17 + ctx * 2 ^ 14 + ent * 2 ^ 11)

/-- Word 0 of a record of a context of element `e` (R107). -/
def elemWord0 (s : State) (cause slot : Nat) (pre async : Bool) (e ctx ent : Nat) : W64 :=
  let c := coreOf e
  recWord0 cause 0 slot pre async (bits (ctxWord s e ctx) 55 53) s.devId (dieOf c) (clusterOf c % 4) (c % 128 / 8) (c % 8)
    (e % 4) ctx ent

/-- Queues an ordinary asynchronous record in a cluster's trap queue, or counts it as lost (R341). -/
def queueAsync (s : State) (cl : Nat) (r : TrapRec) : State :=
  let c := s.cluster cl
  if c.tq.length < 62 then s.setCluster cl { c with tq := c.tq ++ [r] }
  else s.setCluster cl { c with lost := min (c.lost + 1) 65535 }

/-- Queues an asynchronous record in the reeve's record queue, or counts it as lost (R343). -/
def queueReeve (s : State) (r : TrapRec) : State :=
  if s.pkg.rq.length < 64 then { s with pkg := { s.pkg with rq := s.pkg.rq ++ [r] } }
  else { s with pkg := { s.pkg with rlost := min (s.pkg.rlost + 1) 65535 } }

/-- Raises a fatal record in a cluster: FATAL_NOTICE takes it on (R342). -/
def sendFatal (s : State) (cl : Nat) (r : TrapRec) : State :=
  let c := s.cluster cl
  s.setCluster cl { c with fatalOut := c.fatalOut ++ [r] }

/-- The oldest raised fatal record of a cluster goes into a fatal place where one is free, and a notice goes to the reeve: the whole record
where none is free, and always for DBLTRAP (R342). -/
def noticeFatal (s : State) (cl : Nat) : State :=
  let c := s.cluster cl
  match c.fatalOut with
  | [] => s
  | r :: rest =>
    let short : TrapRec := { w0 := recWord0 (bits r.w0 63 56) 0 0 false false 0 0 (cl / 4) (cl % 4) 0 0 0 0 0, w1 := 0, w2 := 0, w3 := 0 }
    let free := decide (c.tf.length < 2)
    let s := s.setCluster cl { c with fatalOut := rest, tf := if free then c.tf ++ [r] else c.tf }
    { s with pkg := { s.pkg with fatal := s.pkg.fatal ++ [if free && bits r.w0 63 56 != Cause.dbltrap then short else r] } }

/-- A precise trap of a steward-mode core, before any effect of the trapping word (R338). `pc` is the word's address, or the
target for IFETCH. A second trap halts the core and sends DBLTRAP. -/
def stewTrap (s : State) (n : Nat) (cause sub : Nat) (detail : W64) (pc : W64) : State :=
  let st := s.stew n
  let w0 := recWord0 cause sub 0 true false 7 s.devId (stewDie n) (if n < 16 then n % 4 else 0) 0 0 0 0 0
  let st := { st with epc := pc, etrap0 := w0, etrap3 := detail, waiting := none }
  if st.td then
    let s := s.setStew n { st with halted := true }
    let r : TrapRec := { w0 := recWord0 Cause.dbltrap 0 0 true false 7 s.devId (stewDie n) (if n < 16 then n % 4 else 0) 0 0 0 0 0,
                         w1 := 0, w2 := 0, w3 := pc }
    if n < 16 then sendFatal s n r else { s with pkg := { s.pkg with fatal := s.pkg.fatal ++ [r] } }
  else s.setStew n { st with td := true, pc := st.tvec }

/-- The return from a steward's trap (R350): TD := 0 and PC := EPC. -/
def stewReturn (s : State) (n : Nat) : State :=
  let st := s.stew n
  s.setStew n { st with td := false, pc := st.epc }

/-! ## Energy of the units (R389) -/

/-- What a unit does is metered by a cluster, and charged to the image that caused it: a request, an engine block, an array row, a
token's access to the network, or, with no image, leakage or a steward's work (R389; log 8). -/
def chargeUnits (s : State) (cl : Nat) (image : Option Nat) : State :=
  let x := Config.unitEnergy s.stepNo cl
  let d := s.die (cl / 4)
  let d := { d with emc := setAt d.emc (cl % 4) (d.emc.getD (cl % 4) 0 + x) }
  s.setDie (cl / 4) (match image with
    | some i => { d with eused := Tab.set 0 d.eused i (Tab.get 0 d.eused i + x) }
    | none => d)

/-- Energy of an issued instruction: to its cluster, and to the image of its context for an element (R389; log 8). -/
def chargeEnergy (s : State) (a : Actor) (x : Nat) : State := match a with
  | .element e => 
    let c := coreOf e
    let d := s.die (dieOf c)
    let k := clusterOf c % 4
    let d := { d with emc := setAt d.emc k (d.emc.getD k 0 + x) }
    match (s.elem e).firing with
    | some f =>
      let im := ctxImage s e f.frame.ctx
      s.setDie (dieOf c) { d with eused := Tab.set 0 d.eused im (Tab.get 0 d.eused im + x) }
    | none => s.setDie (dieOf c) d
  | .steward n =>
    let d := s.die (n / 4)
    s.setDie (n / 4) { d with emc := setAt d.emc (n % 4) (d.emc.getD (n % 4) 0 + x) }
  | .dsc _ => s
  | .reeve => s

/-! ## Timestamps (R59, R166) -/

/-- Depth of a timestamp. -/
def tsDepth (t : W64) : Nat := bits t 63 62
/-- Coordinate i of a timestamp. -/
def tsCoord (t : W64) (i : Nat) : Nat :=
  if i = 0 then bits t 61 37 else if i = 1 then bits t 36 25 else if i = 2 then bits t 24 13 else bits t 12 1
/-- Sets coordinate i of a timestamp. -/
def tsSet (t : W64) (i v : Nat) : W64 :=
  if i = 0 then setBits t 61 37 v else if i = 1 then setBits t 36 25 v else if i = 2 then setBits t 24 13 v else setBits t 12 1 v
/-- A timestamp cut or padded to a depth, the coordinates beyond it zero. -/
def tsTo (t : W64) (d : Nat) : W64 :=
  let t := if d < 3 then tsSet t 3 0 else t
  let t := if d < 2 then tsSet t 2 0 else t
  let t := if d < 1 then tsSet t 1 0 else t
  setBits t 63 62 d
/-- Whether a word is a well-formed timestamp: absent coordinates and bit 0 are zero. -/
def tsWf (t : W64) : Bool := decide (tsTo t (tsDepth t) = t) && !bitOf t 0
/-- Whether timestamp a is earlier than b, both of one depth: coordinates stand from the most significant down (R166). -/
def tsEarlier (a b : W64) : Bool := decide (bits a 61 1 < bits b 61 1)

/-- The timestamp that a token on a route of kind `kind` carries (R167), or the DETAIL of the STAMPOVF that R168 gives.
`n` is the coordinate that an ingress route opens. -/
def tsOnRoute (kind : Nat) (t : W64) (n : Nat := 0) : Except W64 W64 :=
  let d := tsDepth t
  if kind = 2 then (if d = 3 then .error t else .ok (tsSet (tsTo t (d + 1)) (d + 1) n))
  else if kind = 3 then
    if d = 0 then .error t
    else if tsCoord t d = 4095 then .error (tsSet t d 0)
    else .ok (tsSet t d (tsCoord t d + 1))
  else if kind = 4 then (if d = 0 then .error t else .ok (tsTo t (d - 1)))
  else .ok t

/-! ## Locations, loops and the summary (R174, R177, R178) -/

/-- Parent, window and rank of a loop of a region. -/
def loopRow (s : State) (image l : Nat) : Nat × Nat × Nat :=
  match s.loops.find? fun r => r.image == image && r.loop == l with
  | some r => (r.parent, r.window, r.rank)
  | none => Config.loopInfo image l

/-- The loops that enclose loop `l`, itself included, outermost first, at most three. -/
def loopChain (s : State) (image : Nat) : Nat → Nat → List Nat
  | 0, _ => []
  | fuel + 1, l => if l = 0 then [] else loopChain s image fuel (loopRow s image l).1 ++ [l]

/-- The entry word of a location, of this device or of another (R448). -/
def locEntry (s : State) (loc : Nat) : W64 :=
  if locDev loc = s.devId then entryWord s (locCore loc * 4 + locEl loc) (locCtx loc) (locEnt loc) else Tab.get 0 s.farEntries loc
/-- The loops that enclose a location, outermost first. -/
def locLoops (s : State) (image loc : Nat) : List Nat := loopChain s image 3 (bits (locEntry s loc) 40 34)

/-- The length of the common prefix of two lists. -/
def commonPrefix : List Nat → List Nat → Nat
  | a :: as, b :: bs => if a = b then commonPrefix as bs + 1 else 0
  | _, _ => 0

/-- RankAt(X, m) of R177. -/
def rankAt (s : State) (image loc m : Nat) : Nat :=
  let ls := locLoops s image loc
  if m < ls.length then (loopRow s image (ls.getD m 0)).2.2 else bits (locEntry s loc) 33 22

/-- Summary(L, N, t) of R178; none is NEVER. -/
def summary (s : State) (image l n : Nat) (t : W64) : Option W64 :=
  let dn := (locLoops s image n).length
  let m := commonPrefix (locLoops s image l) (locLoops s image n)
  let u := tsTo t m
  if rankAt s image n m ≤ rankAt s image l m then
    if m = 0 then none
    else if tsCoord u m = 4095 then none
    else some (tsTo (tsSet u m (tsCoord u m + 1)) dn)
  else some (tsTo u dn)

/-! ## Frontier units (R185, R186, R315) -/

/-- The slot of a region in a cluster's frontier unit. -/
def findSlot (s : State) (cl image : Nat) : Option Slot := (s.cluster cl).slots.find? fun x => x.image == image
/-- Replaces a region's slot in a cluster's frontier unit. -/
def putSlot (s : State) (cl : Nat) (x : Slot) : State :=
  let c := s.cluster cl
  s.setCluster cl { c with slots := c.slots.map fun y => if y.image = x.image then x else y }

/-- Whether sequence number a comes at or before b, both modulo 2^16. -/
def seqLe (a b : Nat) : Bool := decide ((b + 65536 - a) % 65536 < 32768)

/-- Whether the home aggregator has acknowledged the batch that a tag names, as unit `u` knows it whose open batch has number `q0`: of its
own batches those neither open nor outstanding, of another unit's those up to the highest acknowledged one (R186, R315). -/
def tagAcked (u q0 : Nat) (x : Slot) (tag : Option (Nat × Nat)) : Bool := match tag with
  | none => true
  | some (v, q) =>
    if v = u then q != q0 && !x.unacked.contains q
    else match Tab.get 0 x.acked v with
      | 0 => false
      | h + 1 => seqLe q h

/-- The number of a frontier unit across the fabric: (SRCDEV, BCL) of a batch tag (R448). -/
def unitId (s : State) (cl : Nat) : Nat := s.devId * 64 + cl

/-- The images of the valid contexts of a cluster. -/
def clusterImages (s : State) (cl : Nat) : List Nat :=
  (s.cores.flatMap fun (c, core) => if clusterOf c = cl then core.cfg0.filterMap fun (k, w) =>
    if k % 128 = 0 ∧ bitOf w 63 then some (bits w 52 37) else none else []).eraseDups

/-- Frees the slots of a cluster that hold no entry and whose contexts are all invalid. The block scheduler may then decide anew
(R315, R318). -/
def freeEmptySlots (s : State) (cl : Nat) : State :=
  let c := s.cluster cl
  if c.slots.all fun x => x.batch.isSome then s
  else
    let live := clusterImages s cl
    let keep := c.slots.filter fun x => live.contains x.image || x.batch.isSome
    if keep.length = c.slots.length then s else s.setCluster cl { c with slots := keep, placed := none }

/-- The device that homes a region at the fabric level: the lowest on which it has cores; none for a region of this device alone (R448;
log 9). -/
def fabricHome (s : State) (image : Nat) : Option Nat :=
  let far := Tab.get [] s.devices image
  if far.isEmpty then none else (far ++ if (regionElems s image).isEmpty then [] else [s.devId]).min?

/-- Whether another device homes a region. -/
def homedAway (s : State) (image : Nat) : Bool := (fabricHome s image).any fun d => d != s.devId

/-- Closes a slot's open batch and forwards it to the home aggregator; decrements whose increment is not acknowledged move
into the next batch (R186). The first batch of an allocation announces it (R315). A region that another device homes has its batches
forwarded there (R448; log 9). -/
def closeBatch (s : State) (cl : Nat) (x : Slot) : State := match x.batch with
  | none => s
  | some b =>
    let goes := fun (m : Mark) => m.plus || tagAcked (unitId s cl) b.seq x m.tag
    let out := { b with marks := b.marks.filter goes, first := x.announce }
    let stay := b.marks.filter fun m => !goes m
    let next := (b.seq + 1) % 65536
    let nb : Option Batch := if stay.isEmpty then none else some { seq := next, opened := s.clock, marks := stay }
    let x := { x with batch := nb, next := next, unacked := x.unacked ++ [b.seq], announce := false }
    let s := freeEmptySlots (putSlot s cl x) cl
    let h := s.home x.image
    let u := unitId s cl
    if homedAway s x.image then { s with out := .batch x.image u out :: s.out }
    else s.setHome x.image { h with received := Tab.set [] h.received u (Tab.get [] h.received u ++ [out]),
                                    fresh := if h.fresh.contains u then h.fresh else h.fresh ++ [u] }

/-- The number of distinct pointstamps of a batch. -/
def stamps (b : Batch) : Nat := (b.marks.map fun m => (m.loc, m.ts)).eraseDups.length

/-- Whether a slot may hold one more unacknowledged batch (R186). -/
def Slot.mayForward (x : Slot) : Bool := decide (x.unacked.length < 32768)

/-- Records a mark in a region's open batch of a cluster's frontier unit and answers the batch's sequence number. A region
without a slot there records nothing (R416). A batch that comes to hold 32 pointstamps closes, unless the unit's unacknowledged batches
are at their limit; the next mark, be it of the same firing, opens the next batch, the model's choice (R185, R186; log 133). -/
def recordMark (s : State) (cl image : Nat) (m : Mark) : State × Nat := match findSlot s cl image with
  | none => (s, 0)
  | some x =>
    let b : Batch := match x.batch with
      | some b => { b with marks := b.marks ++ [m] }
      | none => { seq := x.next, opened := s.clock, marks := [m] }
    let x := { x with batch := some b }
    let s := putSlot s cl x
    (if 32 ≤ stamps b && x.mayForward then closeBatch s cl x else s, b.seq)

/-- The cluster whose frontier unit records a mark of a region for a unit of cluster `cl`: its own where it holds a slot of
the region or the destination is another device's, else the destination's (R169, R185; log 10). -/
def markCluster (s : State) (cl image loc : Nat) : Nat :=
  if (findSlot s cl image).isSome || locDev loc != s.devId then cl else clusterOf (locCore loc)

/-- Records +1 for a token about to leave and writes the batch's tag into it (R185). A token to another device is counted by
the region's own unit under the location's number. `gate` for one that the gate admitted. -/
def countToken (s : State) (cl loc : Nat) (tok : Token) (gate : Bool := false) : State × Token :=
  let c := markCluster s cl tok.region loc
  let (s', q) := recordMark s c tok.region { loc := loc, ts := tok.ts, plus := true, tag := none, taint := false, isReq := false, gate := gate }
  (s', { tok with h2 := setBits (setBits (setBits tok.h2 63 52 s.devId) 51 46 c) 45 30 q })

/-- Records -1 for a decrement (R185). -/
def recordDec (s : State) (cl : Nat) (d : Dec) (taint : Bool) : State :=
  (recordMark s (markCluster s cl d.region d.loc) d.region
    { loc := d.loc, ts := d.ts, plus := false, tag := some (d.bcl, d.bseq), taint := taint, isReq := false }).1

/-- The location that a token's header names (R60). -/
def tokLoc (t : Token) : Nat :=
  let h := t.h1
  locOf (bits h 63 52) (bits h 51 50 * 512 + bits h 49 48 * 128 + bits h 47 44 * 8 + bits h 43 41) (bits h 40 39) (bits h 38 36)
    (bits h 35 33)
/-- The decrement that consuming or dropping a token records; `bcl` names the unit of its batch tag. -/
def tokDec (t : Token) : Dec :=
  { loc := tokLoc t, ts := t.ts, bcl := bits t.h2 63 46, bseq := bits t.h2 45 30, region := t.region }
/-- TAINT of a token. -/
def tokTaint (t : Token) : Bool := bitOf t.h1 21
/-- SIDE of a token. -/
def tokSide (t : Token) : Nat := bits t.h1 32 31
/-- Whether a token carries a 256-byte payload (LEN of R60). -/
def tokWide (t : Token) : Bool := bits t.h1 14 12 == 1

/-- A unit that drops or abandons a counted token records its decrement, tainted, at the frontier unit that the batch tag names (R185,
R327, R430); where that is another device's, it is told. -/
def dropCounted (s : State) (t : Token) : State :=
  if bits t.h2 63 52 = s.devId then recordDec s (bits t.h2 51 46) (tokDec t) true
  else { s with out := .dropped (bits t.h2 63 52) t :: s.out }

/-- The waymarks in use in a frontier unit: the distinct pointstamps of its open batches (R189, R315). -/
def waymarks (c : Cluster) : Nat := (c.slots.map fun x => match x.batch with | some b => stamps b | none => 0).sum

/-- A pointstamp at which a +1 is recorded: image, location and time. -/
abbrev Stamp := Nat × Nat × W64

/-- The pointstamp of a token. -/
def tokStamp (t : Token) : Stamp := (t.region, tokLoc t, t.ts)

/-- Whether a cluster's frontier unit has a pointstamp in its open batch. -/
def inBatch (s : State) (cl : Nat) (p : Stamp) : Bool := (findSlot s cl p.1).any fun x => x.batch.any fun b =>
  b.marks.any fun m => m.loc == p.2.1 && m.ts == p.2.2

/-- Whether a region homed here has cores on another device, whose units have forwarded batches to this one (R448). -/
def spansDevices (s : State) (image : Nat) : Bool :=
  let far := fun (u : Nat) => u % 2 ^ 24 / 64 != s.devId
  !(Tab.get [] s.devices image).isEmpty || ((s.home image).applied.any fun (u, _) => far u) || (s.home image).received.any fun (u, _) => far u

/-- The marks of a region's units on their way to its home aggregator: those of the open batches of this device, and of the batches received. -/
def marksDue (s : State) (image : Nat) : List Mark :=
  ((List.range 16).flatMap fun cl => ((findSlot s cl image).bind Slot.batch).toList.flatMap Batch.marks) ++
    (s.home image).received.flatMap fun (_, l) => l.flatMap Batch.marks

/-- The pointstamps that a home aggregator holds, or will hold once the increments on their way are applied. -/
def homeStamps (s : State) (image : Nat) : List (Nat × W64) :=
  let h := s.home image
  ((h.counts.map fun c => (c.loc, c.ts)) ++ (h.pending.map fun p => (p.loc, p.s)) ++
    ((marksDue s image).filter Mark.plus).map fun m => (m.loc, m.ts)).eraseDups

/-- The dies on which a region has elements. -/
def regionDies (s : State) (image : Nat) : List Nat := ((regionElems s image).map fun e => dieOf (coreOf e)).eraseDups

/-- Waymarks that the home aggregator of a region holds: at a die, the package or the fabric (R187, R189). -/
def homeCapacity (s : State) (image : Nat) : Nat :=
  if spansDevices s image then 32768 else if (regionDies s image).length ≤ 1 then 8192 else 16384

/-- Whether a home aggregator has room for pointstamps, those on their way counted; one on another device is asked (R189; log 9). -/
def homeHas (s : State) (image : Nat) (ps : List (Nat × W64)) : Bool :=
  let there := homeStamps s image
  let new := ps.filter fun p => !there.contains p
  if homedAway s image then bitOf (Config.openWord s.stepNo) 2
  else new.isEmpty || decide (there.length + new.length ≤ homeCapacity s image)

/-- Whether +1 entries of a unit of a cluster find room: each in the frontier unit that records it and at its home aggregator, unless
its pointstamp is present there, with the unit below its limit of unacknowledged batches (R186, R189). -/
def unitRoom (s : State) (cl : Nat) (ps : List Stamp) : Bool :=
  let ps := ps.eraseDups
  ps.all fun p =>
    let u := markCluster s cl p.1 p.2.1
    let near := ps.countP fun q => markCluster s cl q.1 q.2.1 == u && !inBatch s u q
    (near == 0 || decide (waymarks (s.cluster u) + near ≤ 1024)) && ((findSlot s u p.1).all Slot.mayForward) &&
      homeHas s p.1 ((ps.filter fun q => q.1 == p.1).map Prod.snd)

/-- Whether decrements may be recorded by a release of a cluster: the units that record them are below their limit (R186). -/
def decRoom (s : State) (cl : Nat) (ds : List Dec) : Bool :=
  ds.all fun d => (findSlot s (markCluster s cl d.region d.loc) d.region).all Slot.mayForward

end Sys2Proof.Machine
end

