-- ==== Sys2Proof/Machine/Frames.lean ====
section
/-! DEFINITION. What elements share: route words and token headers, records of contexts, the trace ring and breakpoints, the
parking of a frame, the commit of a firing, and the undoing of a firing's claims (R100 to R112, R164, R268, R285, R471, R473). -/

namespace Sys2Proof.Machine

/-! ## Routes and headers -/

/-- KIND of a route word (R56). -/
def routeKind (r : W64) : Nat := bits r 63 60
/-- NET of a route word. -/
def routeNet (r : W64) : Nat := bits r 59 58
/-- DEV of a route word, this device's id in place of 0xFFF. -/
def routeDev (s : State) (r : W64) : Nat := if bits r 54 43 = 0xFFF then s.devId else bits r 54 43
/-- The core that a route word names. -/
def routeCore (r : W64) : Nat := bits r 42 41 * 512 + bits r 40 39 * 128 + bits r 38 35 * 8 + bits r 34 32
/-- The location that a route word names. -/
def routeLoc (s : State) (r : W64) : Nat :=
  locOf (routeDev s r) (routeCore r) (bits r 31 30) (bits r 29 27) (bits r 26 24)
/-- The region that counts tokens of a route: the image of its destination context; where that is another device's, as the loader names it, else
the sender's own (R169; log 9). -/
def routeRegion (s : State) (r : W64) (own : Nat) : Nat :=
  if routeDev s r = s.devId then ctxImage s (routeCore r * 4 + bits r 31 30) (bits r 29 27)
  else match Tab.get 0 s.farImages (routeLoc s r / 8) with
    | 0 => own
    | i + 1 => i

/-- Flags of a token as an instruction sets them (R60). -/
structure Flags where
  last : Bool := false
  scaled : Bool := false
  eos : Bool := false
  esheaf : Bool := false
  taint : Bool := false
  seq : Nat := 0
  deriving DecidableEq, Repr, Inhabited

/-- Header word 1 of a token on a route (R60). -/
def header1 (s : State) (r : W64) (f : Flags) (wide : Bool) : W64 :=
  word (routeDev s r * 2 ^ 52 + bits r 42 22 * 2 ^ 31 + bits r 21 17 * 2 ^ 26 + ofBool f.last * 2 ^ 25 + ofBool f.scaled * 2 ^ 24
    + ofBool f.eos * 2 ^ 23 + ofBool f.esheaf * 2 ^ 22 + ofBool f.taint * 2 ^ 21 + f.seq % 64 * 2 ^ 15 + ofBool wide * 2 ^ 12)

/-- A token for a route, of this device, its batch tag not yet written (R60, R185). One that no waymark counts, which goes to a host
egress queue, keeps BCL and BSEQ 0 (log 116). -/
def routeToken (s : State) (r : W64) (ts : W64) (f : Flags) (payload : Vec) (own : Nat) : Token :=
  { ts := ts, h1 := header1 s r f (routeNet r != 2), h2 := word (s.devId * 2 ^ 52),
    payload := if routeNet r = 2 then BitVec.ofNat 2048 (payload.toNat % 2 ^ 64) else payload, region := routeRegion s r own }

/-- A token of a route as it goes to one core of it: the context there counts it (R169, R311). -/
def atCore (s : State) (t : Token) (core : Nat) : Token :=
  let t := { t with h1 := setBits t.h1 51 41 (dieOf core * 512 + clusterOf core % 4 * 128 + core % 128) }
  if bits t.h1 63 52 = s.devId then { t with region := ctxImage s (core * 4 + bits t.h1 40 39) (bits t.h1 38 36) } else t

/-- The fork word that binds a route of a context, where it applies to the route word `rw` (R310, R311). -/
def forkOf (s : State) (e ctx r : Nat) (rw : W64) : Option W64 :=
  let c := coreOf e
  let own := clusterOf (routeCore rw) == clusterOf c && bits rw 54 43 == 0xFFF
  let kindOk := [1, 2, 3, 4, 5, 7].contains (routeKind rw)
  if own && kindOk then
    ((List.range 16).map fun i => Tab.get 0 (s.core c).cfg1 (0x40 + i)).find? fun w =>
      bitOf w 63 && bits w 62 61 == e % 4 && bits w 60 58 == ctx && bits w 57 54 == r
  else none

/-- The cores that a token on a route of a context goes to: one, or the branches of a fork without fused-off cores (R311). -/
def routeCores (s : State) (e ctx r : Nat) (rw : W64) : List Nat :=
  match forkOf s e ctx r rw with
  | none => [routeCore rw]
  | some w =>
    let base := routeCore rw / 128 * 128
    ((List.range 128).map fun n => base + n).filter fun c =>
      decide (bits w 53 51 ≤ c % 8) && decide (c % 8 ≤ bits w 50 48) && decide (bits w 47 44 ≤ c % 128 / 8) &&
      decide (c % 128 / 8 ≤ bits w 43 40) && !isFused s c

/-- The copies of a token that go to the cores of its route. -/
def branches (s : State) (t : Token) (cores : List Nat) : List Token := cores.map (atCore s t)

/-! ## Leaving (R185, R313, R427 to R430) -/

/-- The route-table entry of a device: V and PORT, none where V = 0 (R427). -/
def devicePort (s : State) (dev : Nat) : Option Nat :=
  let w := Tab.get 0 s.pkg.fabric (0x800 + dev / 2)
  let e := if dev % 2 = 0 then bits w 31 0 else bits w 63 32
  if 2 ^ 31 ≤ e then some (e % 16) else none
/-- Whether a device's bit is set in the dead-peer bitmap (R430). -/
def isDead (s : State) (dev : Nat) : Bool := bitOf (Tab.get 0 s.pkg.fabric (0x500 + dev / 64)) (dev % 64)
/-- Whether a send, remote request or muster operation that names a device faults with DEADPEER (R429). -/
def deadPeer (s : State) (dev : Nat) : Bool := dev != s.devId && ((devicePort s dev).isNone || isDead s dev)

/-- The core of a source that is an element of a core. -/
def srcCore : Option (Nat × Nat) → Option Nat
  | some (e, _) => if e < 8192 then some (coreOf e) else none
  | none => none

/-- Puts a counted token of this device on a network, or sends it to the device that it names; a token to a device that no port
reaches is counted off, tainted (R185, R427, R428). -/
def launch (s : State) (tok : Token) (src : Option (Nat × Nat)) (net : Nat) (origin : Option Nat := srcCore src) : State :=
  let dev := locDev (tokLoc tok)
  if dev = s.devId then { s with net := s.net ++ [{ tok := tok, src := src, net := net, origin := origin }] }
  else match devicePort s dev with
    | some p => if isDead s dev then dropCounted s tok else { s with out := .token p dev tok :: s.out }
    | none => dropCounted s tok

/-- Counts tokens that a unit of a cluster sends, each with the tag of the batch that holds its +1 (R185, R313). -/
def countAll (s : State) (cl : Nat) (toks : List Token) (gate : Bool := false) : State × List Token :=
  toks.foldl (fun (s, l) t =>
    let (s, t) := countToken s cl (tokLoc t) t gate
    (s, l ++ [t])) (s, [])

/-- A send leaves on its route: its copies are all counted before the first leaves (R185, R313). -/
def leaveCounted (s : State) (e route : Nat) (net : Nat) (toks : List Token) : State :=
  let (s, l) := countAll s (clusterOf (coreOf e)) toks
  l.foldl (fun s t => launch s t (some (e, route)) net) s

/-! ## Records of contexts -/

/-- Sends an asynchronous record of a context about the instruction of a slot to its handler: as a data-plane token on its fault route, to
its cluster's trap queue, or to the reeve for rank 7 (R103, R107, R108, R340, R343). The +1 of the token is recorded at once, whether or not the
unit has room, since no release is there that could wait, the model's choice (R189; log 134). It is metered to the context's image (R389). -/
def asyncRecord (s : State) (cause : Nat) (e ctx ent slot : Nat) (ts detail : W64) : State :=
  let s := chargeUnits s (clusterOf (coreOf e)) (some (ctxImage s e ctx))
  let w := ctxWord s e ctx
  let r : TrapRec := { w0 := elemWord0 s cause slot false true e ctx ent, w1 := ts, w2 := 0, w3 := detail }
  let fr := bits w 36 32
  if fr < 16 then
    let rw := routeWord s e ctx fr
    let pay : Vec := BitVec.ofNat 2048 (r.w0.toNat + r.w1.toNat * 2 ^ 64 + r.w2.toNat * 2 ^ 128 + r.w3.toNat * 2 ^ 192)
    let tok := routeToken s rw (tsTo ts 0) {} pay (ctxImage s e ctx)
    leaveCounted s e fr (routeNet rw) (branches s tok (routeCores s e ctx fr rw))
  else if bits w 55 53 = 7 then queueReeve s r
  else queueAsync s (clusterOf (coreOf e)) r

/-- An asynchronous record of a unit to the steward of a cluster (R318, R325, R327). -/
def unitRecord (s : State) (cl cause : Nat) (w1 detail : W64) (core el ctx ent : Nat) (slot : Nat := 0) : State :=
  queueAsync s cl
    { w0 := recWord0 cause 0 slot false true 0 s.devId (cl / 4) (cl % 4) (core % 128 / 8) (core % 8) el ctx ent, w1 := w1, w2 := 0,
      w3 := detail }

/-- Marks a region lost and reports it on the fatal line of a cluster (R89, R112, R342). -/
def regionLost (s : State) (cause : Nat) (e ctx ent : Nat) (ts detail : W64) : State :=
  let image := ctxImage s e ctx
  let s := s.setHome image { s.home image with lost := true }
  sendFatal s (clusterOf (coreOf e)) { w0 := elemWord0 s cause 0 false true e ctx ent, w1 := ts, w2 := 0, w3 := detail }

/-! ## Trace and breakpoints (R471, R473) -/

/-- Whether a cluster's ring is frozen: by its flag, or because POST clocks have passed since the trigger. -/
def ringFrozen (s : State) (x : Cluster) : Bool := x.frozen || x.trigger.any fun t => decide (t + bits x.obctl 15 0 ≤ s.clock)

/-- The core and the element of a trace record, as one number. -/
def recordPlace (r : TrapRec) : Nat := bits r.w0 46 38

/-- Puts a record into a ring: before the records of this core clock that come from a later core, or a later element of its core (R471). -/
def pushRing (x : Cluster) (r : TrapRec) : Cluster :=
  let slot := fun (i : Nat) => (x.trhead + 524288 - i) % 524288
  let now := if x.wrapped then x.trNow else min x.trNow x.trhead
  let later := (((List.range now).map (· + 1)).takeWhile fun i => decide (recordPlace r < recordPlace (Tab.get default x.ring (slot i)))).length
  let ring := (List.range later).foldl (fun t i => Tab.set default t (slot i) (Tab.get default t (slot (i + 1)))) x.ring
  { x with ring := Tab.set default ring (slot later) r, trhead := (x.trhead + 1) % 524288, wrapped := x.wrapped || x.trhead == 524287,
           trNow := x.trNow + 1 }

/-- Writes a trace record of a frame's event, where the cluster traces that KIND; the ninth record of a core clock and those after it are
lost (R471). -/
def trace (s : State) (kind cause slot : Nat) (e : Nat) (f : Frame) (w3 : W64) : State :=
  let c := coreOf e
  let cl := clusterOf c
  let x := s.cluster cl
  if bitOf x.obctl 63 && !ringFrozen s x && bitOf x.obctl (16 + kind) then
    let x := { x with trigger := if kind = 7 && bitOf x.obctl 62 && x.trigger.isNone then some s.clock else x.trigger }
    let w0 := word (kind * 2 ^ 60 + cause * 2 ^ 52 + slot * 2 ^ 47 + c % 128 / 8 * 2 ^ 43 + c % 8 * 2 ^ 40 + e % 4 * 2 ^ 38
      + f.ctx * 2 ^ 35 + f.ent * 2 ^ 32 + bits (entryWord s e f.ctx f.ent) 52 41 * 2 ^ 20 + f.ns * 2 ^ 16 + f.nr * 2 ^ 12)
    s.setCluster cl
      (if 8 ≤ x.trNow then { x with trlost := min (x.trlost + 1) (2 ^ 32 - 1), trMissed := x.trMissed + 1 }
       else pushRing x { w0 := w0, w1 := f.ts, w2 := word (cycleOf s cl), w3 := w3 })
  else s

/-- A cluster's trace after `n` core clocks: a KIND 6 record for the records lost in the last one (R471). -/
def traceClocks (s : State) (cl n : Nat) : State :=
  let x := s.cluster cl
  if n = 0 then s
  else
    let open6 := bitOf x.obctl 63 && !ringFrozen { s with clock := s.clock + 1 } x && bitOf x.obctl 22
    let x := { x with trNow := 0 }
    let x := if x.trMissed != 0 && open6 then
        pushRing x { w0 := word (6 * 2 ^ 60), w1 := 0, w2 := word (cycleOf s cl + 1), w3 := word x.trMissed }
      else x
    s.setCluster cl { x with trNow := if n = 1 then x.trNow else 0, trMissed := 0 }

/-- The slot whose instruction ends the run of a frame's firing (R49, R471). -/
def endSlot (s : State) (e : Nat) (f : Frame) : Nat :=
  let start := bits (entryWord s e f.ctx f.ent) 62 58
  (((List.range (32 - start)).map (start + ·)).find? fun i => bitOf ((s.core (coreOf e)).ctxWord (e % 4) f.ctx (0x10 + i)) 55).getD 31

/-- Whether a breakpoint word matches a firing of a frame that issued the slots from its start to `last`, or no slot where it is not `issued`:
a gated firing, and a frame parked before any instruction (R91, R473). -/
def bptMatches (s : State) (w : W64) (e : Nat) (f : Frame) (last : Nat) (issued : Bool) : Bool :=
  let ew := entryWord s e f.ctx f.ent
  bitOf w 63 && bits w 51 36 == ctxImage s e f.ctx && bits w 35 24 == bits ew 52 41 &&
  (!bitOf w 60 || (issued && decide (bits ew 62 58 ≤ bits w 59 55) && decide (bits w 59 55 ≤ last)))

/-- Applies the cluster's breakpoints at a commit point or a discard (R473). -/
def breakpoints (s : State) (e : Nat) (f : Frame) (last : Nat) (issued discard : Bool) : State :=
  let x := s.cluster (clusterOf (coreOf e))
  let hits := x.bpt.filter fun w => bptMatches s w e f last issued
  let stop := hits.any fun w => bits w 62 61 == 2 || bits w 62 61 == (if discard then 1 else 0)
  let s := if stop then s.setElem e { s.elem e with stopped := true } else s
  if hits.any fun w => bits w 62 61 == 3 then trace s 7 0 last e f 0 else s

/-! ## Lay-by records (R109, R110) -/

/-- The tokens of a frame, in the order left, right, predicate or milestone, extra. -/
def Frame.tokens (f : Frame) : List Token := [f.l, f.r, f.p, f.x].filterMap id

/-- Global virtual and physical base of a region's lay-by. -/
def laybyOf (s : State) (image : Nat) : W64 × W64 :=
  let p := Tab.get (0, 0) s.laybys image
  if p = (0, 0) then Config.laybyBase image else p

/-- Byte offset of record `k`, 0 to 127, of element `e` in its region's lay-by (R110). -/
def laybyOff (s : State) (image e k : Nat) : Nat := ((regionElems s image).idxOf e * 128 + k) * 1280

/-- The physical address of record `k` of an element. -/
def laybyPa (s : State) (image e k : Nat) : Nat := (laybyOf s image).2.toNat + laybyOff s image e k
/-- The global virtual address LBVA of record `k` of an element. -/
def laybyVa (s : State) (image e k : Nat) : W64 := word (((laybyOf s image).1.toNat + laybyOff s image e k) % 2 ^ 56)

/-- Whether the record at a physical address holds a frame: V of H2 (R109). -/
def recordUsed (s : State) (pa : Nat) : Bool := (s.readNum (pa + 16) 8).testBit 63

/-- The lowest-numbered free record among `n` from `first` on of an element (R110). -/
def freeRecord (s : State) (image e first n : Nat) : Option Nat :=
  ((List.range n).map fun i => first + i).find? fun k => !recordUsed s (laybyPa s image e k)

/-- A token slot of a lay-by record as a 288-byte number. -/
def slotNum : Option Token → Nat
  | none => 0
  | some t => t.ts.toNat + t.h1.toNat * 2 ^ 64 + t.h2.toNat * 2 ^ 128 + t.payload.toNat * 2 ^ 256

/-- A lay-by record as a 1,280-byte number (R109). -/
def recordNum (w0 : W64) (f : Frame) (poison : Bool) : Nat :=
  let h2 := 2 ^ 63 + ofBool poison * 2 ^ 62 + ofBool f.l.isSome * 2 ^ 61 + ofBool f.r.isSome * 2 ^ 60 + ofBool f.p.isSome * 2 ^ 59
    + ofBool f.x.isSome * 2 ^ 58
  w0.toNat + f.ts.toNat * 2 ^ 64 + h2 * 2 ^ 128 + slotNum f.l * 2 ^ 512 + slotNum f.r * 2 ^ (512 + 2304)
    + slotNum f.p * 2 ^ (512 + 4608) + slotNum f.x * 2 ^ (512 + 6912)

/-- Reads a token slot of a lay-by record at a physical address; the region is that of the record. -/
def readSlot (s : State) (pa image : Nat) : Token :=
  { ts := word (s.readNum pa 8), h1 := word (s.readNum (pa + 8) 8), h2 := word (s.readNum (pa + 16) 8),
    payload := BitVec.ofNat 2048 (s.readNum (pa + 32) 256), region := image }

/-- Writes a frame into a lay-by record. An uncorrectable error there loses the region (R112). -/
def writeRecord (s : State) (image e k : Nat) (w0 : W64) (f : Frame) (poison : Bool) : State :=
  let pa := laybyPa s image e k
  let s' := s.writeNum pa 1280 (recordNum w0 f poison)
  if hasHardError s pa 1280 then regionLost s' Cause.laybylost e f.ctx f.ent f.ts (laybyVa s image e k) else s'

/-! ## Claims of a firing, and their undoing -/

/-- Frees the sequence accumulators that element `e` locks: restored on a fault, kept or emptied when complete at the commit
point (R162, R164). -/
def freeAccs (c : Core) (e : Nat) (undo : Bool) : Core :=
  { c with accs := c.accs.map fun a => match a.lock with
      | some (o, old) =>
        if o = e then
          { data := if undo then old else if a.data.lseq.any (fun l => a.data.exp == l + 1) then AccData.init else a.data,
            lock := none }
        else a
      | none => a }

/-- Restores the array if element `e` holds its claim (R268), on its own core. -/
def undoArray (c : Core) (e : Nat) : Core := match c.arrClaim with
  | some (o, old) => if o = e then { c with arr := old, arrClaim := none } else c
  | none => c

/-- Frees the array's claim if element `e` holds it (R267). -/
def freeArray (c : Core) (e : Nat) : Core := match c.arrClaim with
  | some (o, _) => if o = e then { c with arrClaim := none } else c
  | none => c

/-- Frees the cutter's claim if element `e` holds it, restoring the sheaf set on a fault (R285). -/
def freeCutter (c : Core) (e : Nat) (undo : Bool) : Core := match c.cutClaim with
  | some (o, cx, old) =>
    if o = e then { c with cutClaim := none, sheaf := if undo then Tab.set Sheaf.init c.sheaf cx old else c.sheaf } else c
  | none => c

/-- Drops the SPHDR capture of a firing of element `e` that has not committed (R296). -/
def dropEmission (c : Core) (e : Nat) : Core := match c.emission with
  | some m => if m.elem = e && !m.live then { c with emission := none } else c
  | none => c

/-- The partner core of a chained array: the core below, y + 1 (R264). -/
def below (core : Nat) : Nat := core + 8
/-- The core above, y - 1. -/
def above (core : Nat) : Nat := core - 8

/-- Undoes what a faulting firing of element `e` changed in its core's units (R105, R164, R268, R285, R296). -/
def undoUnits (s : State) (e : Nat) : State :=
  let c := coreOf e
  let s := s.setCore c (dropEmission (freeCutter (undoArray (freeAccs (s.core c) e true) e) e true) e)
  let s := s.setCore (below c) (undoArray (s.core (below c)) e)
  if 8 ≤ c % 128 then s.setCore (above c) (undoArray (s.core (above c)) e) else s

/-- Frees the array's claim of element `e` on its core and on the chained ones (R267). -/
def freeArrays (s : State) (e : Nat) : State :=
  let c := coreOf e
  let s := s.setCore c (freeArray (s.core c) e)
  let s := s.setCore (below c) (freeArray (s.core (below c)) e)
  if 8 ≤ c % 128 then s.setCore (above c) (freeArray (s.core (above c)) e) else s

/-- Tells the watch entries that a frame's tokens have been consumed, parked or dropped: the next notification may leave
(R244). -/
def watchConsumed (s : State) (toks : List Token) : State :=
  { s with cores := s.cores.mapVals Core.init fun _ c =>
      { c with watches := c.watches.map fun w => { w with sent := w.sent.filter fun t =>
              !(toks.any fun u => tokLoc u == tokLoc t && u.ts == t.ts && u.h2 == t.h2) } } }

/-! ## Parking -/

/-- Whether an element has a place for one more trap record, with one kept for its firing in progress (R108; log 95). -/
def trapRoom (s : State) (e : Nat) : Bool := decide ((s.elem e).traps.length + ofBool (s.elem e).firing.isSome < 2)

/-- Withdraws a frame of element `e` into fault record `k` of its region with a cause, and sends its trap record (R105, R108 to
R110). -/
def parkInto (s : State) (e k : Nat) (f : Frame) (w0 : W64) (detail : W64) (poison : Bool) : State :=
  let image := ctxImage s e f.ctx
  let s := writeRecord s image e k w0 f poison
  let r : TrapRec := { w0 := w0, w1 := f.ts, w2 := laybyVa s image e k, w3 := detail }
  let x := s.elem e
  let s := s.setElem e { x with traps := x.traps ++ [{ ctx := f.ctx, record := r }] }
  let s := watchConsumed s f.tokens
  let s := trace s 2 (bits w0 63 56) (bits w0 51 47) e f r.w2
  breakpoints s e f (bits w0 51 47) (!bitOf w0 46) true

/-- The frames of a region that wait at an element for a fault record (R110). -/
def parkwaits (s : State) (e image : Nat) : List Frame :=
  (s.elem e).frames.filter fun f => f.state == .parkwait && ctxImage s e f.ctx == image

/-- Withdraws a frame of element `e` into the lay-by with a cause and sends its trap record, or holds it in PARKWAIT while no fault
record of its region is free or others of its region wait for one: steps 3 and 4 of R105, R108 to R110. -/
def parkFrame (s : State) (e : Nat) (f : Frame) (w0 : W64) (detail : W64) (poison : Bool) : State :=
  let image := ctxImage s e f.ctx
  match if (parkwaits s e image).isEmpty then freeRecord s image e 64 64 else none with
  | some k => parkInto s e k f w0 detail poison
  | none =>
    let x := s.elem e
    let s := s.setElem e { x with frames := x.frames ++
      [{ f with state := .parkwait, order := s.fresh, trap0 := w0, trap3 := detail, poison := poison }] }
    { s with fresh := s.fresh + 1 }

/-- The oldest PARKWAIT frame of a region at an element takes a free fault record and sends its trap record, where the element has a
place for one (R87, R108, R110). -/
def releaseParkwait (s : State) (e image : Nat) : State :=
  let ws := parkwaits s e image
  match (ws.map Frame.order).min?.bind fun o => ws.find? fun f => f.order == o with
  | none => s
  | some f => match freeRecord s image e 64 64 with
    | none => s
    | some k =>
      if trapRoom s e then
        let x := s.elem e
        parkInto (s.setElem e { x with frames := x.frames.filter fun g => g != f }) e k { f with state := .complete } f.trap0 f.trap3 f.poison
      else s

/-- Park(f, cause, detail): the fault of the firing in progress of element `e` (R105). -/
def parkFiring (s : State) (e : Nat) (cause : Nat) (detail : W64) : State :=
  let x := s.elem e
  match x.firing with
  | none => s
  | some f =>
    let s := undoUnits s e
    let s := s.setElem e { s.elem e with firing := none }
    parkFrame s e { f.frame with ns := f.nsend, nr := f.nreq } (elemWord0 s cause f.slot false false e f.frame.ctx f.frame.ent) detail false

/-- A fault raised before any instruction of a frame issues: PRE = 1 and the START slot (R82, R88, R89, R92, R107). -/
def parkBefore (s : State) (e : Nat) (f : Frame) (cause : Nat) (detail : W64) (poison : Bool := false) : State :=
  parkFrame s e f (elemWord0 s cause (bits (entryWord s e f.ctx f.ent) 62 58) true false e f.ctx f.ent) detail poison

/-- Raises a cause at the instruction of the agent that moves: a steward's precise trap, or the park of an element's firing.
The shared taking of an exception (R105, R338). -/
def raise (s : State) (cause : Nat) (detail : W64) : State := match s.actor with
  | .element e => parkFiring s e cause detail
  | .steward n => stewTrap s n cause 0 detail (s.stew n).pc
  | .dsc d => stewTrap s (16 + d) cause 0 detail (s.stew (16 + d)).pc
  | .reeve => stewTrap s 20 cause 0 detail (s.stew 20).pc

/-! ## Triggers of watches (R207, R244, R245) -/

/-- The +1 of an entry's next notification is recorded in the cluster's frontier unit once the delivery of its held token is due while it stays
armed, before the writing firing's -1 and with no room asked for, since the write waits for nothing (R207, R245; log 134). -/
def countNext (s : State) (core : Nat) (w : Watch) : State × Watch :=
  if w.left ≤ 1 || !w.next.isEmpty || !w.sent.isEmpty || w.queue.isEmpty then (s, w)
  else
    let (s, l) := countAll s (clusterOf core) w.held
    (s, { w with next := l })

/-- A write to some runs of bytes (address in the numbering of `mem`, length) triggers each watch entry on their granules once: the
value just after the write joins the entry's queue, which holds four beside the one that is about to be delivered, and the next notification is
counted; a further value is lost and counted, with one record for each run of losses (R207, R244, R245). -/
def triggerRuns (s : State) (runs : List (Nat × Nat)) : State :=
  s.cores.foldl (fun s (k, c) => c.watches.zipIdx.foldl (fun s (w, i) =>
    if runs.any fun (a, n) => decide (a < w.addr + 8) && decide (w.addr < a + n) then
      let c := s.core k
      let v := word (s.readNum w.addr 8)
      if w.queue.length < (if w.sent.isEmpty then 5 else 4) then
        let (s, w) := countNext s k { w with queue := w.queue ++ [v] }
        s.setCore k { s.core k with watches := (s.core k).watches.set i w }
      else
        let s := s.setCore k { c with watches := c.watches.set i { w with lost := true, losses := w.losses + 1 } }
        if w.lost then s
        else asyncRecord s Cause.watchlost w.elem w.ctx w.ent w.slot ((w.held.head?.map Token.ts).getD 0) (word w.ea)
    else s) s) s

/-- A write to `n` bytes at an address triggers the watch entries on its granules. -/
def triggerWatches (s : State) (a n : Nat) : State := triggerRuns s [(a, n)]

/-- Forgets the latent errors of granules that a write covers whole (log 14). -/
def clearErrors (s : State) (a n : Nat) : State :=
  let inside := fun g => decide (a ≤ g) && decide (g + 8 ≤ a + n)
  { s with soft := s.soft.filter fun e => match e with
      | .scr core off _ => !inside (scrAddr core off)
      | .cellar die off _ => !inside (celAddr die off)
      | .hbm addr _ => !inside addr
      | _ => true }

/-- Marks dirty the sectors of pages in migration that a write touches (R458). -/
def markMoving (s : State) (a n : Nat) : State :=
  { s with pkg := { s.pkg with migrations := s.pkg.migrations.map fun m =>
      if a < m.pa + 65536 ∧ m.pa < a + n then
        let lo := (max a m.pa - m.pa) / 16
        let hi := (min (a + n) (m.pa + 65536) - m.pa + 15) / 16
        { m with dirty := (m.dirty ++ (List.range (hi - lo)).map fun i => lo + i).eraseDups }
      else m } }

/-- Writes bytes to memory as a write that triggers watches and fills nothing. -/
def storeBytes (s : State) (a : Nat) (bs : List Byte) : State :=
  markMoving (triggerWatches (clearErrors (s.writeBytes a bs) a bs.length) a bs.length) a bs.length

/-- Writes the lanes of a scatter, ascending, as one store (R207, R236). -/
def storeLanes (s : State) (l : List (Nat × List Byte)) : State :=
  let s := l.foldl (fun s (a, bs) => markMoving (clearErrors (s.writeBytes a bs) a bs.length) a bs.length) s
  triggerRuns s (l.map fun (a, bs) => (a, bs.length))

/-- Reads deferred on a granule read it: the value is kept in the request, whose reply may then leave (R206, R216). -/
def serveDeferred (l : List Req) (a v : Nat) : List Req :=
  l.map fun r => if r.pas.head?.any (fun p => p / 8 == a / 8) && r.stage == .held then
    { r with stage := .ready, data := BitVec.ofNat 2048 v } else r

/-- The reads deferred on a granule are performed, with a value (R206). -/
def serveGranule (s : State) (a v : Nat) : State :=
  if a < celBase then
    let k := (a - scrBase) / 2 ^ 19
    let c := s.core k
    s.setCore k { c with deferred := serveDeferred c.deferred a v }
  else
    let k := (a - celBase) / 2 ^ 30
    let d := s.die k
    s.setDie k { d with deferred := serveDeferred d.deferred a v }

/-- A release of an element by its number. -/
def findRelease (x : Elem) (id : Nat) : Option Release := x.releases.find? fun r => r.id == id

/-- Whether every store that the fill of a hold releases has been performed (R216). -/
def FillHold.done (s : State) (h : FillHold) : Bool := match findRelease (s.elem h.elem) h.rel with
  | none => true
  | some r => decide (h.upto ≤ r.popped) && r.out.all fun o => !o.write || decide (h.upto ≤ o.place)

/-- Whether the fill of a full granule still waits for stores that its STP releases: a presence read does not yet return it (R216; log
107). -/
def fillHeld (s : State) (a : Nat) : Bool :=
  decide (a < celBase) && (s.core ((a - scrBase) / 2 ^ 19)).fills.any fun h => h.addr == a && !h.done s

/-- The fill of a granule by element `e` waits for the first `upto` items of a release, none where there is nothing to wait for; an earlier fill
of it counts no more. -/
def holdFill (s : State) (e a rel upto : Nat) : State :=
  let k := (a - scrBase) / 2 ^ 19
  let c := s.core k
  let rest := c.fills.filter fun h => h.addr != a && (h.rel == rel || !h.done s)
  s.setCore k { c with fills := if upto = 0 then rest else rest ++ [{ addr := a, elem := e, rel := rel, upto := upto }] }

/-- Whether a presence read may return a granule: it is full, and what its fill releases is performed (R206, R216). -/
def readable (s : State) (a : Nat) : Bool := s.present a && !fillHeld s a

/-- A fill that waits for nothing: an older hold on its granule is gone. -/
def dropHold (s : State) (a : Nat) : State := if a < celBase then holdFill s 0 a 0 0 else s

/-- Fills an empty granule of a scratchpad or of a cellar with eight bytes: the bytes are written, the presence bit becomes full,
and reads deferred on the granule are performed (R206, R238). -/
def fillGranule (s : State) (a : Nat) (bs : List Byte) : State :=
  serveGranule (storeBytes (dropHold (s.setPresent a true) a) a bs) a (numOfBytes bs)

/-- Empties the presence bits of a run of bytes (R239). -/
def clearPresence (s : State) (a len : Nat) : State :=
  (List.range (len / 8)).foldl (fun s i => s.setPresent (a + 8 * i) false) s

/-! ## The commit point -/

/-- Performs one store of an SCR group on a core; answers whether an STP met a full granule (R102, R238, R239). Reads deferred on a granule that it
fills wait for the end of the group. -/
def performScr (s : State) (core : Nat) : ScrStore → State × Bool
  | .write a bs => (storeBytes s (scrAddr core a) bs, false)
  | .scatter l => (storeLanes s (l.map fun (a, bs) => (scrAddr core a, bs)), false)
  | .stp a bs _ _ =>
    if s.present (scrAddr core a) then (s, true)
    else (storeBytes (s.setPresent (scrAddr core a) true) (scrAddr core a) bs, false)
  | .clrp a len => (clearPresence s (scrAddr core a) len, false)

/-- The granules that the STPs of an SCR group name. -/
def stpGranules (g : List ScrStore) : List Nat := g.filterMap fun x => match x with
  | .stp a _ _ _ => some a
  | .write _ _ | .scatter _ | .clrp _ _ => none

/-- After an SCR group, reads deferred on the granules that it has left full are performed, where the fill releases nothing that is still to be
performed; they see the whole group (R102, R203, R206, R216). -/
def serveGroup (s : State) (core : Nat) (g : List ScrStore) : State := (stpGranules g).foldl (fun s a =>
  let b := scrAddr core a
  if readable s b then serveGranule s b (s.readNum b 8) else s) s

/-- The sides of a frame on which it holds a token with EOS = 1, as a core remembers them (R320). -/
def eosSides (s : State) (e : Nat) (f : Frame) : List Nat :=
  let key := (e % 4 * 8 + f.ctx) * 32 + f.ent * 4
  let kind := bits (entryWord s e f.ctx f.ent) 54 53
  ([(0, f.l), (1, f.r), (2, if kind = 2 then none else f.p)].filter fun (_, t) => t.any fun t => bitOf t.h1 23).map fun (i, _) => key + i

/-- Whether a request writes memory. -/
def ReqKind.writes : ReqKind → Bool
  | .st | .stp | .clrp | .atom | .atomr | .stv | .scatv | .rst | .ratom | .strm | .strmq => true
  | .ld | .ldp | .pref | .clean | .inval | .watch | .fence | .ldv | .gathv | .wpwait | .ordt | .copy | .istrm | .tlwait | .tlrd
  | .coll | .rld | .join | .leave | .ownq | .sheaf => false

/-- Whether an item of a commit buffer is a send of WIDEN. -/
def Item.widens : Item → Bool
  | .send _ _ _ _ widen => widen
  | .counted _ _ _ | .reqn _ _ _ | .sendm _ _ _ _ _ | .snapped _ _ _ _ | .req _ _ => false
/-- Whether an item is a request. -/
def Item.asks : Item → Bool
  | .req _ _ => true
  | .send _ _ _ _ _ | .counted _ _ _ | .reqn _ _ _ | .sendm _ _ _ _ _ | .snapped _ _ _ _ => false
/-- Whether an item is a request that stores. -/
def Item.stores : Item → Bool
  | .req r _ => r.kind.writes
  | .send _ _ _ _ _ | .counted _ _ _ | .reqn _ _ _ | .sendm _ _ _ _ _ | .snapped _ _ _ _ => false

/-- A commit buffer as its release lets it leave: in program order, but the requests from a WIDEN to the firing's last store go before it, since
every store of the firing is performed before the +1 of WIDEN is recorded (R190; log 106). -/
def storesFirst (l : List Item) : List Item :=
  let upTo := l.length - (l.reverse.takeWhile fun i => !i.stores).length
  let pre := (l.take upTo).takeWhile fun i => !i.widens
  let mid := (l.take upTo).drop pre.length
  pre ++ mid.filter Item.asks ++ (mid.filter fun i => !i.asks) ++ l.drop upTo

/-- How many items of a commit buffer stand up to and with its n-th request that stores. -/
def storePlace (items : List Item) (n : Nat) : Nat :=
  if n = 0 then 0 else (((items.zipIdx.filter fun (i, _) => i.stores).map Prod.snd).getD (n - 1) 0) + 1

/-- Performs an SCR store group of a frame whose release has number `rel` and the given items; an STP left out of it sends a DOUBLEW record
and taints the decrement (R238). The group goes before the firing's requests, at the commit point (R101); the fill of an STP waits for the
split-phase stores before it (R216; log 107). -/
def performGroup (s : State) (e : Nat) (f : Frame) (rel : Nat) (items : List Item) : List ScrStore → Bool → State × Bool
  | [], bad => (s, bad)
  | x :: rest, bad =>
    let (s, b) := performScr s (coreOf e) x
    let s := match x with
      | .stp a _ slot n =>
        if b then asyncRecord s Cause.doublew e f.ctx f.ent slot f.ts (word a)
        else holdFill s e (scrAddr (coreOf e) a) rel (storePlace items n)
      | .write _ _ | .scatter _ | .clrp _ _ => s
    performGroup s e f rel items rest (bad || b)

/-- Commit(f): consumes the frame's tokens, performs the SCR group, and hands the buffer to release (R101). `gatedOff` for a
gated firing with a false predicate, which issues nothing (R91). -/
def commitFiring (s : State) (e : Nat) (gatedOff : Bool) : State :=
  let x := s.elem e
  match x.firing with
  | none => s
  | some f =>
    let c := coreOf e
    let core := s.core c
    let core := freeCutter (freeAccs core e false) e false
    let emits := core.emission.any fun m => m.elem == e && !m.live
    let core : Core := { core with emission := core.emission.map fun m => if m.elem = e && !m.live then { m with live := true } else m }
    let s := s.setCore c { core with eosSeen := (core.eosSeen ++ eosSides s e f.frame).eraseDups }
    let s := watchConsumed s f.frame.tokens
    let id := s.fresh
    let items := storesFirst f.items
    let (s, bad) := performGroup { s with fresh := s.fresh + 1 } e f.frame id items f.scr false
    let toks := f.frame.tokens
    let rel : Release :=
      { id := id, ctx := f.frame.ctx, ent := f.frame.ent, items := items, decs := toks.map tokDec,
        taint := bad || toks.any tokTaint, out := [], gated := ofBool emits, popped := 0 }
    let s := s.setElem e { s.elem e with firing := none, releases := (s.elem e).releases ++ [rel] }
    let s := s.setCore c { s.core c with emission := (s.core c).emission.map fun m =>
      if m.elem = e && emits then { m with rel := id } else m }
    let s := serveGroup s c f.scr
    let frame := { f.frame with ns := f.nsend, nr := f.nreq }
    let last := if gatedOff then endSlot s e frame else f.slot
    breakpoints (trace s (if gatedOff then 1 else 0) 0 last e frame 0) e frame last (!gatedOff) false

/-- Changes a release of an element by its number. -/
def mapRelease (s : State) (e id : Nat) (f : Release → Release) : State :=
  let x := s.elem e
  s.setElem e { x with releases := x.releases.map fun r => if r.id = id then f r else r }

end Sys2Proof.Machine
end

