-- ==== Sys2Proof/Machine/Operands.lean ====
section
/-! DEFINITION. Operands: what a source position reads (R36 to R42, R118, R479), how a result is written (R119), and how an
instruction completes: the next slot of a firing or the next word of a steward-mode core. -/

namespace Sys2Proof.Machine

/-- The agent that runs an instruction: an element with its firing, or a steward-mode core. -/
inductive Agent
  | firing (e : Nat) (f : Firing)
  | stew (n : Nat) (st : Stew)
  deriving Inhabited

/-- The agent that moves in this step; none for an element without a firing. -/
def State.agent (s : State) : Option Agent := match s.actor with
  | .element e => (s.elem e).firing.map fun f => .firing e f
  | .steward n => some (.stew n (s.stew n))
  | .dsc d => some (.stew (16 + d) (s.stew (16 + d)))
  | .reeve => some (.stew 20 (s.stew 20))

/-- Stores an agent back. -/
def Agent.store (s : State) : Agent → State
  | .firing e f => s.setElem e { s.elem e with firing := some f }
  | .stew n st => s.setStew n st

/-! ## Lanes -/

/-- Lane i of a vector (R63). -/
def lane (v : Vec) (i : Nat) : Nat := (v.toNat >>> (32 * i)) % 2 ^ 32

/-- The number whose base-2^w digits a list holds, the least significant first. -/
def packNum (w : Nat) : List Nat → Nat
  | [] => 0
  | x :: rest => x % 2 ^ w + 2 ^ w * packNum w rest

/-- The vector whose lanes a list holds (R63). -/
def vecOfLanes (l : List Nat) : Vec := BitVec.ofNat 2048 (packNum 32 l)

/-- Value j of a packed payload of values `w` bits wide (R80). -/
def packed (w : Nat) (v : Vec) (j : Nat) : Nat := (v.toNat >>> (w * j)) % 2 ^ w

/-- The vector that holds a list of values `w` bits wide in packed layout (R80). -/
def vecOfPacked (w : Nat) (l : List Nat) : Vec := BitVec.ofNat 2048 (packNum w l)

/-! ## Matched operands -/

/-- KIND of the entry of a firing (R55). -/
def firingKind (s : State) (e : Nat) (f : Firing) : Nat := bits (entryWord s e f.frame.ctx f.frame.ent) 54 53

/-- The token that il names: the left operand, or the selected one of a merge (R92, R97). -/
def leftToken (s : State) (e : Nat) (f : Firing) : Option Token :=
  if firingKind s e f = 1 then f.frame.l <|> f.frame.r else f.frame.l
/-- The token that ir names; a merge has none (R97). -/
def rightToken (s : State) (e : Nat) (f : Firing) : Option Token := if firingKind s e f = 1 then none else f.frame.r

/-- The token of il, ir or ip. -/
def operandToken (s : State) (e : Nat) (f : Firing) : Spec → Option Token
  | .il => leftToken s e f
  | .ir => rightToken s e f
  | .ip => f.frame.p
  | .t _ | .v _ | .k _ | .ts | .zero | .imm | .lane | .nul | .g _ => none

/-- The payload of a matched operand as a position of a width reads it (R39; log 11). -/
def operandPayload (s : State) (tok : Option Token) (wide : Bool) : Vec := match tok with
  | some t => if tokWide t = wide then t.payload else Config.absentOperand s.stepNo
  | none => Config.absentOperand s.stepNo

/-- The channel entry of il or ir as the firing started (R83). -/
def operandChannel (f : Firing) : Spec → W64
  | .il => f.chL
  | .ir => f.chR
  | .t _ | .v _ | .k _ | .ip | .ts | .zero | .imm | .lane | .nul | .g _ => 0

/-! ## Sources -/

/-- How a position reads its operand. -/
inductive Reading
  /-- A typed read: the low Width(T) bits, with the container check of R72 and the channel scaling of R81. -/
  | typed (t : Ty)
  /-- The low Width(T) bits, with the container check, by an instruction that only moves bits (R67, R80). -/
  | bits (t : Ty)
  /-- The whole 64 bits of a scalar; an immediate follows T by R41 (R139, R140). -/
  | wide (t : Ty)
  /-- An integer position: the whole operand, never checked or scaled (R479). -/
  | whole
  deriving DecidableEq, Repr

/-- The immediate of R41, or of R479 in an integer position. -/
def immediate (o : Ops) : Reading → Nat
  | .whole => wrapInt 64 (signX o.x)
  | .typed t => if Ty.isFloat t then (if t = .f32 then o.x.toNat * 8 else fcvt t .f32 false o.m (o.x.toNat * 8))
      else wrapInt (Ty.width t) (signX o.x)
  | .wide t => wrapInt (Ty.width t) (signX o.x)
  | .bits t => if Ty.isFloat t then (if t = .f32 then o.x.toNat * 8 else fcvt t .f32 false o.m (o.x.toNat * 8))
      else wrapInt (Ty.width t) (signX o.x)

/-- The 64 bits that a scalar position holds, imm excepted. -/
def scalarRaw (s : State) (x : Agent) (sp : Spec) : Nat := match x with
  | .stew _ st => match sp with
    | .g i => (st.g.getD i.val 0).toNat
    | .t _ | .v _ | .k _ | .il | .ir | .ip | .ts | .zero | .imm | .lane | .nul => 0
  | .firing e f => match sp with
    | .t i => (f.t.getD i.val 0).toNat
    | .k i => ((s.core (coreOf e)).ctxWord (e % 4) f.frame.ctx (0x40 + i.val)).toNat
    | .il => low 64 (operandPayload s (leftToken s e f) false).toNat
    | .ir => low 64 (operandPayload s (rightToken s e f) false).toNat
    | .ip => low 64 (operandPayload s f.frame.p false).toNat
    | .ts => f.frame.ts.toNat
    | .v _ | .zero | .imm | .lane | .nul | .g _ => 0

/-- The vector that a vector position holds. -/
def vectorRaw (s : State) (x : Agent) (sp : Spec) : Vec := match x with
  | .stew _ _ => 0
  | .firing e f => match sp with
    | .v i => f.v.getD i.val 0
    | .il => operandPayload s (leftToken s e f) true
    | .ir => operandPayload s (rightToken s e f) true
    | .lane => vecOfLanes (List.range 64)
    | .t _ | .k _ | .ip | .ts | .zero | .imm | .nul | .g _ => 0

/-- What a reading makes of a raw pattern: its low bits, scaled where R81 says so. -/
def shaped (x : Agent) (m : BitVec 2) (sp : Spec) (raw : Nat) : Reading → Nat
  | .whole => raw
  | .wide _ => raw
  | .bits t => low (Ty.width t) raw
  | .typed t => match x with
    | .stew _ _ => low (Ty.width t) raw
    | .firing _ f =>
      if Ty.isFloat t && bitOf (operandChannel f sp) 58 then
        scaleRead t m (low (Ty.width t) raw) (signed 8 (bits (operandChannel f sp) 47 40))
      else low (Ty.width t) raw

/-- Src(P, i): the pattern that a specifier supplies in lane i of a vector position, or in a scalar position (R118). -/
def src (s : State) (x : Agent) (o : Ops) (r : Reading) (sp : Spec) (vec : Bool) (i : Nat) : Nat :=
  if sp = .imm then immediate o r
  else shaped x o.m sp (if vec then lane (vectorRaw s x sp) i else scalarRaw s x sp) r

/-- Whether the container check of R72 fails on a pattern. -/
def containerBad (r : Reading) (v : Nat) : Bool := match r with
  | .typed .aif13 | .bits .aif13 => aifMalformed v
  | .typed .b64 | .typed .b32 | .typed .b16 | .typed .b8 | .typed .f32 | .typed .bf16 | .typed .f16 | .typed .e4m3
  | .typed .e5m2 | .bits .b64 | .bits .b32 | .bits .b16 | .bits .b8 | .bits .f32 | .bits .bf16 | .bits .f16 | .bits .e4m3
  | .bits .e5m2 | .wide _ | .whole => false

/-- The specifier C of the three-source form (R42). -/
def thirdSpec (o : Ops) : Spec := Spec.ofCode (xField o.x 28 23)

/-- The lanes that an instruction of a shape computes (R120). -/
def laneIxs : Shape → List Nat
  | .scalar => [0]
  | .vector => List.range 64
  | .vrep => List.range 64

/-- Whether positions A and C of a shape are vectors (R34). -/
def Shape.isVec : Shape → Bool
  | .scalar => false
  | .vector => true
  | .vrep => true
/-- Whether position B of a shape is a vector (R34, R38). -/
def Shape.bIsVec : Shape → Bool
  | .scalar => false
  | .vector => true
  | .vrep => false

/-! ## Results -/

/-- Writes a scalar result, its bits already cut to the result width (R119). -/
def Agent.setScalar (x : Agent) (d : Spec) (v : Nat) : Agent := match x, d with
  | .firing e f, .t i => .firing e { f with t := setAt f.t i.val (word v) }
  | .stew n st, .g i => .stew n { st with g := setAt st.g i.val (word v) }
  | x, _ => x

/-- Writes a vector result whole (R119). -/
def Agent.setVector (x : Agent) (d : Spec) (v : Vec) : Agent := match x, d with
  | .firing e f, .v i => .firing e { f with v := setAt f.v i.val v }
  | x, _ => x

/-- Writes the results of an elementwise instruction, `w` bits wide (R63, R119). -/
def Agent.setResult (x : Agent) (o : Ops) (w : Nat) (out : List Nat) : Agent :=
  if o.sh = .scalar then x.setScalar o.d (low w (out.headD 0)) else x.setVector o.d (vecOfLanes (out.map (low (min w 32))))

/-- Moves an agent past its instruction: the next slot, or the end of the run where E = 1 (R96); the next word (R346). -/
def Agent.advance (x : Agent) (o : Ops) : Agent := match x with
  | .firing e f => .firing e (if o.e then { f with ended := true } else { f with slot := f.slot + 1 })
  | .stew n st => .stew n { st with pc := st.pc + 8 }

/-- Completes an instruction of an agent. The END of a run frees the array's claim (R267). -/
def finish (s : State) (o : Ops) (x : Agent) : State := match x.advance o with
  | .firing e f => let s := Agent.store s (.firing e f); if o.e then freeArrays s e else s
  | .stew n st => Agent.store s (.stew n st)

/-! ## The common shapes of an instruction -/

/-- Runs `k` for the agent that moves; an element without a firing runs nothing. -/
def withAgent (s : State) (k : Agent → State) : Host.Outcome State Fault Refusal := match s.agent with
  | some x => .next (k x)
  | none => .fault .noFiring

/-- Runs `k` for the firing of the element that moves. -/
def withFiring (s : State) (k : Nat → Firing → State) : Host.Outcome State Fault Refusal := match s.agent with
  | some (.firing e f) => .next (k e f)
  | some (.stew _ _) => .fault .noFiring
  | none => .fault .noFiring

/-- Runs `k` for the steward-mode core that moves. -/
def withStew (s : State) (k : Nat → Stew → State) : Host.Outcome State Fault Refusal := match s.agent with
  | some (.stew n st) => .next (k n st)
  | some (.firing _ _) => .fault .noFiring
  | none => .fault .noFiring

/-- The operands of one lane: A, B and C. -/
def laneOperands (s : State) (x : Agent) (o : Ops) (ra rb rc : Reading) (i : Nat) : Nat × Nat × Nat :=
  (src s x o ra o.a (Shape.isVec o.sh) i, src s x o rb o.b (Shape.bIsVec o.sh) i, src s x o rc (thirdSpec o) (Shape.isVec o.sh) i)

/-- The first malformed aif13 container among the operands, lane by lane, and in a lane A before B before C (R72, R118; log 55). -/
def malformed (ra rb rc : Reading) (ops : List (Nat × Nat × Nat)) : Option Nat :=
  (ops.flatMap fun (a, b, c) =>
    (if containerBad ra a then [a] else []) ++ (if containerBad rb b then [b] else []) ++ (if containerBad rc c then [c] else [])).head?

/-- An elementwise instruction: `f` of the operands of each lane, `w` bits wide (R120). A malformed container raises AIFRANGE and
writes nothing (R72). -/
def elementwise (o : Ops) (s : State) (ra rb rc : Reading) (w : Nat) (f : Nat → Nat → Nat → Nat) :
    Host.Outcome State Fault Refusal :=
  withAgent s fun x =>
    let ops := (laneIxs o.sh).map (laneOperands s x o ra rb rc)
    match malformed ra rb rc ops with
    | some c => raise s Cause.aifrange (word c)
    | none => finish s o (x.setResult o w (ops.map fun (a, b, c) => f a b c))


end Sys2Proof.Machine
end

