-- ==== Sys2Proof/Machine/Flags.lean ====
section
/-! DEFINITION. The results that are conditions: compares (R135, R145), lane masks (R158, R159), and the identity and flag
registers of a firing (R113). -/

namespace Sys2Proof.Machine

/-- The result of a compare: 1 or 0, in 64 bits or a 32-bit lane (R135). -/
def condition (b : Bool) : Nat := ofBool b

/-- The six integer relations of R135. -/
def relEq (t : Ty) (a b : Nat) : Bool := readS t a == readS t b
/-- CNE. -/
def relNe (t : Ty) (a b : Nat) : Bool := readS t a != readS t b
/-- CLTS. -/
def relLtS (t : Ty) (a b : Nat) : Bool := decide (readS t a < readS t b)
/-- CLES. -/
def relLeS (t : Ty) (a b : Nat) : Bool := decide (readS t a ≤ readS t b)
/-- CLTU. -/
def relLtU (t : Ty) (a b : Nat) : Bool := decide (readU t a < readU t b)
/-- CLEU. -/
def relLeU (t : Ty) (a b : Nat) : Bool := decide (readU t a ≤ readU t b)

/-- Result width of the compares and of FCLASS: 64 bits for a scalar, the 32 of a lane otherwise (R135, R147). -/
def compareWidth : Nat := 64

/-- The mask whose bit i is bit 0 of the i-th entry (R158). -/
def maskOf (l : List Nat) : Nat := packNum 1 l

/-- A side field of FFLAGS for a token (R113). -/
def sideFlags : Option Token → Nat
  | none => 0
  | some t =>
    ofBool (tokTaint t) * 2 ^ 10 + ofBool (bitOf t.h1 24) * 2 ^ 9 + ofBool (bitOf t.h1 22) * 2 ^ 8 + ofBool (bitOf t.h1 23) * 2 ^ 7
      + ofBool (bitOf t.h1 25) * 2 ^ 6 + bits t.h1 20 15

/-- FFLAGS of a firing (R113): a milestone firing shows its token under M, any other its predicate under P. -/
def fflags (s : State) (e : Nat) (f : Firing) : Nat :=
  let p := sideFlags f.frame.p
  sideFlags (leftToken s e f) + sideFlags (rightToken s e f) * 2 ^ 16
    + (if firingKind s e f = 2 then p * 2 ^ 48 else p * 2 ^ 32)

/-- FSELF of a firing (R113). -/
def fself (s : State) (e : Nat) (f : Firing) : Nat :=
  let c := coreOf e
  s.devId * 2 ^ 52 + dieOf c * 2 ^ 50 + clusterOf c % 4 * 2 ^ 48 + c % 128 / 8 * 2 ^ 44 + c % 8 * 2 ^ 41 + e % 4 * 2 ^ 39
    + f.frame.ctx * 2 ^ 36 + f.frame.ent * 2 ^ 33 + bits (entryWord s e f.frame.ctx f.frame.ent) 52 41 * 2 ^ 21

end Sys2Proof.Machine
end

