-- ==== Sys2Proof/Machine/Trans.lean ====
section
/-! DEFINITION. FEXP2, FLOG2 and FTANH (R146): fixed-point enclosures of the exact function, rounded once. Where the two ends
of an enclosure round apart, the result is the free value `Config.roundedFunction`. -/

namespace Sys2Proof.Machine

/-- The fixed point of the enclosures: 2^320 stands for one. -/
def fixOne : Nat := 2 ^ 320

/-- The logarithm of 2, truncated, in fixed point. -/
def fixLn2 : Nat := 1480553391661173448385607439722553250922680800745876974795605978609098082859138712941075737848984

/-- The half width of an enclosure, above every truncation error of the series below. -/
def fixSlack : Nat := 2 ^ 24

/-- The Taylor series of the exponential of `y` in fixed point, from term `k`, with `fuel` terms left. -/
def expSeries (y : Nat) : Nat → Nat → Nat → Nat → Nat
  | 0, _, _, acc => acc
  | fuel + 1, k, term, acc =>
    let term' := term * y / fixOne / k
    expSeries y fuel (k + 1) term' (acc + term')

/-- e^y for y in [0, 1) in fixed point, to a few units below `fixSlack`. -/
def fixExp (y : Nat) : Nat := expSeries y 90 1 fixOne fixOne

/-- The odd series z + z^3/3 + z^5/5 + … in fixed point. -/
def atanhSeries (z2 : Nat) : Nat → Nat → Nat → Nat → Nat
  | 0, _, _, acc => acc
  | fuel + 1, k, pow, acc =>
    let pow' := pow * z2 / fixOne
    atanhSeries z2 fuel (k + 2) pow' (acc + pow' / k)

/-- The natural logarithm of y in [1, 2), y in fixed point. -/
def fixLn (y : Nat) : Nat :=
  let z := (y - fixOne) * fixOne / (y + fixOne)
  2 * atanhSeries (z * z / fixOne) 110 3 z z

/-- Rounds both ends of an enclosure lo < v < hi, in units of 2^e; where they differ, the free value. -/
def roundEnclosed (fn : Nat) (t : Ty) (m : BitVec 2) (a : Nat) (neg : Bool) (lo hi : Nat) (e : Int) : Nat :=
  let p := roundMag t neg lo e true m
  let q := roundMag t neg hi e true m
  if p = q then p else Config.roundedFunction fn t m a

/-- A magnitude far above every format. -/
def hugeMag (t : Ty) (m : BitVec 2) : Nat := roundMag t false (2 ^ 90) 900 true m
/-- A magnitude far below every format. -/
def tinyMag (t : Ty) (m : BitVec 2) : Nat := roundMag t false (2 ^ 90) (-1200) true m

/-- FEXP2 of R146. -/
def fexp2 (t : Ty) (m : BitVec 2) (a : Nat) : Nat := match val t a with
  | .nan => defaultNaN t
  | .inf neg => if neg then 0 else infPattern t false false
  | .fin neg mg e =>
    if mg = 0 then roundTo t (.fin false 1 0) m
    else if 512 ≤ mg * 2 ^ e.toNat / 2 ^ (-e).toNat then (if neg then tinyMag t m else hugeMag t m)
    else
      let x := scaled neg mg (e + 320) 0
      let n := x / (fixOne : Int)
      let f := (x % (fixOne : Int)).toNat
      if f = 0 then roundTo t (.fin false 1 n) m
      else
        let s := fixExp (f * fixLn2 / fixOne)
        roundEnclosed 0 t m a false (max fixOne (s - fixSlack)) (s + fixSlack) (n - 320)

/-- FLOG2 of R146. -/
def flog2 (t : Ty) (m : BitVec 2) (a : Nat) : Nat := match val t a with
  | .nan => defaultNaN t
  | .inf neg => if neg then defaultNaN t else infPattern t false false
  | .fin neg mg e =>
    if mg = 0 then infPattern t true false
    else if neg then defaultNaN t
    else
      let l := Nat.log2 mg
      let n : Int := e + l
      if mg = 2 ^ l then ofInt t n m
      else
        let g := fixLn (mg * fixOne / 2 ^ l) * fixOne / fixLn2
        let v := n * (fixOne : Int) + g
        let v' := v.natAbs
        roundEnclosed 1 t m a (decide (v < 0)) (v' - fixSlack) (v' + fixSlack) (-320)

/-- FTANH of R146. An operand below 2^-40 has tanh x in (x (1 - 2^-56 / m), x), one of 64 or more a value in (1 - 2^-180, 1). -/
def ftanh (t : Ty) (m : BitVec 2) (a : Nat) : Nat := match val t a with
  | .nan => defaultNaN t
  | .inf neg => roundTo t (.fin neg 1 0) m
  | .fin neg mg e =>
    if mg = 0 then signBit t neg
    else if e + Nat.log2 mg < -41 then roundMag t neg (mg * 2 ^ 56 - 1) (e - 56) true m
    else
      let y := mg * 2 ^ (e + 321).toNat / 2 ^ (-(e + 321)).toNat
      if 128 * fixOne ≤ y then roundMag t neg (2 ^ 200 - 1) (-200) true m
      else
        let q := y / fixLn2
        let s := fixExp ((q + 1) * fixLn2 - y) / 2 ^ (q + 1)
        let r := (fixOne - s) * fixOne / (fixOne + s)
        roundEnclosed 2 t m a neg (r - fixSlack) (r + fixSlack) (-320)

end Sys2Proof.Machine
end

