-- ==== Sys2Proof/Machine/Floating.lean ====
section
/-! DEFINITION. Floating arithmetic, compares and functions (R141 to R149) and conversions (R150 to R152). -/

namespace Sys2Proof.Machine

/-- A two-source floating instruction. -/
def float2 (o : Ops) (s : State) (f : Nat → Nat → Nat) : Host.Outcome State Fault Refusal :=
  elementwise o s (.typed o.ty) (.typed o.ty) .whole (Ty.width o.ty) fun a b _ => f a b
/-- A three-source floating instruction. -/
def float3 (o : Ops) (s : State) (f : Nat → Nat → Nat → Nat) : Host.Outcome State Fault Refusal :=
  elementwise o s (.typed o.ty) (.typed o.ty) (.typed o.ty) (Ty.width o.ty) f
/-- A one-source floating instruction. -/
def float1 (o : Ops) (s : State) (f : Nat → Nat) : Host.Outcome State Fault Refusal :=
  elementwise o s (.typed o.ty) .whole .whole (Ty.width o.ty) fun a _ _ => f a
/-- A floating compare (R145). -/
def floatCompare (o : Ops) (s : State) (rel : Ty → Nat → Nat → Bool) : Host.Outcome State Fault Refusal :=
  elementwise o s (.typed o.ty) (.typed o.ty) .whole compareWidth fun a b _ => condition (rel o.ty a b)

/-- FADD (R141). -/
def execFadd (o : Ops) (s : State) : Host.Outcome State Fault Refusal := float2 o s (fadd o.ty o.m)
/-- FSUB (R141). -/
def execFsub (o : Ops) (s : State) : Host.Outcome State Fault Refusal := float2 o s (fsub o.ty o.m)
/-- FMUL (R141). -/
def execFmul (o : Ops) (s : State) : Host.Outcome State Fault Refusal := float2 o s (fmul o.ty o.m)
/-- FFMA (R141). -/
def execFfma (o : Ops) (s : State) : Host.Outcome State Fault Refusal := float3 o s (ffma o.ty o.m)
/-- FFMS (R141). -/
def execFfms (o : Ops) (s : State) : Host.Outcome State Fault Refusal := float3 o s (ffms o.ty o.m)
/-- FMIN (R143). -/
def execFmin (o : Ops) (s : State) : Host.Outcome State Fault Refusal := float2 o s (fminmax o.ty false)
/-- FMAX (R143). -/
def execFmax (o : Ops) (s : State) : Host.Outcome State Fault Refusal := float2 o s (fminmax o.ty true)
/-- FABS (R144) moves bits. -/
def execFabs (o : Ops) (s : State) : Host.Outcome State Fault Refusal :=
  elementwise o s (.bits o.ty) .whole .whole (Ty.width o.ty) fun a _ _ => fabs o.ty a
/-- FNEG (R144) moves bits. -/
def execFneg (o : Ops) (s : State) : Host.Outcome State Fault Refusal :=
  elementwise o s (.bits o.ty) .whole .whole (Ty.width o.ty) fun a _ _ => fneg o.ty a
/-- FCEQ (R145). -/
def execFceq (o : Ops) (s : State) : Host.Outcome State Fault Refusal := floatCompare o s fceq
/-- FCLT (R145). -/
def execFclt (o : Ops) (s : State) : Host.Outcome State Fault Refusal := floatCompare o s fclt
/-- FCLE (R145). -/
def execFcle (o : Ops) (s : State) : Host.Outcome State Fault Refusal := floatCompare o s fcle
/-- FCUN (R145). -/
def execFcun (o : Ops) (s : State) : Host.Outcome State Fault Refusal := floatCompare o s fcun
/-- FDIV (R141). -/
def execFdiv (o : Ops) (s : State) : Host.Outcome State Fault Refusal := float2 o s (fdiv o.ty o.m)
/-- FRCP (R146). -/
def execFrcp (o : Ops) (s : State) : Host.Outcome State Fault Refusal := float1 o s (frcp o.ty o.m)
/-- FRSQ (R146). -/
def execFrsq (o : Ops) (s : State) : Host.Outcome State Fault Refusal := float1 o s (frsq o.ty o.m)
/-- FSQRT (R146). -/
def execFsqrt (o : Ops) (s : State) : Host.Outcome State Fault Refusal := float1 o s (fsqrt o.ty o.m)
/-- FEXP2 (R146). -/
def execFexp2 (o : Ops) (s : State) : Host.Outcome State Fault Refusal := float1 o s (fexp2 o.ty o.m)
/-- FLOG2 (R146). -/
def execFlog2 (o : Ops) (s : State) : Host.Outcome State Fault Refusal := float1 o s (flog2 o.ty o.m)
/-- FTANH (R146). -/
def execFtanh (o : Ops) (s : State) : Host.Outcome State Fault Refusal := float1 o s (ftanh o.ty o.m)
/-- FCLASS (R147). -/
def execFclass (o : Ops) (s : State) : Host.Outcome State Fault Refusal :=
  elementwise o s (.typed o.ty) .whole .whole compareWidth fun a _ _ => fclass o.ty a
/-- FSCALE (R148): b is an integer position, 64 bits of a scalar or 32 of a lane. -/
def execFscale (o : Ops) (s : State) : Host.Outcome State Fault Refusal :=
  elementwise o s (.typed o.ty) .whole .whole (Ty.width o.ty) fun a b _ =>
    fscale o.ty o.m a (signed (if o.sh = .vector then 32 else 64) b)
/-- FRND (R149). -/
def execFrnd (o : Ops) (s : State) : Host.Outcome State Fault Refusal := float1 o s (frnd o.ty o.m)

/-- The type OTHER of the conversion form. -/
def otherType (o : Ops) : Ty := (Ty.ofCode (xField o.x 3 0)).getD .b64
/-- FLAG of the conversion form. -/
def convFlag (o : Ops) : Bool := xBit o.x 4

/-- FCVT (R150). -/
def execFcvt (o : Ops) (s : State) : Host.Outcome State Fault Refusal :=
  elementwise o s (.typed (otherType o)) .whole .whole (Ty.width o.ty) fun a _ _ => fcvt o.ty (otherType o) (convFlag o) o.m a
/-- FTOI (R151): the result has the width of OTHER. -/
def execFtoi (o : Ops) (s : State) : Host.Outcome State Fault Refusal :=
  elementwise o s (.typed o.ty) .whole .whole (Ty.width (otherType o)) fun a _ _ => ftoi o.ty (otherType o) (convFlag o) o.m a
/-- ITOF (R152). -/
def execItof (o : Ops) (s : State) : Host.Outcome State Fault Refusal :=
  elementwise o s (.typed (otherType o)) .whole .whole (Ty.width o.ty) fun a _ _ => itof o.ty (otherType o) (convFlag o) o.m a

end Sys2Proof.Machine
end

