-- ==== Sys2Proof/Machine/Vector.lean ====
section
/-! DEFINITION. Vector data movement, reductions and scans (R153 to R161). -/

namespace Sys2Proof.Machine

/-- The 64 lanes of a vector position. -/
def vectorLanes (s : State) (x : Agent) (o : Ops) (r : Reading) (sp : Spec) : List Nat :=
  (List.range 64).map (src s x o r sp true)

/-- Runs `k` unless one of the containers read is malformed, which raises AIFRANGE (R72). -/
def checked (s : State) (r : Reading) (read : Agent → List Nat) (k : Agent → State) : Host.Outcome State Fault Refusal :=
  withAgent s fun x => match (read x).find? (containerBad r) with
    | some c => raise s Cause.aifrange (word c)
    | none => k x

/-- Writes 64 lanes to D and completes. -/
def finishLanes (s : State) (o : Ops) (x : Agent) (out : List Nat) : State :=
  finish s o (x.setVector o.d (vecOfLanes out))
/-- Writes a scalar to D and completes. -/
def finishScalar (s : State) (o : Ops) (x : Agent) (v : Nat) : State := finish s o (x.setScalar o.d v)

/-- The element of a list of lanes. -/
def at' (l : List Nat) (i : Nat) : Nat := l.getD i 0

/-- VBCAST (R153). -/
def execVbcast (o : Ops) (s : State) : Host.Outcome State Fault Refusal :=
  checked s (.bits o.ty) (fun x => [src s x o (.bits o.ty) o.a false 0]) fun x =>
    finishLanes s o x (List.replicate 64 (src s x o (.bits o.ty) o.a false 0))

/-- VEXTR (R154). -/
def execVextr (o : Ops) (s : State) : Host.Outcome State Fault Refusal :=
  let pick := fun x => src s x o (.bits o.ty) o.a true (src s x o .whole o.b false 0 % 64)
  checked s (.bits o.ty) (fun x => [pick x]) fun x => finishScalar s o x (pick x)

/-- VINS (R154): the other lanes of D keep their values. -/
def execVins (o : Ops) (s : State) : Host.Outcome State Fault Refusal :=
  checked s (.bits o.ty) (fun x => [src s x o (.bits o.ty) o.a true 0]) fun x =>
    finishLanes s o x ((vectorLanes s x o .whole o.d).set (src s x o .whole o.b false 0 % 64) (src s x o (.bits o.ty) o.a true 0))

/-- VPERM (R155). Its index lanes are read as numbers and not checked as containers (log 119). -/
def execVperm (o : Ops) (s : State) : Host.Outcome State Fault Refusal :=
  checked s (.bits o.ty) (fun x => vectorLanes s x o (.bits o.ty) o.a) fun x =>
    let a := vectorLanes s x o (.bits o.ty) o.a
    finishLanes s o x ((vectorLanes s x o .whole o.b).map fun b => at' a (b % 64))

/-- VSHUP (R156). -/
def execVshup (o : Ops) (s : State) : Host.Outcome State Fault Refusal :=
  checked s (.bits o.ty) (fun x => vectorLanes s x o (.bits o.ty) o.a) fun x =>
    let a := vectorLanes s x o (.bits o.ty) o.a
    let n := src s x o .whole o.b false 0
    finishLanes s o x ((List.range 64).map fun i => if n ≤ i then at' a (i - n) else 0)

/-- VSHDN (R156). -/
def execVshdn (o : Ops) (s : State) : Host.Outcome State Fault Refusal :=
  checked s (.bits o.ty) (fun x => vectorLanes s x o (.bits o.ty) o.a) fun x =>
    let a := vectorLanes s x o (.bits o.ty) o.a
    let n := src s x o .whole o.b false 0
    finishLanes s o x ((List.range 64).map fun i => if i + n ≤ 63 then at' a (i + n) else 0)

/-- VPACK (R157). -/
def execVpack (o : Ops) (s : State) : Host.Outcome State Fault Refusal :=
  let both := fun x => vectorLanes s x o (.bits o.ty) o.a ++ vectorLanes s x o (.bits o.ty) o.b
  checked s (.bits o.ty) both fun x => finish s o (x.setVector o.d (vecOfPacked (Ty.width o.ty) (both x)))

/-- VUNPK (R157). -/
def execVunpk (o : Ops) (s : State) : Host.Outcome State Fault Refusal :=
  let w := Ty.width o.ty
  let sel := fun x =>
    let h := src s x o .whole o.b false 0 % (if w = 16 then 2 else 4)
    (List.range 64).map fun i => shaped x o.m o.a (packed w (vectorRaw s x o.a) (i + 64 * h)) (.typed o.ty)
  checked s (.bits o.ty) sel fun x => finishLanes s o x (sel x)

/-- VCMPM (R158). -/
def execVcmpm (o : Ops) (s : State) : Host.Outcome State Fault Refusal :=
  withAgent s fun x => finishScalar s o x (maskOf (vectorLanes s x o .whole o.a))

/-- VMSEL (R158): bit i of c chooses lane i; a's containers are checked before b's (log 55). -/
def execVmsel (o : Ops) (s : State) : Host.Outcome State Fault Refusal :=
  let a := fun x => vectorLanes s x o (.bits o.ty) o.a
  let b := fun x => (List.range 64).map (src s x o (.bits o.ty) o.b (Shape.bIsVec o.sh))
  checked s (.bits o.ty) (fun x => a x ++ b x) fun x =>
    let c := src s x o .whole (thirdSpec o) false 0
    finishLanes s o x ((List.range 64).map fun i => if c.testBit i then at' (a x) i else at' (b x) i)

/-- VCOMPR (R159). -/
def execVcompr (o : Ops) (s : State) : Host.Outcome State Fault Refusal :=
  checked s (.bits o.ty) (fun x => vectorLanes s x o (.bits o.ty) o.a) fun x =>
    let a := vectorLanes s x o (.bits o.ty) o.a
    let c := src s x o .whole (thirdSpec o) false 0
    let kept := ((List.range 64).filter fun i => c.testBit i).map (at' a)
    finishLanes s o x ((List.range 64).map (at' kept))

/-- VEXPND (R159). -/
def execVexpnd (o : Ops) (s : State) : Host.Outcome State Fault Refusal :=
  checked s (.bits o.ty) (fun x => vectorLanes s x o (.bits o.ty) o.a) fun x =>
    let a := vectorLanes s x o (.bits o.ty) o.a
    let c := src s x o .whole (thirdSpec o) false 0
    finishLanes s o x ((List.range 64).map fun i => if c.testBit i then at' a (popCount i c) else 0)

/-- VIOTA (R159). -/
def execViota (o : Ops) (s : State) : Host.Outcome State Fault Refusal :=
  withAgent s fun x =>
    let a := src s x o .whole o.a false 0
    finishLanes s o x ((List.range 64).map fun i => popCount i a)

/-- One combining step of a sum: RoundTo for a floating type, Sat read by M for an integer type (R160, R161). -/
def sumStep (t : Ty) (m : BitVec 2) (x y : Nat) : Nat :=
  if Ty.isFloat t then fadd t m x y else sat t (readByM t m x + readByM t m y) m
/-- One combining step of a maximum or a minimum (R160). -/
def extremeStep (t : Ty) (wantMax : Bool) (x y : Nat) : Nat :=
  if Ty.isFloat t then fminmax t wantMax x y
  else if wantMax then (if readS t y ≤ readS t x then x else y) else if readS t x ≤ readS t y then x else y

/-- The tree of R76: at each level lane i combines with lane i + width. -/
def reduceTree (f : Nat → Nat → Nat) : Nat → List Nat → Nat
  | 0, l => l.headD 0
  | n + 1, l => reduceTree f n ((List.range (2 ^ n)).map fun i => f (at' l i) (at' l (i + 2 ^ n)))

/-- A reduction of the 64 lanes of a to a scalar (R160). -/
def reduce (o : Ops) (s : State) (f : Nat → Nat → Nat) : Host.Outcome State Fault Refusal :=
  withAgent s fun x => finishScalar s o x (reduceTree f 6 (vectorLanes s x o (.typed o.ty) o.a))

/-- VREDADD (R160). -/
def execVredadd (o : Ops) (s : State) : Host.Outcome State Fault Refusal := reduce o s (sumStep o.ty o.m)
/-- VREDMAX (R160). -/
def execVredmax (o : Ops) (s : State) : Host.Outcome State Fault Refusal := reduce o s (extremeStep o.ty true)
/-- VREDMIN (R160). -/
def execVredmin (o : Ops) (s : State) : Host.Outcome State Fault Refusal := reduce o s (extremeStep o.ty false)

/-- The running sums of a list from a first value on (R77). -/
def scanSums (f : Nat → Nat → Nat) : Nat → List Nat → List Nat
  | y, [] => [y]
  | y, x :: rest => y :: scanSums f (f y x) rest

/-- VSCAN (R161). -/
def execVscan (o : Ops) (s : State) : Host.Outcome State Fault Refusal :=
  withAgent s fun x => match vectorLanes s x o (.typed o.ty) o.a with
    | [] => finishLanes s o x []
    | y :: rest => finishLanes s o x (scanSums (sumStep o.ty o.m) y rest)

end Sys2Proof.Machine
end

