-- ==== Sys2Proof/Machine/Tokens.lean ====
section
/-! DEFINITION. The token instructions (R190 to R193), SENDM (R444) and VSEQACC (R162 to R165). -/

namespace Sys2Proof.Machine

/-! ## Sends -/

/-- A cause and its DETAIL. -/
abbrev Why := Nat × W64

/-- Whether an element's previous firing still has requests in the commit buffer while this firing has buffered nothing: its
first buffered instruction then stalls (R100). -/
def bufferBusy (s : State) (e : Nat) (f : Firing) : Bool :=
  f.nsend == 0 && f.nreq == 0 && (s.elem e).releases.any fun r => r.items.any fun i => match i with
    | .req _ _ => true
    | .send _ _ _ _ _ | .counted _ _ _ | .reqn _ _ _ | .sendm _ _ _ _ _ | .snapped _ _ _ _ => false

/-- Whether a send on a route word names a device that is dead: one on a route that sends nothing, or to a host, names none (R168, R429). -/
def sendsToDead (s : State) (r : W64) : Bool :=
  let k := routeKind r
  k != 0 && k != 6 && k != 7 && k != 8 && deadPeer s (routeDev s r)

/-- A send on a route enters the commit buffer (R100, R168, R190). Routes of kind off, muster and memory send nothing. -/
def issueSend (s : State) (e : Nat) (f : Firing) (route : Nat) (fl : Flags) (payload : Vec) (widen : Bool := false) : Except Why Firing :=
  let r := routeWord s e f.frame.ctx route
  let k := routeKind r
  if k = 0 || k = 6 || k = 7 then .ok f
  else match tsOnRoute k f.frame.ts with
    | .error d => .error (Cause.stampovf, d)
    | .ok ts =>
      if k != 8 && deadPeer s (routeDev s r) then .error (Cause.deadpeer, word (routeDev s r))
      else
        let tok := routeToken s r ts fl payload (ctxImage s e f.frame.ctx)
        .ok { f with items := f.items ++ [.send tok route r (routeCores s e f.frame.ctx route r) widen], nsend := f.nsend + 1 }

/-- The payload of a send: the low Width(T) bits of a scalar, or the 256 bytes of a vector verbatim (R190). -/
def sendPayload (s : State) (x : Agent) (o : Ops) : Vec :=
  if o.sh = .scalar then BitVec.ofNat 2048 (src s x o (.bits o.ty) o.a false 0) else vectorRaw s x o.a

/-- ROUTE of the send form (R44). -/
def sendRoute (o : Ops) : Nat := xField o.x 28 24
/-- LAST of the send form. -/
def sendLast (o : Ops) : Bool := xBit o.x 23
/-- SEQ of the send form. -/
def sendSeq (o : Ops) : Nat := xField o.x 22 17

/-- Runs an instruction that places something in the commit buffer: it stalls while the previous firing's requests are still
there (R100), and otherwise completes with the new firing or faults. -/
def buffered (o : Ops) (s : State) (k : Nat → Firing → Except Why Firing) : Host.Outcome State Fault Refusal :=
  withFiring s fun e f =>
    if bufferBusy s e f then s
    else match k e f with
      | .error (c, d) => raise s c d
      | .ok f' => finish s o (.firing e f')

/-- A send of A (R190): the route, and the flags from the firing. A malformed aif13 scalar raises AIFRANGE (R72). -/
def sendValue (o : Ops) (s : State) (route : Agent → Nat) (fl : Agent → Flags) (widen : Bool := false) :
    Host.Outcome State Fault Refusal :=
  buffered o s fun e f =>
    let x := Agent.firing e f
    let v := src s x o (.bits o.ty) o.a false 0
    if o.sh = .scalar && containerBad (.bits o.ty) v then .error (Cause.aifrange, word v)
    else issueSend s e f (route x) (fl x) (sendPayload s x o) widen

/-- SEND (R190). -/
def execSend (o : Ops) (s : State) : Host.Outcome State Fault Refusal :=
  sendValue o s (fun _ => sendRoute o) fun _ => { last := sendLast o, seq := sendSeq o }
/-- SCALM (R190) sets the scaled flag. -/
def execScalm (o : Ops) (s : State) : Host.Outcome State Fault Refusal :=
  sendValue o s (fun _ => sendRoute o) fun _ => { last := sendLast o, seq := sendSeq o, scaled := true }
/-- WIDEN (R190): as SEND; its +1 is recorded once the firing's stores are performed, which they are at every scope at once. -/
def execWiden (o : Ops) (s : State) : Host.Outcome State Fault Refusal :=
  sendValue o s (fun _ => sendRoute o) (fun _ => { last := sendLast o, seq := sendSeq o }) true

/-- The timestamp of the firing. -/
def Agent.ts : Agent → W64
  | .firing _ f => f.frame.ts
  | .stew _ _ => 0

/-- SEQ (R190) numbers the token by the innermost coordinate. -/
def execSeq (o : Ops) (s : State) : Host.Outcome State Fault Refusal :=
  sendValue o s (fun _ => sendRoute o) fun x => { last := sendLast o, seq := tsCoord x.ts (tsDepth x.ts) % 64 }
/-- SENDL (R190) takes SEQ and LAST from b. -/
def execSendl (o : Ops) (s : State) : Host.Outcome State Fault Refusal :=
  sendValue o s (fun _ => sendRoute o) fun x =>
    let b := src s x o .whole o.b false 0
    { last := b.testBit 6, seq := b % 64 }
/-- STEER (R191) chooses between two routes by bit 0 of b, a word that is read whole and not checked as a container (log 118). -/
def execSteer (o : Ops) (s : State) : Host.Outcome State Fault Refusal :=
  sendValue o s (fun x => if src s x o .whole o.b false 0 % 2 = 1 then sendRoute o else sendRoute o + 1) fun _ =>
    { last := sendLast o, seq := sendSeq o }
/-- EOS (R190) sends a zero payload with EOS = 1. -/
def execEos (o : Ops) (s : State) : Host.Outcome State Fault Refusal :=
  buffered o s fun e f => issueSend s e f (sendRoute o) { last := sendLast o, eos := true } 0

/-- The flags that CHAIN copies from a token. -/
def chainFlags (t : Token) : Flags :=
  { last := bitOf t.h1 25, scaled := bitOf t.h1 24, eos := bitOf t.h1 23, esheaf := bitOf t.h1 22, taint := bitOf t.h1 21,
    seq := bits t.h1 20 15 }

/-- CHAIN (R190) forwards a matched token. -/
def execChain (o : Ops) (s : State) : Host.Outcome State Fault Refusal :=
  buffered o s fun e f => match operandToken s e f o.a with
    | some t => issueSend s e f (sendRoute o) (chainFlags t) t.payload
    | none => issueSend s e f (sendRoute o) {} (Config.absentOperand s.stepNo)

/-- REQN (R192): a request at (N, s) for the route's destination N; a route of another kind than plain transforms s, and where it cannot be used
at that depth, DETAIL is ts (R168; log 58). -/
def execReqn (o : Ops) (s : State) : Host.Outcome State Fault Refusal :=
  buffered o s fun e f =>
    let t := word (src s (.firing e f) o .whole o.a false 0)
    let r := routeWord s e f.frame.ctx (sendRoute o)
    let k := routeKind r
    if !tsWf t || tsDepth t != tsDepth f.frame.ts || tsEarlier t f.frame.ts then .error (Cause.notifybeh, t)
    else if k = 0 || k = 6 || k = 7 then .ok f
    else match tsOnRoute k t with
      | .error d => .error (Cause.stampovf, if d = t then f.frame.ts else d)
      | .ok t =>
        if k != 8 && deadPeer s (routeDev s r) then .error (Cause.deadpeer, word (routeDev s r))
        else .ok { f with items := f.items ++ [.reqn (routeLoc s r) t r], nsend := f.nsend + 1 }

/-- The field of a timestamp that SEL names (R193). -/
def tsField (t : W64) (sel : Nat) : Nat :=
  if sel = 0 then tsDepth t else if sel = 5 then tsCoord t (tsDepth t) else tsCoord t (sel - 1)

/-- TSGET (R193). -/
def execTsget (o : Ops) (s : State) : Host.Outcome State Fault Refusal :=
  withAgent s fun x => finishScalar s o x (tsField (word (src s x o .whole o.a false 0)) (xField o.x 2 0))

/-- SENDM (R168, R444): on a muster route the snapshot and the fork happen at release; any other route takes its token as it takes a send's. -/
def execSendm (o : Ops) (s : State) : Host.Outcome State Fault Refusal :=
  buffered o s fun e f =>
    let x := Agent.firing e f
    let r := routeWord s e f.frame.ctx (sendRoute o)
    let v := src s x o (.bits o.ty) o.a false 0
    if o.sh = .scalar && containerBad (.bits o.ty) v then .error (Cause.aifrange, word v)
    else if routeKind r != 6 then issueSend s e f (sendRoute o) { last := sendLast o, seq := sendSeq o } (sendPayload s x o)
    else if deadPeer s (routeDev s r) then .error (Cause.deadpeer, word (routeDev s r))
    else
      let own := ctxImage s e f.frame.ctx
      let tok := { routeToken s r f.frame.ts { last := sendLast o, seq := sendSeq o } (sendPayload s x o) own with region := own }
      .ok { f with items := f.items ++ [.sendm tok (sendRoute o) r false f.slot], nsend := f.nsend + 1 }

/-! ## VSEQACC -/

/-- Absorbs the partials of an early buffer in sequence order, each at most once (R78, R163). -/
def absorb (t : Ty) (m : BitVec 2) : Nat → AccData → AccData
  | 0, a => a
  | n + 1, a => match a.early.find? fun p => p.seq == a.exp with
    | none => a
    | some p =>
      let acc := if a.exp = 0 then p.value
        else vecOfLanes ((List.range 64).map fun i => sumStep t m (lane a.acc i) (lane p.value i))
      absorb t m n { a with acc := acc, exp := a.exp + 1, early := a.early.filter fun q => q.seq != p.seq }

/-- Whether an accumulation is complete. -/
def AccData.done (a : AccData) : Bool := a.lseq.any fun l => a.exp == l + 1

/-- Whether a partial repeats a sequence number or stands beyond the last (R163). -/
def AccData.repeats (a : AccData) (seq : Nat) (last : Bool) : Bool :=
  decide (seq < a.exp) || (a.early.any fun p => p.seq == seq) || (a.lseq.any fun l => decide (l < seq))
    || (last && (a.lseq.isSome || decide (seq < a.exp)))

/-- The status word of VSEQACC (R163). -/
def AccData.status (a : AccData) : Nat := ofBool a.done + a.exp * 2 + a.early.length * 256

/-- What VSEQACC does to the firing and to accumulator q of core `c`: it waits, faults, or goes on (R163 to R165). -/
def execVseqacc (o : Ops) (s : State) : Host.Outcome State Fault Refusal :=
  withFiring s fun e f =>
    let x := Agent.firing e f
    let c := coreOf e
    let core := s.core c
    let b := src s x o .whole o.b false 0
    let q := b % 4
    let a := core.accs.getD q Acc.init
    let tok := operandToken s e f o.a
    let seq := (tok.map fun t => bits t.h1 20 15).getD 0
    let last := (tok.map fun t => bitOf t.h1 25).getD false
    let mine := a.lock.any fun l => l.1 == e
    if bufferBusy s e f || (a.lock.isSome && !mine) then s
    else if a.data.repeats seq last then raise s Cause.seqdup (word seq)
    else if seq != a.data.exp && decide (16 ≤ a.data.early.length) then
      (if mine then raise s Cause.accfull (word seq) else s)
    else
      let p : Partial := { seq := seq, value := vecOfLanes (vectorLanes s x o (.typed o.ty) o.a), last := last }
      let d := absorb o.ty o.m 65
        { a.data with lseq := if last then some seq else a.data.lseq, taint := a.data.taint || tok.any tokTaint,
                      early := a.data.early ++ [p] }
      let old := match a.lock with | some (_, old) => old | none => a.data
      let s' := s.setCore c { core with accs := setAt core.accs q { data := d, lock := some (e, old) } }
      let sent := if d.done then issueSend s' e f (b / 16 % 16) { last := true, taint := d.taint } d.acc
        else .ok { f with nsend := f.nsend + 1 }
      match sent with
      | .error (k, dt) => raise s' k dt
      | .ok f' => finish s' o ((Agent.firing e f').setScalar o.d d.status)

end Sys2Proof.Machine
end

