-- ==== Sys2Proof/Machine/Translate.lean ====
section
/-! DEFINITION. From an effective address to a byte of memory: the spaces (R223, R225), the declared ranges (R226, R227) and the homes
(R379, R454). -/

namespace Sys2Proof.Machine

/-! ## Spaces -/

/-- A context as an issuer of accesses: its element and number. -/
abbrev Ctx := Nat × Nat

/-- SPLIT of a die (R373). -/
def splitOf (s : State) (d : Nat) : Nat := bits (s.die d).celsplit 3 0
/-- CQUOTA of a context. -/
def ctxQuota (s : State) (e ctx : Nat) : Nat := bits (ctxWord s e ctx) 31 27
/-- CBASE of a context. -/
def ctxBase (s : State) (e ctx : Nat) : Nat := bits (ctxWord s e ctx) 26 23

/-- Whether a firing's address lies in its space (R223, R374). -/
def inSpace (s : State) (e ctx space ea : Nat) : Bool :=
  let c := coreOf e
  if space = 0 then decide (ea < 2 ^ 19)
  else if space = 1 then decide (ea < 2 ^ 26) && !isFused s (clusterOf c * 128 + ea / 2 ^ 19)
  else if space = 2 then
    decide (ea < ctxQuota s e ctx * 2 ^ 26) && decide (ctxBase s e ctx * 2 ^ 26 + ea < splitOf s (dieOf c) * 2 ^ 26)
  else if space = 3 then decide (ea < 2 ^ 56)
  else false

/-- The address in the numbering of memory of a firing's SCR, CSC or CEL byte. -/
def spaceAddr (s : State) (e ctx space ea : Nat) : Nat :=
  let c := coreOf e
  if space = 0 then scrAddr c ea
  else if space = 1 then scrAddr (clusterOf c * 128 + ea / 2 ^ 19) (ea % 2 ^ 19)
  else celAddr (dieOf c) (ctxBase s e ctx * 2 ^ 26 + ea)

/-! ## Declared ranges -/

/-- The first byte from `p` to `e` that no interval covers; each interval is used at most once. -/
def uncovered (spans : List (Nat × Nat)) : Nat → Nat → Nat → Option Nat
  | 0, p, e => if p < e then some p else none
  | n + 1, p, e =>
    if e ≤ p then none
    else match ((spans.filter fun (lo, hi) => decide (lo ≤ p) && decide (p < hi)).map Prod.snd).max? with
      | none => some p
      | some q => uncovered spans n q e

/-- The intervals of range words that permit an access of a space. -/
def rangeSpans (words : List W64) (space : Nat) (rd wr : Bool) : List (Nat × Nat) :=
  words.filterMap fun w =>
    if bitOf w 63 && bits w 60 58 == space && (!rd || bitOf w 62) && (!wr || bitOf w 61) then
      some (bits w 55 8 * 256, bits w 55 8 * 256 + (bits w 2 0 + 1) * 2 ^ (bits w 7 3 + 8))
    else none

/-- The eight declared-range words of a context (R226). -/
def ctxRanges (s : State) (e ctx : Nat) : List W64 :=
  (List.range 8).map fun i => (s.core (coreOf e)).ctxWord (e % 4) ctx (0x50 + i)

/-- One part of an access: space, first byte, length, alignment, and whether it reads and writes. -/
structure Part where
  space : Nat
  ea : Nat
  len : Nat
  align : Nat
  rd : Bool
  wr : Bool
  deriving DecidableEq, Repr

/-- The first byte of each core's scratchpad that a run of CSC bytes goes on to, after its first one. -/
def coreSteps (ea len : Nat) : List Nat := (List.range ((ea + len - 1) / 2 ^ 19 - ea / 2 ^ 19)).map fun i => (ea / 2 ^ 19 + 1 + i) * 2 ^ 19

/-- Whether a part lies in its space: R223 checks the address of an access, and a run of bytes whole, over every core's scratchpad that
it crosses (R401). -/
def Part.inside (s : State) (e ctx : Nat) (p : Part) : Bool :=
  inSpace s e ctx p.space p.ea && (p.len == p.align || (inSpace s e ctx p.space (p.ea + p.len - 1) &&
    (p.space != 1 || (coreSteps p.ea p.len).all (inSpace s e ctx 1))))

/-- The checks of a firing's access at issue, over all its parts: SPACEOOB, then MISALIGN, then RANGEOUT (R223, R224, R227). -/
def issueChecks (s : State) (e ctx : Nat) (parts : List Part) : Option Why :=
  let words := ctxRanges s e ctx
  match parts.find? fun p => !p.inside s e ctx with
  | some p => some (Cause.spaceoob, word p.ea)
  | none => match parts.find? fun p => p.ea % p.align != 0 with
    | some p => some (Cause.misalign, word p.ea)
    | none => (parts.findSome? fun p => uncovered (rangeSpans words p.space p.rd p.wr) 9 p.ea (p.ea + p.len)).map fun b =>
        (Cause.rangeout, word b)

/-! ## Homes -/

/-- The unmasked home die of a physical address (R379). -/
def rawHome (pa : Nat) : Nat := ((pa >>> 7) ^^^ (pa >>> 15) ^^^ (pa >>> 23) ^^^ (pa >>> 31)) % 4

/-- The home die of a physical address under a HOMEMASK (R379). -/
def homeUnder (mask : W64) (pa : Nat) : Nat :=
  if bitOf mask (rawHome pa) then ((List.range 4).filter fun d => !bitOf mask d).getD (pa / 128 % 3) 0 else rawHome pa
/-- The home die of a physical address. -/
def homeOf (s : State) (pa : Nat) : Nat := homeUnder s.pkg.homemask pa

/-- STd of PKGRST (R420). -/
def resetStage (s : State) (d : Nat) : Nat := bits s.pkg.pkgrst (4 * d + 3) (4 * d)

/-- The HOMEMASK under which requests are routed: a die in RETURN takes its own lines' requests again (R422). -/
def routeMask (s : State) : Nat := (List.range 4).foldl (fun m d =>
  if bitOf s.pkg.homemask d && resetStage s d != 7 then m + 2 ^ d else m) 0

/-- The home device of a fabric-global page (R454). -/
def homeDevice (s : State) (page : Nat) : Nat :=
  let h := ((page ^^^ (page >>> 10)) ^^^ ((page >>> 20) ^^^ (page >>> 30))) % 1024
  bits (Tab.get 0 s.pkg.fabric (0x700 + h / 4)) (16 * (h % 4) + 11) (16 * (h % 4))

/-- First virtual address of the status page (R388). -/
def statusBase : Nat := 0xFFFFFFFFFF0000
/-- Whether a virtual address is fabric-global (R453). -/
def fabricGlobal (va : Nat) : Bool := va.testBit 55 && decide (va < statusBase)

/-! ## Permissions and physical memory -/

/-- What an access needs of a page or window. -/
inductive Need
  | read | write | atomic
  deriving DecidableEq, Repr

/-- Whether a leaf permits an access (R384). -/
def leafPermits (w : W64) : Need → Bool
  | .read => bitOf w 61
  | .write => bitOf w 60
  | .atomic => bitOf w 59

/-- Whether a window permits an access (R209). -/
def windowPermits (w : W64) : Need → Bool
  | .read => bitOf w 62
  | .write => bitOf w 61
  | .atomic => bitOf w 60

/-- Whether a physical range holds memory (R396). -/
def physExists (a n : Nat) : Bool := inHbm a n || inEngineRegs a n || inFlash a n

/-- Stands, in an address of the numbering of memory, for bytes that another device owns. -/
def remoteBase : Nat := 2 ^ 60
/-- Stands for a word of the status page. -/
def statusAddr (va : Nat) : Nat := 2 ^ 61 + va % 2 ^ 16

end Sys2Proof.Machine
end

