-- ==== Sys2Proof/Machine/Memory.lean ====
section
/-! DEFINITION. Accesses at their homes: the links between dies (R394, R395), the caches and the directory (R204, R380, R381), uncorrectable errors (R219, R375, R415),
the engine register words (R398), the status page (R388), plain reads and writes, and the operation of an atomic (R240). -/

namespace Sys2Proof.Machine

/-! ## Links between dies (R394, R395) -/

/-- Whether a die's links are down: from LINKDOWN until TRAINED (R420). -/
def linksDown (s : State) (d : Nat) : Bool := resetStage s d == 4 || resetStage s d == 5

/-- Whether the link between two orthogonal neighbours works: neither die's links are down, and a module of it works. -/
def linkUp (s : State) (a b : Nat) : Bool :=
  let i := if min a b = 0 then (if max a b = 1 then 0 else 1) else if min a b = 1 then 2 else 3
  !linksDown s a && !linksDown s b && s.pkg.ucie.getD i 0 != 0

/-- The intermediate die of a diagonal path: X first, and the other one while that die is out of the package's paths (R394). -/
def viaDie (s : State) (a b : Nat) : Nat :=
  let m := b % 2 + a / 2 * 2
  if 4 ≤ resetStage s m then 3 - m else m

/-- Whether traffic passes from one die to another. A die behind a link without a working module is cut off (R395; log 99). -/
def dieReach (s : State) (a b : Nat) : Bool :=
  if a = b then true
  else if a + b = 3 then linkUp s a (viaDie s a b) && linkUp s (viaDie s a b) b
  else linkUp s a b

/-- Whether a request passes from one die to another and its reply back (R394, R395). -/
def bothReach (s : State) (a b : Nat) : Bool := dieReach s a b && dieReach s b a

/-! ## Lines and sectors (R204) -/

/-- The sectors of a line that the bytes [pa, pa + n) touch, as a mask. -/
def sectorMask (pa n line : Nat) : Nat :=
  let lo := max pa (line * 128)
  let hi := min (pa + n) (line * 128 + 128)
  if hi ≤ lo then 0 else 2 ^ ((hi - 1 - line * 128) / 16 + 1) - 2 ^ ((lo - line * 128) / 16)

/-- The lines that the bytes [pa, pa + n) touch. -/
def linesOf (pa n : Nat) : List Nat := (List.range ((pa + n - 1) / 128 + 1 - pa / 128)).map fun i => pa / 128 + i

/-- The sectors of a mask, ascending. -/
def maskSectors (m : Nat) : List Nat := (List.range 8).filter fun i => m.testBit i
/-- The sectors of `a` that are not in `b`. -/
def maskMinus (a b : Nat) : Nat := a ^^^ (a &&& b)

/-- The L1 line of a core. -/
def Core.line (c : Core) (line : Nat) : CacheLine := Tab.get CacheLine.init c.l1 line
/-- Replaces an L1 line of a core. -/
def setL1 (s : State) (core line : Nat) (l : CacheLine) : State :=
  s.setCore core { s.core core with l1 := Tab.set CacheLine.init (s.core core).l1 line l }
/-- The L2 line of a die. -/
def Die.line (d : Die) (line : Nat) : CacheLine := Tab.get CacheLine.init d.l2 line
/-- Replaces an L2 line of a die. -/
def setL2 (s : State) (die line : Nat) (l : CacheLine) : State :=
  s.setDie die { s.die die with l2 := Tab.set CacheLine.init (s.die die).l2 line l }
/-- The die that caches a line in its L2. -/
def lineHome (s : State) (line : Nat) : Nat := homeOf s (line * 128)
/-- The directory entry of a line. -/
def dirOf (s : State) (line : Nat) : DirEntry := Tab.get DirEntry.init (s.die (lineHome s line)).dir line
/-- Replaces the directory entry of a line. -/
def setDir (s : State) (line : Nat) (x : DirEntry) : State :=
  let h := lineHome s line
  s.setDie h { s.die h with dir := Tab.set DirEntry.init (s.die h).dir line x }

/-- A sector's bytes in memory, as a number. -/
def sectorBytes (s : State) (line sector : Nat) : Nat := s.readNum (line * 128 + 16 * sector) 16

/-- Marks sectors of a cached line dirty; what stands behind each newly dirty one is kept. -/
def dirtySectors (l : CacheLine) (mask : Nat) (behind : Nat → Nat) : CacheLine :=
  { l with valid := l.valid ||| mask, dirty := l.dirty ||| mask,
           behind := (maskSectors (maskMinus mask l.dirty)).foldl (fun t i => Tab.set 0 t i (behind i)) l.behind }

/-- Puts back, in memory, what stands behind the poisoned sectors of a line: their write-back writes nothing (R219). -/
def forgetPoison (s : State) (line : Nat) (l : CacheLine) : State :=
  (maskSectors l.poison).foldl (fun s i => s.writeNum (line * 128 + 16 * i) 16 (Tab.get 0 l.behind i)) s

/-- Puts back what stands behind the poisoned sectors of an L2 line: in memory, or behind the newer sector that an L1 holds (R219). -/
def forgetL2 (s : State) (line : Nat) (l : CacheLine) : State :=
  (maskSectors l.poison).foldl (fun s i =>
    let v := Tab.get 0 l.behind i
    match s.cores.find? fun (_, c) => (c.line line).dirty.testBit i with
    | some (k, c) => let x := c.line line; setL1 s k line { x with behind := Tab.set 0 x.behind i v }
    | none => s.writeNum (line * 128 + 16 * i) 16 v) s

/-- A cached line without what it held of its poisoned sectors, every other sector clean. -/
def CacheLine.written (l : CacheLine) : CacheLine := { l with dirty := 0, poison := 0, valid := maskMinus l.valid l.poison, behind := [] }

/-! ## Errors in cached sectors (R219, R375, R415) -/

/-- A cached line that meets an error in a sector: a clean sector is dropped and refetched, a dirty one is poisoned. -/
def strike (l : CacheLine) (sector : Nat) : CacheLine :=
  if l.dirty.testBit sector then { l with poison := l.poison ||| 2 ^ sector }
  else { l with valid := maskMinus l.valid (2 ^ sector) }

/-- One more corrected error in a die's log (R415). -/
def logCorrected (s : State) (d : Nat) : State := s.setDie d { s.die d with corrected := (s.die d).corrected + 1 }

/-- The latent errors of some sectors of an L1 line are met: a newly poisoned sector sends one L1POISON record to the core's steward
(R219). -/
def meetL1 (s : State) (c line mask : Nat) : State :=
  s.soft.foldl (fun s e => match e with
    | .l1 k ln sector hard =>
      let l := (s.core c).line line
      if k = c ∧ ln = line ∧ mask.testBit sector ∧ l.valid.testBit sector then
        let s := { s with soft := s.soft.erase e }
        if hard then
          let s := setL1 s c line (strike l sector)
          if l.dirty.testBit sector then
            unitRecord s (clusterOf c) Cause.l1poison 0 (word (line * 128 + 16 * sector)) c 0 0 0
          else s
        else
          let x := s.core c
          logCorrected (s.setCore c { x with eccL1 := min (x.eccL1 + 1) 65535 }) (dieOf c)
      else s
    | _ => s) s

/-- The latent errors of some sectors of an L2 line are met, in the cellar of its die: a newly poisoned sector sends one L1POISON record
to the steward of the die's cluster 0, and the uncorrectable error is logged (R375, R415; log 23). -/
def meetL2 (s : State) (d line mask : Nat) : State :=
  s.soft.foldl (fun s e => match e with
    | .l2 k ln sector hard =>
      let l := (s.die d).line line
      if k = d ∧ ln = line ∧ mask.testBit sector ∧ l.valid.testBit sector then
        let s := { s with soft := s.soft.erase e }
        if hard then
          let s := setL2 s d line (strike l sector)
          let s := s.setDie d { s.die d with eccLog := (s.die d).eccLog + 1 }
          if l.dirty.testBit sector then
            queueAsync s (d * 4) { w0 := recWord0 Cause.l1poison 0 0 false true 0 s.devId d 0 0 0 0 0 0, w1 := 0, w2 := 0,
                                   w3 := word (line * 128 + 16 * sector) }
          else s
        else logCorrected s d
      else s
    | _ => s) s

/-! ## The L2 slices (R372, R380) -/

/-- Whether the links between a line's home and the die whose stack backs it are down, so that its fills and write-backs wait (R395,
R421). -/
def stackDown (s : State) (line : Nat) : Bool :=
  let d := line * 128 / 2 ^ 37
  inHbm (line * 128) 1 && (linksDown s d || !dieReach s (lineHome s line) d)

/-- Writes a line's dirty sectors back to HBM from its L2 home. A poisoned sector is written with poisoned ECC: later reads of it fail
(R219, R415); a good one mends what it covers. -/
def flushL2 (s : State) (die line : Nat) : State :=
  let s := meetL2 s die line ((s.die die).line line).dirty
  let l := (s.die die).line line
  if l.dirty = 0 then s
  else
    let s := setL2 (forgetL2 s line l) die line l.written
    let s := (maskSectors (maskMinus l.dirty l.poison)).foldl (fun s i => clearErrors s (line * 128 + 16 * i) 16) s
    { s with soft := s.soft ++ (maskSectors l.poison).flatMap fun i => [.hbm (line * 128 + 16 * i) true, .hbm (line * 128 + 16 * i + 8) true] }

/-- Removes a line from the L2 of a die, written back first. -/
def evictL2 (s : State) (die line : Nat) : State := setL2 (flushL2 s die line) die line CacheLine.init

/-- Sets of the L2 slice of a die, of sixteen ways and 128-byte lines: what SPLIT and PIN leave of fifteen steps of 64 MiB (R372,
R380). -/
def l2Sets (s : State) (d : Nat) : Nat := (15 - splitOf s d - bits (s.die d).celsplit 6 4) * 32768

/-- The lines of an L2 slice, pinned ones apart, that share a line's set; the spec names no index, and the line number's residue serves
(log 96). -/
def l2Ways (s : State) (d line : Nat) : Tab CacheLine :=
  let x := s.die d
  x.l2.filter fun (k, _) => k % l2Sets s d == line % l2Sets s d && !x.pinned.contains k

/-- The set of a line in an L2 slice gives up lines until `keep` are left, `n` at most: each time the least recently used one whose
write-back need not wait (R380). -/
def shrinkSet (d line keep : Nat) : Nat → State → State
  | 0, s => s
  | n + 1, s =>
    let ways := l2Ways s d line
    let free := ways.filter fun (k, l) => l.dirty == 0 || !stackDown s k
    if ways.length ≤ keep then s
    else match (free.map fun (_, l) => l.used).min?.bind fun u => free.find? fun (_, l) => l.used == u with
      | none => s
      | some (k, _) => shrinkSet d line keep n (evictL2 s d k)

/-- The ways of a set of an L2 slice (R380); a slice without sets has none. -/
def l2Assoc (s : State) (d : Nat) : Nat := if l2Sets s d = 0 then 0 else 16

/-- Makes room for a line in its set of an L2 slice (R380). -/
def makeWay2 (s : State) (d line : Nat) : State :=
  if (s.die d).line line != CacheLine.init || (s.die d).pinned.contains line then s
  else shrinkSet d line (l2Assoc s d - 1) (l2Ways s d line).length s

/-- A set of an L2 slice that holds more lines than it has ways gives them up: after its lines have come to share another set, or one of
them is pinned no longer (R377, R380). -/
def trimSet (s : State) (d line : Nat) : State := shrinkSet d line (l2Assoc s d) (l2Ways s d line).length s

/-- Changes a line of an L2 slice, which takes it in where it is absent; a slice without sets keeps only pinned lines. -/
def enterL2 (s : State) (d line : Nat) (f : CacheLine → CacheLine) : State :=
  trimSet (setL2 (makeWay2 s d line) d line (f ((s.die d).line line))) d line

/-! ## The L1 caches and the directory (R204, R381) -/

/-- Writes the dirty sectors of an L1 line back to its L2 home. A poisoned sector is not written, and stays (R219). -/
def flushL1 (s : State) (core line : Nat) : State :=
  let s := meetL1 s core line ((s.core core).line line).dirty
  let l := (s.core core).line line
  let out := maskMinus l.dirty l.poison
  if out = 0 then s
  else
    let s := enterL2 s (lineHome s line) line fun l2 => { dirtySectors l2 out fun i => Tab.get 0 l.behind i with used := s.stepNo + 1 }
    setL1 s core line { l with dirty := l.dirty &&& l.poison, behind := l.behind.filter fun (i, _) => l.poison.testBit i }

/-- The directory's entry of a line that an L1 no longer holds: none where no other L1 does (R381). -/
def noteGone (s : State) (core line : Nat) : State :=
  let d := dirOf s line
  let d := if d.writer = some core then { d with writer := none } else d
  setDir s line (if s.cores.any fun (_, c) => c.line line != CacheLine.init then d else DirEntry.init)

/-- Removes a line from an L1, written back first (R204). -/
def dropL1 (s : State) (core line : Nat) : State :=
  if (s.core core).line line = CacheLine.init then s
  else
    let s := flushL1 s core line
    noteGone (setL1 (forgetPoison s line ((s.core core).line line)) core line CacheLine.init) core line

/-- Invalidates a line in every L1 but one (R381). -/
def invalOthers (s : State) (line : Nat) (keep : Option Nat) : State :=
  s.cores.foldl (fun s (c, _) => if keep = some c then s else dropL1 s c line) s

/-- Writes a line's dirty sectors back from every L1. -/
def flushAll (s : State) (line : Nat) : State := s.cores.foldl (fun s (c, _) => flushL1 s c line) s

/-- Makes room for a line in its set of an L1: the least recently used of twelve ways is replaced (R204). -/
def makeWay (s : State) (core line : Nat) : State :=
  let ways := (s.core core).l1.filter fun (k, _) => k % 512 == line % 512
  if (s.core core).line line != CacheLine.init || ways.length < 12 then s
  else match (ways.map fun (_, l) => l.used).min?.bind fun u => ways.find? fun (_, l) => l.used == u with
    | none => s
    | some (k, _) => dropL1 s core k

/-- Sets of a die's directory: 48 MiB of 8-byte entries; the spec gives it sets but not their size, and sixteen ways serve (R372, R381;
log 96). -/
def dirSets : Nat := 393216

/-- Makes room for a line's entry in the directory of its home: with a full set, a line of it is invalidated in every L1, and its entry
goes (R381). -/
def makeEntry (s : State) (line : Nat) : State :=
  let h := lineHome s line
  let ways := (s.die h).dir.filter fun (k, _) => k % dirSets == line % dirSets
  if dirOf s line != DirEntry.init || ways.length < 16 then s
  else match ways.head? with
    | some (k, _) =>
      let s := invalOthers s k none
      s.setDie h { s.die h with dir := Tab.set DirEntry.init (s.die h).dir k DirEntry.init }
    | none => s

/-- A read of HBM bytes through a core's L1: sectors it lacks are filled from the L2 home, which fills from HBM (R204, R380). -/
def readThrough (s : State) (core pa n : Nat) : State :=
  (linesOf pa n).foldl (fun s line =>
    let m := sectorMask pa n line
    let l := (s.core core).line line
    if l.valid &&& m = m then setL1 s core line { l with used := s.stepNo + 1 }
    else
      let s := makeEntry (makeWay (flushAll s line) core line) line
      let s := enterL2 s (lineHome s line) line fun l2 => { l2 with valid := l2.valid ||| m, used := s.stepNo + 1 }
      let l := (s.core core).line line
      let s := setL1 s core line { l with valid := l.valid ||| m, used := s.stepNo + 1 }
      let d := dirOf s line
      setDir s line { clusters := d.clusters ||| 2 ^ clusterOf core, writer := if d.writer = some core then d.writer else none }) s

/-- A write of HBM bytes through a core's L1, called before the bytes are written: every other copy is invalidated (R204, R381). -/
def writeThrough (s : State) (core pa n : Nat) : State :=
  (linesOf pa n).foldl (fun s line =>
    let m := sectorMask pa n line
    let s := makeEntry (makeWay (invalOthers s line (some core)) core line) line
    let l := (s.core core).line line
    let s := setL1 s core line { dirtySectors l m (sectorBytes s line) with used := s.stepNo + 1 }
    setDir s line { clusters := 2 ^ clusterOf core, writer := some core }) s

/-- An access of HBM bytes at their L2 home itself: atomics, engines, walks, physical and remote accesses (R241, R385, R396, R438). -/
def homeTouch (s : State) (pa n : Nat) (write : Bool) : State :=
  (linesOf pa n).foldl (fun s line =>
    let m := sectorMask pa n line
    let s := if write then invalOthers s line none else flushAll s line
    let old := sectorBytes s line
    enterL2 s (lineHome s line) line fun l =>
      { (if write then dirtySectors l m old else { l with valid := l.valid ||| m }) with used := s.stepNo + 1 }) s

/-- Whether an L1 holds all sectors of some bytes. -/
def l1Has (s : State) (core pa n : Nat) : Bool := (linesOf pa n).all fun line =>
  let m := sectorMask pa n line
  ((s.core core).line line).valid &&& m == m
/-- Whether some cache holds all sectors of some bytes. -/
def cacheHas (s : State) (pa n : Nat) : Bool := (linesOf pa n).all fun line =>
  let m := sectorMask pa n line
  ((s.die (lineHome s line)).line line).valid &&& m == m || s.cores.any fun (_, c) => (c.line line).valid &&& m == m

/-- Sectors of a line that a run of bytes covers in part: a store fills them first (R204). -/
def partMask (pa n line : Nat) : Nat :=
  ((maskSectors (sectorMask pa n line)).filter fun i => let a := line * 128 + 16 * i; decide (a < pa) || decide (pa + n < a + 16)).foldl
    (fun a i => a ||| 2 ^ i) 0

/-- Whether an access to physical bytes must wait at its home: for a masked home not yet flushed, for a returning one that the access is
routed to, or for a fill from HBM of a die whose links are down (R421, R422). `routed` is the HOMEMASK under which it was routed; an access
without a route of its own goes to a returning home. It waits on its way while no link leads from the die that issues it (R395; log 99). -/
def homeHolds (s : State) (pa n : Nat) (write : Bool := false) (routed : Nat := 0) (die : Option Nat := none) : Bool :=
  (linesOf pa n).any fun line =>
  let raw := rawHome (line * 128)
  let st := resetStage s raw
  let need := if write then partMask pa n line else sectorMask pa n line
  st == 2 || (st == 7 && !routed.testBit raw) || (die.any fun d => !dieReach s d (lineHome s line)) ||
    (stackDown s line && maskMinus need ((s.die (lineHome s line)).line line).valid != 0)

/-- The first line of an access that is stray: its home has changed since it was routed, and it does not wait at a returning home (R421,
R422). -/
def strayLine (s : State) (routed pa n : Nat) : Option Nat := (linesOf pa n).find? fun line =>
  let a := line * 128
  homeUnder (word routed) a != homeOf s a && !(resetStage s (rawHome a) == 7 && !routed.testBit (rawHome a))

/-- Whether a line may not yet be written back: no link leads to its home from the die that asks, or a cache holds it dirty, and the links of
its stack are down (R395, R421). -/
def cleanHolds (s : State) (line : Nat) (die : Option Nat := none) : Bool :=
  (die.any fun d => !dieReach s d (lineHome s line)) || stackDown s line && (((s.die (lineHome s line)).line line).dirty != 0 || s.cores.any fun (_, c) => (c.line line).dirty != 0)

/-! ## Errors (R219, R375, R415) -/

/-- Corrects the single-bit errors met in a range of memory and counts them (R219, R415). -/
def correct (s : State) (a n : Nat) : State :=
  let hit := fun g => decide (a < g + 8) && decide (g < a + n)
  s.soft.foldl (fun s e => match e with
    | .scr core off false =>
      if hit (scrAddr core off) then
        let c := s.core core
        logCorrected { s.setCore core { c with eccScr := min (c.eccScr + 1) 65535 } with soft := s.soft.erase e } (dieOf core)
      else s
    | .cellar die off false => if hit (celAddr die off) then logCorrected { s with soft := s.soft.erase e } die else s
    | .hbm addr false => if hit addr then logCorrected { s with soft := s.soft.erase e } (addr / 2 ^ 37) else s
    | _ => s) s

/-- The errors of cached sectors that an access of a core meets, in its L1 and, where that does not serve it, in the dirty sectors that other
L1s write back for it, and at the L2 homes. -/
def meetCacheErrors (s : State) (core : Option Nat) (pa n : Nat) : State :=
  (linesOf pa n).foldl (fun s line =>
    let m := sectorMask pa n line
    let s := match core with
      | some c => meetL1 s c line m
      | none => s
    if core.any fun c => l1Has s c pa n then s
    else
      let s := s.cores.foldl (fun s (c, x) => meetL1 s c line (m &&& (x.line line).dirty)) s
      meetL2 s (lineHome s line) line m) s

/-- Whether a read of a core, or at the home, meets a poisoned sector: of any L1, which holds the only copy, or of the L2 that serves
it. -/
def poisoned (s : State) (core : Option Nat) (pa n : Nat) : Bool := (linesOf pa n).any fun line =>
  let m := sectorMask pa n line
  (s.cores.any fun (_, c) => (c.line line).poison &&& m != 0) ||
    (!(core.any fun c => l1Has s c pa n) && ((s.die (lineHome s line)).line line).poison &&& m != 0)

/-- Whether a cache holds, in the lines of a run of physical bytes, a sector whose only copy is lost: a poisoned one, or a dirty one with an
uncorrectable error not yet met (R219, R459). -/
def cacheErrors (s : State) (pa n : Nat) : Bool :=
  let inside := fun (line : Nat) => decide (pa < line * 128 + 128) && decide (line * 128 < pa + n)
  (s.cores.any fun (_, c) => c.l1.any fun (k, l) => inside k && l.poison != 0) ||
    (s.dies.any fun d => d.l2.any fun (k, l) => inside k && l.poison != 0) ||
    s.soft.any fun e => match e with
      | .l1 c line sector hard => hard && inside line && ((s.core c).line line).dirty.testBit sector
      | .l2 d line sector hard => hard && inside line && ((s.die d).line line).dirty.testBit sector
      | .slot _ _ _ | .scr _ _ _ | .cellar _ _ _ | .hbm _ _ | .obuf _ _ _ _ | .store _ _ _ => false

/-- Whether a store to cellar or HBM bytes meets an uncorrectable error in what it covers only in part: a granule of the cellar, or a
sector that must be filled and that no cache holds (R204, R375, R415). -/
def storeMeets (s : State) (a n : Nat) : Bool :=
  if celBase ≤ a then
    (a % 8 != 0 && hasHardError s (a / 8 * 8) 8) || ((a + n) % 8 != 0 && hasHardError s ((a + n) / 8 * 8) 8)
  else if scrBase ≤ a then false
  else (linesOf a n).any fun line => (maskSectors (partMask a n line)).any fun i =>
    let b := line * 128 + 16 * i
    !cacheHas s b 16 && hasHardError s b 16

/-! ## Engine register words (R398) -/

/-- The handle and the word number of an address in the engine register blocks; none where no word stands. -/
def engineWordAt (a : Nat) : Option (Nat × Nat) :=
  let x := a - 0xE000000000000
  if inEngineRegs a 1 && decide (x / 0x1000 % 16 < 4) && decide (x % 0x1000 < 0x100) then
    some (x / 0x10000 * 64 + x / 0x1000 % 16 * 16 + x % 0x1000 / 16, x % 16 / 8)
  else none

/-- The value of an engine register word. -/
def engineWordValue (s : State) (h i : Nat) : W64 := if i = 0 then (s.engine h).ectx else word (s.engine h).etl

/-- Who accesses: a context of an element, or a steward-mode core. -/
inductive Issuer
  | firing (core image : Nat)
  | stew (n : Nat)
  | engine
  deriving DecidableEq, Repr

/-- A write of ECTX (R398): only the die service core of the stack's die and the reeve; not while an operation is queued. -/
def writeEctx (s : State) (who : Issuer) (h : Nat) (v : W64) : Except Why State :=
  let may := match who with
    | .stew n => n == 20 || n == 16 + h / 64 / 2
    | .firing _ _ => false
    | .engine => false
  let e := s.engine h
  if !may then .error (Cause.priv, 0)
  else if !e.queue.isEmpty then .error (Cause.engbind, word h)
  else .ok (s.setEngine h { e with ectx := setBits v 38 0 0, faillo := if bitOf v 63 then 0 else e.faillo })

/-! ## Plain reads and writes -/

/-- A read of `n` bytes at an address of the numbering of memory. `ea` is the address that a record names, that of a poisoned sector too
(log 102); `l1` is the core through whose L1 the read goes, none for a read at the home. -/
def readAt (s : State) (who : Issuer) (l1 : Option Nat) (a n ea : Nat) : State × Except Why Nat :=
  if celBase ≤ a then
    let s := correct s a n
    if hasHardError s a n then
      let d := (a - celBase) / 2 ^ 30
      (s.setDie d { s.die d with eccLog := (s.die d).eccLog + 1 }, .error (Cause.memecc, word ea))
    else (s, .ok (s.readNum a n))
  else if scrBase ≤ a then
    let s := correct s a n
    if hasHardError s a n then (s, .error (Cause.screcc, word ((a - scrBase) % 2 ^ 19))) else (s, .ok (s.readNum a n))
  else if inHbm a n then
    let s := meetCacheErrors s l1 a n
    if poisoned s l1 a n then (s, .error (Cause.screcc, word ea))
    else if !(l1.any fun c => l1Has s c a n) && !cacheHas s a n && hasHardError (correct s a n) a n then
      (correct s a n, .error (Cause.memecc, word ea))
    else
      let s := correct s a n
      (match l1 with | some c => readThrough s c a n | none => homeTouch s a n false, .ok (s.readNum a n))
  else if inFlash a n then (s, .ok (s.readNum a n))
  else match engineWordAt a with
    | some (h, i) => match who with
      | .stew _ => (s, .ok (low (8 * n) ((engineWordValue s h i).toNat >>> (8 * (a % 8)))))
      | .firing _ _ => (s, .error (Cause.priv, word ea))
      | .engine => (s, .error (Cause.permflt, word ea))
    | none => (s, .error (Cause.spaceoob, word ea))

/-- Whether bytes of the numbering of memory are stored as bytes: a scratchpad's, a cellar's, or HBM's. -/
def holdsBytes (a n : Nat) : Bool := decide (scrBase ≤ a) || inHbm a n

/-- What comes before bytes are stored: an error in what the store covers in part fails it, and the caches take HBM bytes in. -/
def enterStore (s : State) (l1 : Option Nat) (a n ea : Nat) : State × Except Why Unit :=
  if storeMeets s a n then
    let d := (a - celBase) / 2 ^ 30
    (if celBase ≤ a then s.setDie d { s.die d with eccLog := (s.die d).eccLog + 1 } else s, .error (Cause.memecc, word ea))
  else if scrBase ≤ a then (s, .ok ())
  else (match l1 with | some c => writeThrough s c a n | none => homeTouch s a n true, .ok ())

/-- A write of bytes at an address of the numbering of memory. -/
def writeAt (s : State) (who : Issuer) (l1 : Option Nat) (a : Nat) (bs : List Byte) (ea : Nat) : State × Except Why Unit :=
  let n := bs.length
  if holdsBytes a n then match enterStore s l1 a n ea with
    | (s, .ok ()) => (storeBytes s a bs, .ok ())
    | (s, .error w) => (s, .error w)
  else if inFlash a n then (s, .error (Cause.permflt, word ea))
  else match engineWordAt a with
    | some (h, 0) =>
      let old := (s.engine h).ectx.toNat
      let sh := 8 * (a % 8)
      let v := old - low (8 * n) (old >>> sh) * 2 ^ sh + numOfBytes bs * 2 ^ sh
      match who with
      | .engine => (s, .error (Cause.permflt, word ea))
      | .firing _ _ => (s, .error (Cause.priv, word ea))
      | .stew _ => match writeEctx s who h (word v) with
        | .ok s => (s, .ok ())
        | .error w => (s, .error w)
    | some (_, _) => (s, .error (Cause.priv, word ea))
    | none => (s, .error (Cause.spaceoob, word ea))

/-! ## The status page (R388) -/

/-- The region-table entry of an image on a die. -/
def regionEntry (s : State) (d image : Nat) : Option W64 :=
  ((s.die d).region.map Prod.snd).find? fun w => bitOf w 63 && bits w 47 32 == image

/-- DSTAT of a die. -/
def dstat (s : State) (d : Nat) : Nat :=
  ofBool (s.die d).celhot * 2 ^ 63 + d * 2 ^ 12 + bits s.pkg.homemask 3 0 * 2 ^ 8 + bits (s.die d).celsplit 6 4 * 2 ^ 4 + splitOf s d

/-- A word of the status page, read on a die for an image, or for a steward-mode core. -/
def statusWord (s : State) (d : Nat) (image : Option Nat) (off : Nat) : Nat :=
  let x := s.die d
  if off = 0x000 then dstat s d
  else if off = 0x008 then x.ewin.toNat
  else if off = 0x010 then match image with
    | some i => if (regionEntry s d i).isSome then Tab.get 0 x.eused i / 1024 else 0
    | none => 0
  else if off = 0x018 then match image with
    | some i => ((regionEntry s d i).map fun w => ofBool (x.lean.contains i) * 2 ^ 63 + bits w 31 0).getD 0
    | none => 0
  else if off = 0x060 then x.hlimit.toNat
  else x.emc.getD ((off - 0x040) / 8) 0 / 1024

/-! ## Atomics (R240) -/

/-- The new value of an atomic of `w` bits. -/
def atomNew (aop w : Nat) (m : BitVec 2) (old v cmp : Nat) : Nat :=
  let a := low w old
  let b := low w v
  if aop = 0 then low w (a + b)
  else if aop = 1 then a &&& b
  else if aop = 2 then a ||| b
  else if aop = 3 then a ^^^ b
  else if aop = 4 then (if signed w b < signed w a then b else a)
  else if aop = 5 then (if signed w a < signed w b then b else a)
  else if aop = 6 then min a b
  else if aop = 7 then max a b
  else if aop = 8 then b
  else if aop = 9 then (if a = low w cmp then b else a)
  else if aop = 10 then fadd .f32 m a b
  else fadd .bf16 m a b

/-- An atomic at its home: the read and the write are one. -/
def atomAt (s : State) (who : Issuer) (a n ea aop : Nat) (m : BitVec 2) (v cmp : Nat) : State × Except Why Nat :=
  match readAt s who none a n ea with
  | (s, .error w) => (s, .error w)
  | (s, .ok old) => match writeAt s who none a (bytesOfNum n (atomNew aop (8 * n) m old v cmp)) ea with
    | (s, .error w) => (s, .error w)
    | (s, .ok ()) => (s, .ok old)

/-! ## Lines (R242) -/

/-- CLEAN: every dirty sector of a line, from every cache, to HBM. -/
def cleanLine (s : State) (line : Nat) : State :=
  let s := flushAll s line
  flushL2 s (lineHome s line) line
/-- INVAL: CLEAN, and then the line leaves every L1, the L2 and the pinned partition. -/
def invalLine (s : State) (line : Nat) : State :=
  let s := invalOthers (cleanLine s line) line none
  let s := evictL2 s (lineHome s line) line
  let d := s.die (lineHome s line)
  s.setDie (lineHome s line) { d with pinned := d.pinned.filter fun l => l != line }
/-- A line leaves a steward-mode core's instruction cache (R335). -/
def invalIcache (s : State) (n line : Nat) : State :=
  let st := s.stew n
  s.setStew n { st with icache := st.icache.filter fun (a, _) => a / 128 != line }

/-! ## Replies and outcomes (R103, R185, R229) -/

/-- Changes the release of a request: its outcome is known. -/
def settle (s : State) (r : Req) (taint : Bool) : State :=
  mapRelease s r.elem r.rel fun x => { x with out := x.out.filter fun o => o.ord != r.ord, taint := x.taint || taint }

/-- The core that sends the replies of a request: the one whose scratchpad served it, or its own for its node's own work; none where a
unit beyond the mesh, which sends with tenant 0, replies (R326, log 18). -/
def replyCore (r : Req) : Option Nat := match r.kind with
  | .copy | .istrm | .tlwait | .tlrd | .wpwait | .coll | .rld | .rst | .ratom | .join | .leave | .ownq => none
  | .fence | .ordt | .sheaf | .pref | .clean | .inval | .watch => some (coreOf r.elem)
  | .ld | .st | .ldp | .stp | .clrp | .atom | .atomr | .ldv | .stv | .gathv | .scatv | .strm | .strmq =>
    if r.space = 0 then some (coreOf r.elem)
    else if r.space = 1 then some ((r.pas.headD scrBase - scrBase) / 2 ^ 19)
    else none

/-- First element number of the mark for a steward-mode core as the issuer of a request. -/
def stewMark : Nat := 2 ^ 16

/-- The element number of a request that another device sent here. -/
def outsideMark : Nat := 2 ^ 17

/-- What is done for a request of this device is metered: to its context's image, or as a steward's activity (R389; log 8). -/
def chargeReq (s : State) (r : Req) : State :=
  if outsideMark ≤ r.elem then s
  else if stewMark ≤ r.elem then chargeUnits s (stewCluster (r.elem - stewMark)) none
  else chargeUnits s (clusterOf (coreOf r.elem)) (some (ctxImage s r.elem r.ctx))

/-- Sends the replies of a request from a core: the value, and TAINT; what the networks spend is metered (R389). -/
def sendReply (s : State) (r : Req) (v : Vec) (taint : Bool) (origin : Option Nat := replyCore r) : State :=
  r.reply.foldl (fun s t =>
    launch s { t with payload := if r.net = 2 then BitVec.ofNat 2048 (low 64 v.toNat) else v,
                      h1 := if taint then setBits t.h1 21 21 1 else t.h1 } (some (r.elem, r.route)) r.net origin)
    (if r.reply.isEmpty then s else chargeReq s r)

/-- Ends a steward-mode core's wait for an access: D and the next instruction, or the trap (R231). -/
def stewDone (s : State) (n : Nat) (v : Nat) : State :=
  let st := s.stew n
  match st.waiting with
  | some (_, d) =>
    let x := (Agent.stew n { st with waiting := none, pc := st.pc + 8 }).setScalar (Spec.ofCode d) v
    x.store s
  | none => s

/-- A request has been performed: the reply leaves and the outcome is known. -/
def completeReq (s : State) (r : Req) (v : Vec) (taint : Bool := false) : State :=
  if outsideMark ≤ r.elem then { s with out := .answer r.dev v taint :: s.out }
  else if stewMark ≤ r.elem then stewDone (chargeReq s r) (r.elem - stewMark) (low 64 v.toNat)
  else settle (sendReply s r v taint) r false

/-- A request has failed (R229): a record to the handler, a tainted zero reply, a tainted decrement. The answer to another device
carries the cause and the DETAIL of the record that its handler gets. The reply to a request that a hedge dropped comes from the
requester's own node (R229, R327, log 18). -/
def failReq (s : State) (r : Req) (w : Why) : State :=
  if outsideMark ≤ r.elem then { s with out := .answer r.dev (BitVec.ofNat 2048 (w.1 * 2 ^ 64 + w.2.toNat)) true :: s.out }
  else if stewMark ≤ r.elem then
    let n := r.elem - stewMark
    stewTrap s n w.1 0 w.2 (s.stew n).pc
  else
    let s := asyncRecord s w.1 r.elem r.ctx r.ent r.slot r.ts w.2
    settle (sendReply s r 0 true (if w.1 = Cause.hedgedrop then some (coreOf r.elem) else replyCore r)) r true

/-- The page number of a virtual address. -/
def pageOfVa (va : Nat) : Nat := va / 2 ^ 16 % 2 ^ 40
/-- Changes the signpost of a page. -/
def mapSignpost (s : State) (page : Nat) (f : Signpost → Signpost) : State :=
  { s with pkg := { s.pkg with signposts := s.pkg.signposts.map fun x => if x.page = page then f x else x } }

/-- Sends a request to another device, where its answer is awaited (R430, R438); an access to a page that waits for its migration joins the
page's relay queue here, and is awaited as well (R458). -/
def sendAway (s : State) (r : Req) : State :=
  if r.dev = s.devId then
    mapSignpost { s with pkg := { s.pkg with outstanding := s.pkg.outstanding ++ [r] } } (pageOfVa r.ea) fun x => { x with queue := x.queue ++ [r] }
  else
    { s with pkg := { s.pkg with outstanding := s.pkg.outstanding ++ [r] },
             out := .request ((devicePort s r.dev).getD 0) r.dev r :: s.out }

/-! ## Addresses of a request -/

/-- Whether a request addresses a lane at a time. -/
def ReqKind.gathers : ReqKind → Bool
  | .gathv => true
  | .scatv => true
  | .ld | .st | .ldp | .stp | .clrp | .atom | .atomr | .pref | .clean | .inval | .watch | .fence | .ldv | .stv | .strm | .strmq
  | .wpwait | .ordt | .copy | .istrm | .tlwait | .tlrd | .coll | .rld | .rst | .ratom | .join | .leave | .ownq | .sheaf => false

/-- Stands for an address of a request that is not yet mapped. -/
def unmapped : Nat := 2 ^ 62
/-- Stands for an address of a request at which it has been performed. -/
def performed : Nat := 2 ^ 62 + 1

/-- The effective address of lane i of a gather (R235). -/
def laneEa (base n : Nat) (ix : Vec) (i : Nat) : Nat := wrapInt 64 (base + signed 32 (lane ix i) * n)

/-- The effective addresses of a request: one, or one for each lane. -/
def Req.eas (r : Req) : List Nat :=
  if r.kind.gathers then (List.range 64).map (laneEa r.ea r.size r.data) else [r.ea]

/-- The far block of a stream that stands at `done`: never across a 256-byte boundary (R248). -/
def streamBlock (ea len done : Nat) : Nat × Nat := (ea + done, min (len - done) (256 - (ea + done) % 256))

/-- The bytes of a request from each of its addresses on. -/
def Req.span (r : Req) : Nat := match r.kind with
  | .strm | .strmq => bits r.cmp 63 32
  | .pref | .clean | .inval => 128
  | _ => r.size

/-- What a request needs of a page or window. -/
def ReqKind.need : ReqKind → Need
  | .st | .stp | .clrp | .stv | .scatv | .clean | .inval | .strmq | .rst => .write
  | .atom | .atomr | .ratom => .atomic
  | .ld | .ldp | .pref | .watch | .fence | .ldv | .gathv | .strm | .wpwait | .ordt | .copy | .istrm | .tlwait | .tlrd | .coll
  | .rld | .join | .leave | .ownq | .sheaf => .read

/-- The runs of bytes that a request touches: space, first byte, length. A stream also touches its scratchpad range (R247). -/
def Req.runs (r : Req) : List (Nat × Nat × Nat) :=
  let far := r.eas.map fun a => (r.space, a, r.span)
  if r.kind = .strm ∨ r.kind = .strmq then (0, bits r.cmp 18 0, r.span) :: far else far

/-- The device that RLD, RST or RATOM names; none for every other request. -/
def Req.target (r : Req) : Option Nat := if r.kind = .rld ∨ r.kind = .rst ∨ r.kind = .ratom then some r.dev else none

/-- Whether two lists of runs of bytes have a byte of one space in common. -/
def runsMeet (l m : List (Nat × Nat × Nat)) : Bool := l.any fun (sp, a, n) => m.any fun (sq, b, k) =>
  sp == sq && decide (0 < n) && decide (0 < k) && decide (a < b + k) && decide (b < a + n)

end Sys2Proof.Machine
end

