-- ==== Sys2Proof/Machine/Walk.lean ====
section
/-! DEFINITION. The translation of GLB addresses: the radix walk and the TLB (R382 to R386), the owner cache (R455), and the windows
(R210, R211). -/

namespace Sys2Proof.Machine

/-! ## The radix walk -/

/-- How a walk ends (R385). -/
inductive Walked
  | leaf (base size : Nat) (w : W64)
  | fault
  | ecc
  /-- The home of an entry holds the read (R421). -/
  | wait
  deriving DecidableEq, Repr

/-- A level of the table: the shift of its index, the index width, whether a leaf may stand there, and whether a table pointer
may, with the size of the table it points to. -/
structure Level where
  shift : Nat
  width : Nat
  leafOk : Bool
  next : Option Nat
  deriving DecidableEq, Repr

/-- The four levels of R383. -/
def radix : List Level :=
  [⟨39, 17, false, some 4096⟩, ⟨30, 9, true, some 4096⟩, ⟨21, 9, true, some 256⟩, ⟨16, 5, true, none⟩]

/-- Walks the levels of a table for a virtual address on a die: each entry is a read through the coherent L2 (R383 to R385). -/
def walkLevels (d va : Nat) : List Level → State → Nat → State × Walked
  | [], s, _ => (s, .fault)
  | l :: rest, s, table =>
    let a := table + va / 2 ^ l.shift % 2 ^ l.width * 8
    if inHbm a 8 && homeHolds s a 8 (die := some d) then (s, .wait)
    else match readAt s .engine none a 8 a with
    | (s, .error w) => (s, if w.1 = Cause.memecc ∨ w.1 = Cause.screcc then .ecc else .fault)
    | (s, .ok v) =>
      let w := word v
      let addr := bits w 51 12 * 4096
      if !bitOf w 63 || bits w 58 52 != 0 || bits w 11 0 != 0 then (s, .fault)
      else if bitOf w 62 then
        let size := 2 ^ l.shift
        (s, if l.leafOk && addr % size == 0 && physExists addr size then .leaf (va / size * size) size w else .fault)
      else match l.next with
        | none => (s, .fault)
        | some n => if addr % n == 0 && physExists addr n then walkLevels d va rest s addr else (s, .fault)

/-- The walk of a tenant's table on a die (R385, R391). -/
def walk (s : State) (d ten va : Nat) : State × Walked :=
  let r := Tab.get 0 (s.die d).ttroot ten
  let root := bits r 51 20 * 2 ^ 20
  if !bitOf r 63 || !physExists root (2 ^ 20) then (s, .fault) else walkLevels d va radix s root

/-- The TLB entry of a page under a tenant. -/
def tlbHit (s : State) (d ten va : Nat) : Option TlbEntry :=
  if Config.tlbKeeps s.stepNo then
    (s.die d).tlb.find? fun t => t.ten == ten && decide (t.base ≤ va) && decide (va < t.base + t.size)
  else none

/-- Enters a leaf into a die's TLB, in place of what covers the page (R385, R386). -/
def tlbTake (s : State) (d : Nat) (t : TlbEntry) : State :=
  let x := s.die d
  let rest := x.tlb.filter fun u => !(u.ten == t.ten && decide (u.base < t.base + t.size) && decide (t.base < u.base + u.size))
  s.setDie d { x with tlb := (t :: rest).take 65536 }

/-- What a GLB access of one run of bytes comes to. -/
inductive Resolved
  | at (a : Nat)
  | wait
  | fail (why : Why)
  deriving DecidableEq, Repr

/-- Translates a local GLB address on a die under a tenant: the physical address, a wait, or the failure of R385. The TLB takes a leaf
that permits the access, and the leaf of a walk that a hit without the permission asked for. -/
def translate (s : State) (d ten va : Nat) (need : Need) : State × Resolved :=
  let fresh := fun (hit : Bool) => match walk s d ten va with
    | (s, .fault) => (s, Resolved.fail (Cause.pageflt, word va))
    | (s, .ecc) => (s, Resolved.fail (Cause.memecc, word va))
    | (s, .wait) => (s, Resolved.wait)
    | (s, .leaf base size w) =>
      let s := if hit || leafPermits w need then tlbTake s d { ten := ten, base := base, size := size, leaf := w } else s
      (s, if leafPermits w need then .at (bits w 51 12 * 4096 + (va - base)) else .fail (Cause.permflt, word va))
  match (s.die d).tlb with
  | [] => fresh false
  | _ :: _ => match tlbHit s d ten va with
    | some t => if leafPermits t.leaf need then (s, .at (bits t.leaf 51 12 * 4096 + (va - t.base))) else fresh true
    | none => fresh false

/-! ## The owner cache -/

/-- Whether a request goes through windows and translation. -/
def ReqKind.mapsGlb : ReqKind → Bool
  | .ld | .st | .ldp | .stp | .clrp | .atom | .atomr | .pref | .clean | .inval | .watch | .ldv | .stv | .gathv | .scatv
  | .strm | .strmq => true
  | .fence | .wpwait | .ordt | .copy | .istrm | .tlwait | .tlrd | .coll | .rld | .rst | .ratom | .join | .leave | .ownq
  | .sheaf => false

/-- Whether a request is a stream. -/
def ReqKind.streams : ReqKind → Bool
  | .strm | .strmq => true
  | .ld | .st | .ldp | .stp | .clrp | .atom | .atomr | .pref | .clean | .inval | .watch | .ldv | .stv | .gathv | .scatv
  | .fence | .wpwait | .ordt | .copy | .istrm | .tlwait | .tlrd | .coll | .rld | .rst | .ratom | .join | .leave | .ownq
  | .sheaf => false

/-- Whether an address is another device's. -/
def isRemote (a : Nat) : Bool := decide (remoteBase ≤ a) && decide (a < 2 ^ 61)

/-- The addresses of a request as they are mapped, each with its effective address: of a stream those of its next granule. -/
def Req.places (r : Req) : List (Nat × Nat) := if r.kind.streams then r.pas.map fun a => (a, r.ea + r.done) else r.pas.zip r.eas

/-- Whether a request in a port has been resolved to go to a device for some byte of a page, and has not gone there. -/
def Req.bound (r : Req) (page : Nat) : Bool := r.places.any fun (a, ea) => isRemote a && fabricGlobal ea && pageOfVa ea == page

/-- The address that the walk of a request is about: the first unmapped one, and its place. -/
def walkAddress (r : Req) : Nat × Nat :=
  if r.kind.streams then (0, r.ea + r.done)
  else
    let i := r.pas.findIdx fun a => a == unmapped
    (i, r.eas.getD i 0)

/-- Whether the request at a place of a port may go on: a HELD port lets only those ahead of the kept one (R212). -/
def mayGo (p : Port) (k : Nat) : Bool := match p.kept with
  | none => true
  | some q => !p.held || decide (k < p.reqs.findIdx fun r => r.ord == q.ord)

/-- The owner-cache entry of a page under a tenant on a die. -/
def ownerEntry (s : State) (d ten page : Nat) : Option OwnerEntry :=
  (s.die d).owner.find? fun o => o.ten == ten && o.page == page

/-- Changes the owner-cache entry of a page under a tenant on a die. -/
def mapOwner (s : State) (d ten page : Nat) (f : OwnerEntry → OwnerEntry) : State :=
  let x := s.die d
  s.setDie d { x with owner := x.owner.map fun o => if o.ten = ten ∧ o.page = page then f o else o }

/-- An owner-cache entry becomes the most recently used of its die (R455). -/
def touchOwner (s : State) (d : Nat) (o : OwnerEntry) : State :=
  let x := s.die d
  s.setDie d { x with owner := o :: x.owner.erase o }

/-- Where the owner of a fabric-global page is: here, another device, or not yet known, when the access waits (R455, R461). This device stands as
another one for a page whose relay queue takes its accesses (R458). -/
inductive Owner
  | here
  | other (dev : Nat)
  | unknown
  deriving DecidableEq, Repr

/-- Whether this device holds a page frozen for a migration: no new access is admitted (R458). -/
def frozenHere (s : State) (page : Nat) : Bool := s.pkg.migrations.any fun m => m.page == page && m.phase == .frozen

/-- The signpost of a page on this device. -/
def signpostOf (s : State) (page : Nat) : Option Signpost := s.pkg.signposts.find? fun x => x.page == page

/-- Whether this device is the home of a page. -/
def homesPage (s : State) (page : Nat) : Bool := homeDevice s page == s.devId
/-- The home map entry of a page, with the home as owner where there is none. -/
def pageEntry (s : State) (page : Nat) : PageEntry :=
  let p := Tab.get PageEntry.init s.pkg.pages page
  if p = PageEntry.init then { p with owner := s.devId } else p
/-- Whether this device owns a page. -/
def ownsPage (s : State) (page : Nat) : Bool :=
  if homesPage s page then (pageEntry s page).owner == s.devId else s.pkg.owned.contains page
/-- Whether accesses to a page that reach this device join its relay queue: the page is frozen, others of the freeze still wait there, or its signpost
names another owner (R458 to R460). -/
def queues (s : State) (page : Nat) : Bool := frozenHere s page || (signpostOf s page).any fun x => x.owner != s.devId || !x.queue.isEmpty
/-- Whether the relay queue of a page has room (R458). -/
def queueRoom (s : State) (page : Nat) : Bool := (signpostOf s page).any fun x => decide (x.queue.length < 256)

/-- Asks the home of a page, where it is another device, for its owner (R455). -/
def askHome (s : State) (ten page : Nat) : State :=
  let home := homeDevice s page
  if home = s.devId then s else { s with out := .message 13 home page ten 0 :: s.out }

/-- Starts a die's lookup of a page under a tenant, unless it is in flight or 64 are (R455). -/
def startLookup (s : State) (d ten page : Nat) : State :=
  let x := s.die d
  if x.lookups.contains (page, ten) || decide (64 ≤ x.lookups.length) then s
  else askHome (s.setDie d { x with lookups := x.lookups ++ [(page, ten)] }) ten page

/-- Whether an access that stands in the line of an owner-cache entry still waits there: what wants it stands where it did, and has not sent it. -/
def stillWaits (s : State) : Waiter → Bool
  | .request _ => false
  | .steward n pc => (s.stew n).pc == pc && (s.stew n).waiting.isNone && !(s.stew n).halted
  | .engine h num done writes => !(s.pkg.outstanding.any fun r => r.parent == some (.engine h)) &&
      (s.engine h).queue.head?.any fun op =>
        op.num == num && op.done == done && op.block.isSome == writes && !op.written && op.failed.isNone
  | .collective mid ts done part => !(s.pkg.outstanding.any fun r => r.parent == some (.coll mid ts) && r.part == part) &&
      s.pkg.collectives.any fun c => c.mid == mid && c.ts == ts && c.done == done && !c.failed &&
        !(if part % 2 = 0 then c.read.any fun x => x.1 == part / 2 else c.wrote.contains (part / 2))

/-- The number of an access in the order of the requests of its die: of a request its own, of another one that which it has in the line. -/
def OwnerEntry.ticket (o : OwnerEntry) : Waiter → Option Nat
  | .request ord => some ord
  | w => (o.line.find? fun x => x.2 == w).map Prod.fst

/-- Whether an access waits behind an older one of its die and tenant to the same page: those that waited while the owner-cache entry was
CLOSED leave in their order (R461). -/
def waitsBehind (s : State) (d : Nat) (o : OwnerEntry) (w : Waiter) : Bool :=
  let before := fun (t : Nat) => decide (t < o.reopened) && (o.ticket w).all fun u => decide (t < u)
  (o.line.any fun (t, v) => before t && stillWaits s v) ||
    s.cores.any fun (c, x) => dieOf c == d && tenantOf s c == o.ten && x.ports.any fun p => p.reqs.zipIdx.any fun (q, k) =>
      before q.ord && mayGo p k &&
        (q.bound o.page || (q.stage == .walking && fabricGlobal (walkAddress q).2 && pageOfVa (walkAddress q).2 == o.page))

/-- An access that waits takes its place in the line of an owner-cache entry, unless it stands there or is a request of a port. -/
def joinLine (s : State) (d : Nat) (o : OwnerEntry) (w : Waiter) : State :=
  if (o.ticket w).isSome then s
  else
    let s := mapOwner s d o.ten o.page fun x => { x with line := (x.line.filter fun y => stillWaits s y.2) ++ [(s.fresh, w)] }
    { s with fresh := s.fresh + 1 }

/-- An access leaves the line of an owner-cache entry. -/
def leaveLine (s : State) (d : Nat) (o : OwnerEntry) (w : Waiter) : State :=
  if o.line.any fun x => x.2 == w then mapOwner s d o.ten o.page fun x => { x with line := x.line.filter fun y => y.2 != w } else s

/-- Whether a CLOSED entry lets an access through that had hit it before (R461; log 131). -/
def OwnerEntry.admits (o : OwnerEntry) : Waiter → Bool
  | .request ord => o.ajar && o.early.contains ord
  | .steward _ _ | .engine _ _ _ _ | .collective _ _ _ _ => false

/-- An access that found this device named as the owner, which neither owns the page nor holds a signpost for it, is answered CONSULT: its entry
is CLOSED and awaits the home's answer, for which the access waits (R460, R461). -/
def consultHere (s : State) (d : Nat) (o : OwnerEntry) (w : Waiter) : State :=
  let s := startLookup (mapOwner s d o.ten o.page fun x => { x with closed := true, ajar := false, awaits := true }) d o.ten o.page
  joinLine s d { o with closed := true, awaits := true } w

/-- The owner-cache lookup of an access (R455): a miss starts a lookup, and so does an entry that awaits the home's answer. Behind a CLOSED
entry, and behind accesses that waited there, it waits in its order (R461). Where the entry names this device, the access joins the page's relay queue while
it is frozen or its signpost names another owner, and is performed here only while this device owns the page (R458, R460). -/
def lookupOwner (s : State) (d ten page : Nat) (w : Waiter) : State × Owner := match ownerEntry s d ten page with
  | some o =>
    let s := touchOwner s d o
    if (o.closed && !o.admits w) || o.awaits then (joinLine (if o.awaits then startLookup s d ten page else s) d o w, .unknown)
    else if !o.admits w && waitsBehind s d o w then (s, .unknown)
    else
    let s := leaveLine s d o w
    if o.owner = s.devId then
      (if queues s page then (s, if queueRoom s page then .other s.devId else .unknown)
       else if ownsPage s page then (s, .here)
       else (consultHere s d o w, .unknown))
    else (s, .other o.owner)
  | none => (startLookup s d ten page, .unknown)

/-- Whether a request, by its number, that was resolved to a device may still go there: the owner cache has not closed or changed since, and this device's relay queue
still takes it (R458, R461). -/
def stillOwned (s : State) (d ten page dev ord : Nat) : Bool :=
  ((ownerEntry s d ten page).any fun o => o.owner == dev && (!o.closed || o.admits (.request ord)) && !o.awaits) && (dev != s.devId || (queues s page && queueRoom s page))

/-! ## The resolution of a GLB access -/

/-- Resolves a GLB address that no window serves (R382, R388, R453, R455). -/
def resolveGlb (s : State) (d ten va : Nat) (need : Need) (isLd8 : Bool) (w : Waiter) : State × Resolved :=
  if statusBase ≤ va then
    if isLd8 && [0x000, 0x008, 0x010, 0x018, 0x040, 0x048, 0x050, 0x058, 0x060].contains (va % 2 ^ 16) then (s, .at (statusAddr va))
    else (s, .fail (Cause.permflt, word va))
  else
    if fabricGlobal va then match lookupOwner s d ten (va / 2 ^ 16) w with
      | (s, .here) => translate s d ten va need
      | (s, .other dev) => if deadPeer s dev then (s, .fail (Cause.deadpeer, word dev)) else (s, .at (remoteBase + dev))
      | (s, .unknown) => (s, .wait)
    else translate s d ten va need

/-- The windows of a port as the port checks them: the window of the lowest slot that hits (R210). -/
def windowHit (c : Core) (port image va n : Nat) : Option Nat :=
  ((List.range 4).map fun k => port * 4 + k).find? fun i =>
    let v := Tab.get 0 c.wva i
    let l := Tab.get 0 c.wlen i
    bitOf v 63 && bits l 63 48 == image && decide (bits v 55 8 * 256 ≤ va) &&
      decide (va + n ≤ bits v 55 8 * 256 + bits l 39 8 * 256)

/-- A physical address at which no memory stands (R396). -/
def nowhere : Nat := 2 ^ 52 - 2 ^ 16

/-- The physical address of a byte of a window (R210). Beyond the 52 bits of a physical address there is no memory (R396). -/
def windowAddr (c : Core) (i va : Nat) : Nat :=
  let off := va - bits (Tab.get 0 c.wva i) 55 8 * 256
  let pa := bits (Tab.get 0 c.wpa i) 51 8 * 256 + off / 65536 * (bits (Tab.get 0 c.wlen i) 47 40 * 65536) + off % 65536
  if pa < nowhere then pa else nowhere + off % 65536 % 32768

end Sys2Proof.Machine
end

