-- ==== Sys2Proof/Machine/Issue.lean ====
section
/-! DEFINITION. How memory instructions issue: their addresses (R223, R235), the synchronous scratchpad accesses of a firing
(R114, R228), the requests that a firing buffers (R100, R228), and the synchronous accesses of a steward-mode core (R225, R231). -/

namespace Sys2Proof.Machine

/-! ## Fields of the memory form (R43) -/

/-- SPACE. -/
def memSpace (o : Ops) : Nat := xField o.x 28 26
/-- The access size in bytes. -/
def memSize (o : Ops) : Nat := sizeBytes (xField o.x 25 23)
/-- REPLY. -/
def memReply (o : Ops) : Nat := xField o.x 22 18
/-- An integer scalar source: the whole 64 bits (R479). -/
def srcWord (s : State) (x : Agent) (o : Ops) (sp : Spec) : Nat := src s x o .whole sp false 0
/-- The effective address of R223. -/
def memEa (s : State) (x : Agent) (o : Ops) : Nat := wrapInt 64 (srcWord s x o o.a + signed 18 (xField o.x 17 0))
/-- The base address of the gather form (R235). -/
def gatherBase (s : State) (x : Agent) (o : Ops) : Nat :=
  wrapInt 64 (srcWord s x o (Spec.ofCode (xField o.x 17 12)) + signed 12 (xField o.x 11 0))

/-! ## Synchronous scratchpad accesses of a firing -/

/-- The byte that an SCR store of a firing leaves at an offset, if it writes it. -/
def storedByte (a : Nat) : ScrStore → Option Byte
  | .write b bs => if b ≤ a then bs[a - b]? else none
  | .stp b bs _ _ => if b ≤ a then bs[a - b]? else none
  | .scatter l => l.reverse.findSome? fun (b, bs) => if b ≤ a then bs[a - b]? else none
  | .clrp _ _ => none

/-- The byte of the own scratchpad that a firing reads: its own latest store, else the scratchpad's (R114, R115). -/
def firingByte (s : State) (e : Nat) (f : Firing) (a : Nat) : Byte :=
  match (f.scr.reverse.findSome? (storedByte a)) with
  | some b => b
  | none => s.readByte (scrAddr (coreOf e) a)

/-- A synchronous read of `n` bytes at each of some offsets of the own scratchpad; an uncorrectable error faults, with the start of the
access in DETAIL whichever granule of it is bad, the model's choice (R219, R220; log 113), and so too where the firing's own buffered stores
give every byte of it, the model's choice (R114; log 132). -/
def readScr (s : State) (e : Nat) (f : Firing) (n : Nat) (offs : List Nat) : State × Except Why (List Nat) :=
  let s := offs.foldl (fun s a => correct s (scrAddr (coreOf e) a) n) s
  match offs.find? fun a => hasHardError s (scrAddr (coreOf e) a) n with
  | some a => (s, .error (Cause.screcc, word a))
  | none => (s, .ok (offs.map fun a => numOfBytes ((List.range n).map fun i => firingByte s e f (a + i))))

/-- The state of a granule as an STP of a firing meets it at issue: full in the scratchpad, or stored by an earlier STP of the
firing (R238). -/
def stpMeetsFull (s : State) (e : Nat) (f : Firing) (a : Nat) : Bool :=
  s.present (scrAddr (coreOf e) a) || f.scr.any fun x => match x with
    | .stp b _ _ _ => b / 8 == a / 8
    | .write _ _ | .scatter _ | .clrp _ _ => false

/-- A firing with one more store in its SCR group, which takes a request place (R230). -/
def Firing.addScr (f : Firing) (x : ScrStore) : Firing := { f with scr := f.scr ++ [x], nreq := f.nreq + 1 }

/-! ## Requests of a firing -/

/-- A request of a firing that wants its reply on a route; no address, no data. The port is MID[2:0] of the route (R208). -/
def newReq (s : State) (e : Nat) (f : Firing) (kind : ReqKind) (route : Nat) : Req :=
  let rw := routeWord s e f.frame.ctx route
  { kind := kind, rel := 0, ord := 0, elem := e, ctx := f.frame.ctx, ent := f.frame.ent, slot := f.slot, ts := f.frame.ts, space := 7, ea := 0,
    pas := [], size := 0, data := 0, data2 := 0, cmp := 0, aux := 0, op := 0, ty := .b64, m := 0, rlse := false, acq := false,
    scope := ctxScope s e f.frame.ctx, reply := [], net := routeNet rw, route := route, port := bits rw 11 9, ranges := [],
    stage := .entered, dev := s.devId, done := 0, home := 0, forks := routeCores s e f.frame.ctx route rw, parent := none, part := 0,
    failed := none }

/-- A request of a steward-mode core, which another unit or device performs while the core waits. -/
def stewReq (n : Nat) (kind : ReqKind) : Req :=
  { kind := kind, rel := 0, ord := 0, elem := stewMark + n, ctx := 0, ent := 0, ts := 0, space := 7, ea := 0, pas := [], size := 0,
    data := 0, data2 := 0, cmp := 0, aux := 0, op := 0, ty := .b64, m := 0, rlse := false, acq := false, scope := 3, reply := [],
    net := 2, route := 0, port := 0, ranges := [], stage := .entered, dev := 0, done := 0, home := 0, forks := [], parent := none,
    part := 0, failed := none }

/-- A firing with one more request in its commit buffer (R100). -/
def Firing.addReq (f : Firing) (r : Req) (route : W64) : Firing := { f with items := f.items ++ [.req r route], nreq := f.nreq + 1 }

/-- Buffers a request after the checks of its parts (R227, R228). -/
def issueReq (s : State) (e : Nat) (f : Firing) (parts : List Part) (r : Req) : Except Why Firing :=
  match issueChecks s e f.frame.ctx parts with
  | some w => .error w
  | none => .ok (f.addReq r (routeWord s e f.frame.ctx r.route))

/-- A plain access of one run of bytes as the part that R227 checks. -/
def onePart (space ea n : Nat) (rd wr : Bool) : List Part := [{ space := space, ea := ea, len := n, align := n, rd := rd, wr := wr }]

/-- The parts of a gather or scatter: one for each lane. -/
def laneParts (space n : Nat) (eas : List Nat) (rd wr : Bool) : List Part :=
  eas.map fun a => { space := space, ea := a, len := n, align := n, rd := rd, wr := wr }

/-! ## Synchronous accesses of a steward-mode core -/

/-- CSEL.CORE of a steward-mode core, as a core number of the package (R344). -/
def cselCore (n : Nat) (st : Stew) : Nat := stewCluster n * 128 + bits st.csel 6 0

/-- What an address of a steward-mode core names (R225, R374). -/
def stewAddr (s : State) (n : Nat) (st : Stew) (space ea : Nat) : Except Why Nat :=
  if space = 0 then
    if isFused s (cselCore n st) then .error (Cause.cfgaddr, word ea)
    else if ea < 2 ^ 19 then .ok (scrAddr (cselCore n st) ea) else .error (Cause.spaceoob, word ea)
  else if space = 1 then
    let c := stewCluster n * 128 + ea / 2 ^ 19
    if ea < 2 ^ 26 && !isFused s c then .ok (scrAddr c (ea % 2 ^ 19)) else .error (Cause.spaceoob, word ea)
  else if space = 2 then
    if ea < splitOf s (stewDie n) * 2 ^ 26 then .ok (celAddr (stewDie n) ea) else .error (Cause.spaceoob, word ea)
  else if space = 3 then (if ea < 2 ^ 56 then .ok ea else .error (Cause.spaceoob, word ea))
  else if ea < 2 ^ 52 then .ok ea else .error (Cause.spaceoob, word ea)

/-- An access of a steward-mode core as its memory instruction makes it. `k` performs it at the address of the numbering of memory
and answers the value for D; a core waits while the access must wait, be it that no link leads to the engine whose register it is (R395); `remote` is the request to send for a page that another
device owns. A PRIV trap shows the word (R339), that of opcode `op`. -/
def stewAccess (op : Nat) (o : Ops) (s : State) (n : Nat) (st : Stew) (space ea len : Nat) (need : Need) (isLd8 : Bool) (remote : Req)
    (k : State → Nat → State × Except Why (Option Nat)) : State :=
  let go := fun (s : State) (a : Nat) =>
    if (space = 3 || space = 4) && inHbm a len && homeHolds s a len (need == .write) (die := some (stewDie n)) then s
    else if (space = 3 || space = 4) && (engineWordAt a).any fun k => !bothReach s (stewDie n) (k.1 / 128) then s
    else match k s a with
      | (s, .error w) => raise s w.1 (if w.1 = Cause.priv then encodeFields op o else w.2)
      | (s, .ok none) => s
      | (s, .ok (some v)) => finish s o ((Agent.stew n (s.stew n)).setScalar o.d v)
  match stewAddr s n st space ea with
  | .error w => raise s w.1 w.2
  | .ok a =>
    if ea % len != 0 then raise s Cause.misalign (word ea)
    else if space = 3 then
      match resolveGlb s (stewDie n) 0 ea need isLd8 (.steward n st.pc) with
      | (s, .wait) => s
      | (s, .fail w) => raise s w.1 w.2
      | (s, .at b) =>
        if 2 ^ 61 ≤ b then go s b
        else if remoteBase ≤ b then
          let dev := b - remoteBase
          let r := { remote with space := 3, dev := dev, ea := ea, size := len }
          sendAway (s.setStew n { s.stew n with waiting := some (.request r, Spec.code o.d) }) r
        else go s b
    else go s a

/-- A read by a steward-mode core: a status word, or memory at its home. -/
def stewRead (s : State) (n a len ea : Nat) : State × Except Why (Option Nat) :=
  if 2 ^ 61 ≤ a then (s, .ok (some (statusWord s (stewDie n) none (a - 2 ^ 61))))
  else match readAt s (.stew n) none a len ea with
    | (s, .ok v) => (s, .ok (some v))
    | (s, .error w) => (s, .error w)

/-- A write by a steward-mode core. -/
def stewWrite (s : State) (n a : Nat) (bs : List Byte) (ea : Nat) : State × Except Why (Option Nat) :=
  match writeAt s (.stew n) none a bs ea with
  | (s, .ok ()) => (s, .ok (some 0))
  | (s, .error w) => (s, .error w)

end Sys2Proof.Machine
end

