-- ==== Sys2Proof/Machine/Claims.lean ====
section
/-! DEFINITION. The firings that wait for a claim of the array or of the cutter, and the one that R198 serves first (R198, R267, R285). -/

namespace Sys2Proof.Machine

/-- The instruction that an element's firing issues next. -/
def nextInstr (s : State) (e : Nat) : Option Instr := match (s.elem e).firing with
  | none => none
  | some f =>
    if f.ended || decide (32 ≤ f.slot) then none
    else match decode .firing ((s.core (coreOf e)).ctxWord (e % 4) f.frame.ctx (0x10 + f.slot)) with
      | .ok i => some i
      | .error _ => none

/-- Whether an element's next instruction claims the array (opcodes 0xC0 to 0xC6) or the cutter (0xC7 to 0xCA). A SHCUT (0xC8) that the
commit buffer still holds claims nothing yet (R100, R285). -/
def wants (s : State) (array : Bool) (e : Nat) : Bool := match (nextInstr s e).bind Instr.code with
  | none => false
  | some (k, _) => if array then decide (0xC0 ≤ k) && decide (k ≤ 0xC6) else decide (0xC7 ≤ k) && decide (k ≤ 0xCA) &&
    !(k == 0xC8 && (s.elem e).firing.any (bufferBusy s e))

/-- The rank of an element's firing in R198's order: by effective priority, then the firing chosen earlier, then by number. -/
def claimRank (s : State) (e : Nat) : Nat := match (s.elem e).firing with
  | some f => (15 - f.prio) * 2 ^ 80 + f.frame.order * 4 + e % 4
  | none => 0

/-- The elements of a core. -/
def elemsOf (core : Nat) : List Nat := (List.range 4).map fun i => core * 4 + i

/-- The element of some that R198 serves first. -/
def firstServed (s : State) (es : List Nat) : Option Nat :=
  (es.map (claimRank s)).min?.bind fun k => es.find? fun e => claimRank s e == k

/-- Whether no other firing of some cores, waiting to issue an instruction that claims the same unit, is served before element `e`. -/
def servedFirst (s : State) (array : Bool) (e : Nat) (cores : List Nat) : Bool :=
  (cores.flatMap elemsOf).all fun o => o == e || !wants s array o || decide (claimRank s e ≤ claimRank s o)

end Sys2Proof.Machine
end

