-- ==== Sys2Proof/Machine/Array.lean ====
section
/-! DEFINITION. The squarer array (R252 to R278): alignment, the cells, the edge unit, claims, and its instructions. -/

namespace Sys2Proof.Machine

/-! ## Alignment (R123) -/

/-- floor(log2) of the magnitude of a finite nonzero value. -/
def leadExp : Val → Int
  | .fin _ m e => e + Nat.log2 m
  | .inf _ | .nan => 0

/-- Whether a value is zero. -/
def Val.isZero : Val → Bool
  | .fin _ m _ => m == 0
  | .inf _ | .nan => false
/-- Whether a value is finite. -/
def Val.isFin : Val → Bool
  | .fin _ _ _ => true
  | .inf _ | .nan => false

/-- A value over 2^u, truncated toward zero, and whether it is cut. -/
def truncAt (u : Int) : Val → Int × Bool
  | .fin neg m e =>
    let sh := (e - u).toNat
    let back := (u - e).toNat
    let q := if u ≤ e then m <<< sh else m >>> back
    (if neg then -(q : Int) else q, decide (e < u) && m % 2 ^ back != 0)
  | .inf _ | .nan => (0, false)

/-- An aligned group: α, the group exponent, the invalid bit and the truncation count. -/
structure Aligned where
  alpha : List Int
  exp : Int
  inv : Bool
  cut : Nat
  deriving DecidableEq, Repr, Inhabited

/-- Align(T, g, sexp) (R73 to R75, R123). -/
def align (t : Ty) (g : List Nat) (sexp : Int) : Aligned :=
  if t = .b8 || t = .aif13 then { alpha := g.map (readS t), exp := 11 + sexp, inv := false, cut := 0 }
  else
    let vs := g.map (val t)
    let zeros := List.replicate g.length (0 : Int)
    if vs.any fun v => !v.isFin then { alpha := zeros, exp := 0, inv := true, cut := 0 }
    else match ((vs.filter fun v => !v.isZero).map leadExp).max? with
      | none => { alpha := zeros, exp := 0, inv := false, cut := 0 }
      | some e0 =>
        let cs := vs.map (truncAt (e0 - 11))
        { alpha := cs.map Prod.fst, exp := e0 + sexp, inv := false, cut := cs.countP Prod.snd }

/-! ## Roles, pairs and claims (R264 to R268) -/

/-- The partner of a core whose array stands in a chained pair. -/
def arrPartner (s : State) (c : Nat) : Option Nat :=
  let a := (s.core c).arr
  let ok := fun (d role : Nat) =>
    let b := (s.core d).arr
    a.ownv && b.ownv && b.role == role && b.ownimg == a.ownimg
  if a.role = 1 && c % 128 < 120 && ok (below c) 2 then some (below c)
  else if a.role = 2 && 8 ≤ c % 128 && ok (above c) 1 then some (above c)
  else none

/-- The core whose state holds the staging area, stationary operand, tags and cells of a core's array: the bottom one of a pair (R264;
log 127). -/
def arrData (s : State) (c : Nat) : Nat := if (s.core c).arr.role = 1 then (arrPartner s c).getD c else c

/-- The array that a core's instructions work on. -/
def arrOf (s : State) (c : Nat) : Arr := (s.core (arrData s c)).arr
/-- Replaces the array of a core. -/
def setArr (s : State) (c : Nat) (a : Arr) : State := s.setCore c { s.core c with arr := a }

/-- Adds one partial to an accumulator (R261). -/
def accumulate (a : Arr) (x p : W32) : W32 :=
  if a.outf = 2 then BitVec.ofNat 32 (sat .b32 (signed 32 x.toNat + signed 32 p.toNat) a.rm)
  else BitVec.ofNat 32 (fadd .f32 a.rm x.toNat p.toNat)

/-- The row of an output tile. -/
def Arr.tile (a : Arr) (tag row : Nat) : TileRow := Tab.get TileRow.init a.tiles (tag * 32 + row)
/-- Replaces a row of an output tile. -/
def Arr.setTile (a : Arr) (tag row : Nat) (t : TileRow) : Arr :=
  { a with tiles := Tab.set TileRow.init a.tiles (tag * 32 + row) t }

/-- Combines the waiting partials of a (tag, row) in sequence order (R78, R261). -/
def edgeCombine (tag row : Nat) : Nat → Arr → Arr
  | 0, a => a
  | n + 1, a =>
    let t := a.tile tag row
    match a.early.find? fun r => r.tag == tag && r.row == row && r.seq == t.exp with
    | none => a
    | some r =>
      let acc := if t.exp = 0 then r.part else (t.acc.zip r.part).map fun (x, p) => accumulate a x p
      let st := if t.lseq = some t.exp then TileState.complete else t.state
      edgeCombine tag row n
        { a.setTile tag row { t with acc := acc, exp := t.exp + 1, state := st } with early := a.early.erase r }

/-- The oldest row of the cells reaches the edge (R257), which sets the invalid status for the results that an invalid group contributes to
(R75), be it for groups aligned before a MXSTAT CLR, the model's choice (R276; log 138). -/
def edgeRow (a : Arr) : Arr := match a.cells with
  | [] => a
  | r :: rest =>
    let e : EarlyRow := { tag := r.tag, row := r.row, seq := r.seq, last := r.last, part := r.part, early := r.early }
    edgeCombine r.tag r.row 65 { a with cells := rest, early := a.early ++ [e], capture := some r, inv := a.inv || r.inv }

/-- Every row of the cells reaches the edge. -/
def drainCells : Nat → Arr → Arr
  | 0, a => a
  | n + 1, a => drainCells n (edgeRow a)

/-- The array as a fault of a firing that claims it now would leave it (R268). -/
def beforeClaim (a : Arr) : Arr := drainCells a.cells.length a

/-- Claims one core's array for element `e`, or not while another element holds it. -/
def claimOne (s : State) (e c : Nat) : Option State :=
  let x := s.core c
  match x.arrClaim with
  | some (o, _) => if o = e then some s else none
  | none => some (s.setCore c { x with arrClaim := some (e, beforeClaim x.arr) })

/-- The cores that one claim of a core's array covers: both of a chained pair (R267). -/
def claimCores (s : State) (c : Nat) : List Nat := c :: (arrPartner s c).toList

/-- Whether element `e` holds the claim of a core's array. -/
def holdsArray (s : State) (e c : Nat) : Bool := (s.core c).arrClaim.any fun (o, _) => o == e

/-- Claims the array for a firing of element `e`, in a chained pair both cores; none while it must stall: another firing holds the claim, or
R198 serves another first (R267). Where a pair is formed while two firings hold one core's claim each, each keeps it and stalls for the
other's, the model's choice (log 142). -/
def claimArray (s : State) (e : Nat) : Option State :=
  if !holdsArray s e (coreOf e) && !servedFirst s true e (claimCores s (coreOf e)) then none
  else match claimOne s e (coreOf e) with
  | none => none
  | some s' => match arrPartner s (coreOf e) with
    | none => some s'
    | some d => claimOne s' e d

/-- Runs an array instruction of a firing: the claim, then the owner check, which comes before every other check of the array, the
model's choice (log 139), then `k` with the core that issues it (R266, R267). -/
def arrayOp (o : Ops) (s : State) (cfg : Bool) (k : State → Nat → Firing → Except Why (State × Option Agent)) :
    Host.Outcome State Fault Refusal :=
  withFiring s fun e f => match claimArray s e with
    | none => s
    | some s' =>
      let a := (s'.core (coreOf e)).arr
      if (!a.ownv && !cfg) || (a.ownv && a.ownimg != ctxImage s e f.frame.ctx) then raise s' Cause.arrown (word a.ownimg)
      else match k s' e f with
        | .error w => raise s' w.1 w.2
        | .ok (t, none) => t
        | .ok (t, some x) => finish t o x

/-- The bits of ARRBUSY's DETAIL (R278). -/
def arrBusy (a : Arr) : Nat :=
  ofBool a.statv + 2 * ofBool (!a.cells.isEmpty) + 4 * ofBool (a.tiles.any fun (_, t) => t.state != .empty)

/-! ## The instructions -/

/-- OUTF of a type (R277). -/
def outfOf (t : Ty) : Nat := if t = .f32 then 0 else if t = .bf16 then 1 else 2
/-- The type of the partials of an output format. -/
def outTy (outf : Nat) : Ty := if outf = 0 then .f32 else if outf = 1 then .bf16 else .b32

/-- The partner core number that ARRCHAIN names, within the cluster (R278). Where no partner stands there, below y = 15 or above y = 0, it is
the number that the step of 8 gives, none below 0 (log 61). -/
def partnerNo (role c : Nat) : W64 := word (if role = 2 then c % 128 - 8 else c % 128 + 8)

/-- MXCFG (R277): ARRCHAIN is raised before ARRBUSY (log 61). -/
def execMxcfg (o : Ops) (s : State) : Host.Outcome State Fault Refusal :=
  arrayOp o s true fun s e f =>
    let c := coreOf e
    let role := xField o.x 1 0
    let busy := arrBusy (arrOf s c)
    if role = 1 && (120 ≤ c % 128 || isFused s (below c)) then .error (Cause.arrchain, partnerNo 1 c)
    else if busy != 0 then .error (Cause.arrbusy, word busy)
    else
      let a := (s.core c).arr
      .ok (setArr s c { a with role := role, outf := outfOf o.ty, rm := o.m, ownv := true, ownimg := ctxImage s e f.frame.ctx },
           some (.firing e f))

/-- The fields of an array descriptor (R271). -/
def descBase (b : Nat) : Nat := b % 64
/-- NROW + 1. -/
def descRows (b : Nat) : Nat := b / 256 % 8 + 1
/-- TAG. -/
def descTag (b : Nat) : Nat := b / 4096 % 4
/-- SEQ. -/
def descSeq (b : Nat) : Nat := b / 65536 % 64

/-- The scale exponent that an array operand brings (R81, R254). -/
def operandSexp (f : Firing) (sp : Spec) : Int :=
  let w := operandChannel f sp
  if bitOf w 58 then signed 8 (bits w 47 40) else 0

/-- The values of a packed payload. -/
def payloadValues (s : State) (x : Agent) (o : Ops) : List Nat :=
  let v := vectorRaw s x o.a
  (List.range (2048 / Ty.width o.ty)).map (packed (Ty.width o.ty) v)

/-- Row r of a payload of rows of K values. -/
def payloadRow (vals : List Nat) (k r : Nat) : List Nat := (vals.drop (r * k)).take k

/-- The checks that MXLDB and MXFEED make on a part (R273, checks 3 and 4). DETAIL of ARRSCALE is sexp sign-extended, the model's choice
(R278; log 140). -/
def partChecks (a : Arr) (t : Ty) (sexp : Int) : Option Why :=
  if a.outf = 2 && t != .b8 && t != .aif13 then some (Cause.arrtype, word (Ty.code t))
  else if a.outf = 2 && sexp != 0 then some (Cause.arrscale, word (wrapInt 64 sexp))
  else none

/-- The role check of R264: MXLDB and MXFEED only on the top core of a pair, or on an array alone. -/
def feedsHere (s : State) (c : Nat) : Bool :=
  let r := (s.core c).arr.role
  r == 0 || (r == 1 && (arrPartner s c).isSome)

/-- The staged block becomes the stationary operand (R258, R260). -/
def makeStationary (a : Arr) (k : Nat) : Arr :=
  let first := (a.staging.head?.map Prod.snd).getD []
  let t := (Ty.ofCode (first.headD 0)).getD .b8
  let sexp : Int := (first.getD 1 128 : Int) - 128
  let cols := (List.range 32).map fun j => align t ((List.range k).map fun i => (Tab.get [] a.staging i).getD (2 + j) 0) sexp
  { a with
    statv := true, staging := [], stat := cols.map fun g => g.alpha, eb := cols.map fun g => g.exp,
    cb := cols.map fun g => (g.alpha.map fun v => v * v).sum, invc := cols.map fun g => g.inv,
    trunc := min (a.trunc + (cols.map fun g => g.cut).sum) (2 ^ 32 - 1), inv := a.inv || cols.any fun g => g.inv }

/-- MXLDB (R272, R273): ARRCHAIN, ARRTYPE, ARRDESC and AIFRANGE in that order (log 123); bit 16 of ARRTYPE's DETAIL is 0 where both T and
sexp differ (R278; log 124). -/
def execMxldb (o : Ops) (s : State) : Host.Outcome State Fault Refusal :=
  arrayOp o s false fun s e f =>
    let x := Agent.firing e f
    let c := coreOf e
    let d := arrData s c
    let a := (s.core d).arr
    let role := (s.core c).arr.role
    let k := if role = 1 then 64 else 32
    let b := srcWord s x o o.b
    let vals := payloadValues s x o
    let sexp := operandSexp f o.a
    let rows := (List.range (descRows b)).map (payloadRow vals 32)
    let staged := (a.staging.head?.map Prod.snd).getD [Ty.code o.ty, (sexp + 128).toNat]
    if !feedsHere s c then .error (Cause.arrchain, partnerNo role c)
    else match partChecks a o.ty sexp with
      | some w => .error w
      | none =>
        if staged.take 2 != [Ty.code o.ty, (sexp + 128).toNat] then
          .error (Cause.arrtype, word (Ty.code o.ty + wrapInt 8 sexp * 256 + ofBool (staged.headD 0 == Ty.code o.ty) * 2 ^ 16))
        else if vals.length < 32 * descRows b || k < descBase b + descRows b then .error (Cause.arrdesc, word b)
        else match rows.flatten.find? (containerBad (.typed o.ty)) with
          | some v => .error (Cause.aifrange, word v)
          | none =>
            let st := rows.zipIdx.foldl (fun t (row, i) => Tab.set [] t (descBase b + i)
              (Ty.code o.ty :: (sexp + 128).toNat :: row)) a.staging
            let a := { a with staging := st }
            .ok (setArr s d (if b.testBit 11 then makeStationary a k else a), some x)

/-- The sequence numbers of a (tag, row) that are admitted and not yet combined. -/
def Arr.waiting (a : Arr) (tag row : Nat) : List Nat :=
  (a.cells.filterMap fun r => if r.tag = tag ∧ r.row = row then some r.seq else none) ++
  (a.early.filterMap fun r => if r.tag = tag ∧ r.row = row then some r.seq else none)

/-- Whether a sequence number of a (tag, row) is admitted. -/
def Arr.admitted (a : Arr) (tag row seq : Nat) : Bool := decide (seq < (a.tile tag row).exp) || (a.waiting tag row).contains seq

/-- Early-store places in use (R262). -/
def Arr.places (a : Arr) : Nat := a.cells.countP (fun r => r.early) + a.early.countP (fun r => r.early)

/-- The checks of R263 on one row. -/
def rowChecks (a : Arr) (tag row seq : Nat) (last : Bool) (b : Nat) : Option Why :=
  let t := a.tile tag row
  if a.admitted tag row seq then some (Cause.seqdup, word seq)
  else if t.lseq.any fun l => decide (l < seq) then some (Cause.arrseq, word b)
  else if last && (t.lseq.isSome || decide (seq < t.exp) || (a.waiting tag row).any fun q => decide (seq < q)) then
    some (Cause.arrseq, word b)
  else if a.outf = 1 && (seq != 0 || !last) then some (Cause.arrseq, word b)
  else none

/-- Whether a sequence number is the lowest not yet admitted for its (tag, row). -/
def Arr.isNext (a : Arr) (tag row seq : Nat) : Bool := (List.range seq).all (a.admitted tag row)

/-- The partial of column j of a row (R256). -/
def partialOf (a : Arr) (inv : Bool) (ea q : Int) (j : Nat) : W32 :=
  let t := outTy a.outf
  if inv || a.invc.getD j false then
    (if a.outf = 2 then BitVec.ofNat 32 (defaultNaN .f32) else BitVec.ofNat 32 (defaultNaN t))
  else if a.outf = 2 then BitVec.ofNat 32 (wrapInt 32 q)
  else if q = 0 then 0
  else BitVec.ofNat 32 (roundTo t (.fin (decide (q < 0)) q.natAbs (ea + a.eb.getD j 0 - 22)) a.rm)

/-- Σ of the squares of s = α + β over a column: the cells' sum P (R252). -/
def cellSum (al col : List Int) : Int := ((al.zip col).map fun (x, y) => (x + y) * (x + y)).sum

/-- One row enters the cells (R252, R257, R262). -/
def admitRow (a : Arr) (e tag row seq : Nat) (last : Bool) (t : Ty) (vals : List Nat) (sexp : Int) : Arr :=
  let g := align t vals sexp
  let ra := (g.alpha.map fun v => v * v).sum
  let p := a.stat.map (cellSum g.alpha)
  let q := (p.zip a.cb).map fun (x, cb) => (x - ra - cb) / 2
  let r : ArrRow :=
    { elem := e, tag := tag, row := row, seq := seq, last := last, p := p, q := q, ra := ra, ea := g.exp,
      part := q.zipIdx.map fun (x, j) => partialOf a g.inv g.exp x j, early := !a.isNext tag row seq, inv := g.inv || a.invc.any id }
  let tr := a.tile tag row
  let tr := { tr with state := .accum, lseq := if last then some seq else tr.lseq }
  { a.setTile tag row tr with cells := a.cells ++ [r], trunc := min (a.trunc + g.cut) (2 ^ 32 - 1), inv := a.inv || g.inv }

/-- The fast throttle of a die: its arrays take in no row and its elements choose no frame (R418). -/
def throttled (s : State) (die : Nat) : Bool := bitOf s.pkg.govstat die

/-- Rows that the cells hold: one for each core clock of the way to the edge, 36, or 72 in a chained pair (R257, R276). -/
def cellRoom (role : Nat) : Nat := if role = 0 then 36 else 72

/-- MXFEED (R273); it waits while the cells have no room for its rows (R257). -/
def execMxfeed (o : Ops) (s : State) : Host.Outcome State Fault Refusal :=
  arrayOp o s false fun s e f =>
    let x := Agent.firing e f
    let c := coreOf e
    let d := arrData s c
    let a := (s.core d).arr
    let role := (s.core c).arr.role
    let k := if role = 1 then 64 else 32
    let b := srcWord s x o o.b
    let n := descRows b
    let tag := descTag b
    let seq := descSeq b
    let last := b.testBit 22
    let vals := payloadValues s x o
    let sexp := operandSexp f o.a
    let outs := (List.range n).map fun r => descBase b + r
    let early := outs.countP fun r => !a.isNext tag r seq
    if !feedsHere s c then .error (Cause.arrchain, partnerNo role c)
    else if !a.statv then .error (Cause.arrnostat, 0)
    else match partChecks a o.ty sexp with
      | some w => .error w
      | none =>
        if vals.length < k * n || 32 < descBase b + n then .error (Cause.arrdesc, word b)
        else match (vals.take (k * n)).find? (containerBad (.typed o.ty)) with
          | some v => .error (Cause.aifrange, word v)
          | none => match outs.findSome? fun r => rowChecks a tag r seq last b with
            | some w => .error w
            | none =>
              if 16 < a.places + early then .error (Cause.arrfull, word b)
              else if throttled s (dieOf c) || cellRoom role < a.cells.length + n then .ok (s, none)
              else
                let a := (List.range n).foldl (fun a r =>
                  admitRow a e tag (descBase b + r) seq last o.ty (payloadRow vals k r) sexp) a
                .ok (setArr s d a, some (.firing e { f with fed := some (tag, descBase b + n - 1) }))

/-- Whether every partial that an accumulating row still lacks is admitted (R274). -/
def Arr.willComplete (a : Arr) (tag row : Nat) : Bool :=
  let t := a.tile tag row
  t.lseq.any fun l => (List.range (l + 1)).all (a.admitted tag row)

/-- MXDRN (R274): ARRCHAIN, ARRTYPE, ARRDESC and ARRPEND in that order (log 125). -/
def execMxdrn (o : Ops) (s : State) : Host.Outcome State Fault Refusal :=
  arrayOp o s false fun s e f =>
    let x := Agent.firing e f
    let c := coreOf e
    let a := (s.core c).arr
    let b := srcWord s x o o.b
    let tag := descTag b
    let n := if a.outf = 1 then 4 else 2
    let rows := (List.range n).map fun i => descBase b + i
    let states := rows.map fun r => a.tile tag r
    let acc := states.flatMap fun t =>
      if t.state = .complete then t.acc.map BitVec.toNat else List.replicate 32 0
    if a.role = 1 then .error (Cause.arrchain, partnerNo 1 c)
    else if outfOf o.ty != a.outf then .error (Cause.arrtype, word (Ty.code o.ty))
    else if 32 < descBase b + n then .error (Cause.arrdesc, word b)
    else if rows.any fun r => (a.tile tag r).state == .accum && !a.willComplete tag r then .error (Cause.arrpend, word b)
    else if states.any fun t => t.state == .accum then .ok (s, none)
    else
      let a' := if b.testBit 11 then a
        else rows.foldl (fun a r => if (a.tile tag r).state = .complete then a.setTile tag r TileRow.init else a) a
      .ok (setArr s c a', some (x.setVector o.d (if a.outf = 1 then vecOfPacked 16 acc else vecOfLanes acc)))

/-- An array whose stationary operand and staging area are cleared, without an owner; OWNIMG then reads 0 (R277; log 61). -/
def Arr.released (a : Arr) : Arr :=
  { a with ownv := false, ownimg := 0, statv := false, stat := [], eb := [], cb := [], invc := [], staging := [] }
/-- The same after everything in it is discarded (R269). -/
def Arr.forcedOut (a : Arr) : Arr := { a.released with cells := [], early := [], tiles := [], forced := true }

/-- MXREL with FORCE on a core's array, and on both of a pair (R264, R269). -/
def forceArray (s : State) (c : Nat) : State :=
  let p := arrPartner s c
  let s := setArr s c (s.core c).arr.forcedOut
  match p with
  | some d => setArr s d (s.core d).arr.forcedOut
  | none => s

/-- MXREL without FORCE (R269, R277). -/
def execMxrel (o : Ops) (s : State) : Host.Outcome State Fault Refusal :=
  arrayOp o s false fun s e f =>
    let c := coreOf e
    let busy := arrBusy (arrOf s c)
    if busy / 2 != 0 then .error (Cause.arrbusy, word busy)
    else
      let p := arrPartner s c
      let s := setArr s c (s.core c).arr.released
      let s := match p with
        | some d => setArr s d (s.core d).arr.released
        | none => s
      .ok (s, some (.firing e f))

/-- MXREL with FORCE. -/
def execMxrelForce (o : Ops) (s : State) : Host.Outcome State Fault Refusal :=
  arrayOp o s false fun s e f => .ok (forceArray s (coreOf e), some (.firing e f))

/-- What MXCOR reads (R275); SEL 1 and 2 the row last captured, be it no row of this firing because its own were discarded by a forced MXREL,
the model's choice (log 141). -/
def mxcorLanes (a : Arr) (fed : Bool) (sel : Nat) : List Nat :=
  let pad := fun (l : List Nat) => l ++ List.replicate (64 - l.length) 0
  if sel = 0 then
    if a.statv then a.cb.map (wrapInt 32) ++ a.eb.map (wrapInt 32) else List.replicate 64 0
  else match a.capture with
    | some r =>
      if !fed then List.replicate 64 0
      else if sel = 1 then pad (r.p.map (wrapInt 32) ++ [wrapInt 32 r.ra, wrapInt 32 r.ea, r.row, r.tag])
      else pad (r.q.map (wrapInt 32))
    | none => List.replicate 64 0

/-- MXCOR: waits until the last row that the firing fed has reached the edge. -/
def execMxcor (o : Ops) (s : State) : Host.Outcome State Fault Refusal :=
  arrayOp o s false fun s e f =>
    let a := arrOf s (coreOf e)
    if f.fed.isSome && a.cells.any fun r => r.elem == e then .ok (s, none)
    else .ok (s, some ((Agent.firing e f).setVector o.d (vecOfLanes (mxcorLanes a f.fed.isSome (xField o.x 1 0)))))

/-- ASTAT of a core (R276). -/
def astat (s : State) (c : Nat) : Nat :=
  let a := arrOf s c
  ofBool a.statv * 2 ^ 61 + (s.core c).arr.role * 2 ^ 59 + a.outf * 2 ^ 57 + ofBool a.inv * 2 ^ 56 + ofBool a.forced * 2 ^ 55
    + a.places * 2 ^ 48 + min a.cells.length 72 * 2 ^ 40 + a.trunc

/-- ACFG of a core (R276). -/
def acfg (s : State) (c : Nat) : Nat :=
  let a := (s.core c).arr
  ofBool a.ownv * 2 ^ 63 + a.ownimg * 2 ^ 47 + a.role * 16 + a.outf * 4 + a.rm.toNat

/-- The row masks of a tile (R276). -/
def tileMasks (a : Arr) (tag : Nat) : Nat :=
  packNum 1 ((List.range 32).map fun r => ofBool ((a.tile tag r).state == .complete))
    + packNum 1 ((List.range 32).map fun r => ofBool ((a.tile tag r).state != .empty)) * 2 ^ 32

/-- MXSTAT (R276). -/
def execMxstat (o : Ops) (s : State) : Host.Outcome State Fault Refusal :=
  arrayOp o s false fun s e f =>
    let c := coreOf e
    let d := arrData s c
    let a := (s.core d).arr
    let v := if xField o.x 1 0 = 0 then astat s c else tileMasks a (xField o.x 3 2)
    let s := if xBit o.x 4 then setArr s d { a with trunc := 0, inv := false, forced := false } else s
    .ok (s, some ((Agent.firing e f).setScalar o.d v))

/-- NMSEL (R270): it claims nothing and asks for no owner. NMASK comes before AIFRANGE, which only a kept value gives (log 126). -/
def execNmsel (o : Ops) (s : State) : Host.Outcome State Fault Refusal :=
  withFiring s fun e f =>
    let x := Agent.firing e f
    let w := Ty.width o.ty
    let b := srcWord s x o o.b
    let n := popCount 64 b
    let pos := xField o.x 2 0
    let vals := payloadValues s x o
    let keep := (List.range 64).filter fun i => b.testBit i
    let out := (List.range (vals.length / 64)).flatMap fun r => keep.map fun m => vals.getD (64 * r + m) 0
    if (n != 8 && n != 16 && n != 32) || 256 < pos * 4 * n + 4 * n then raise s Cause.nmask (word b)
    else match out.find? (containerBad (.bits o.ty)) with
      | some v => raise s Cause.aifrange (word v)
      | none =>
        let old := (vectorRaw s x o.d).toNat
        let at0 := pos * 32 * n
        let new := old % 2 ^ at0 + packNum w out * 2 ^ at0 + old / 2 ^ (at0 + 32 * n) * 2 ^ (at0 + 32 * n)
        finish s o (x.setVector o.d (BitVec.ofNat 2048 new))

/-- ARRAY_ROW_EDGE: the oldest row in the cells of a core reaches the edge (R257), metered to the array's owner (R389). -/
def execArrayRowEdge (s : State) : Host.Outcome State Fault Refusal :=
  let c := s.event.unit
  let a := (s.core c).arr
  .next (if a.cells.isEmpty then s else setArr (chargeUnits s (clusterOf c) (some a.ownimg)) c (edgeRow a))

/-- The array release word written 1: MXREL with FORCE for the steward, once no claim covers the array, alone or in its pair (R267,
R277). -/
def releaseArray (s : State) (c : Nat) : Option State :=
  if (claimCores s c).any fun d => (s.core d).arrClaim.isSome then none else some (forceArray s c)

end Sys2Proof.Machine
end

