-- ==== Sys2Proof/Machine/Fetch.lean ====
section
/-! DEFINITION. What an agent runs next: the fetch of a steward-mode core (R335), and the slot of a firing (R52, R96). -/

namespace Sys2Proof.Machine

/-- What a turn comes to: a state with nothing to run, or an instruction with the state to run it in. -/
inductive Fetched
  | idle (s : State)
  | run (i : Instr) (s : State)

/-- Bytes of a cache line (R204). -/
def lineBytes : Nat := 128

/-- The words of a memory line, as entries of an instruction cache. -/
def lineWords (s : State) (line : Nat) : List (Nat × W64) :=
  (List.range 16).map fun i => (line * lineBytes + 8 * i, word (s.readNum (line * lineBytes + 8 * i) 8))

/-- The word at a steward-mode core's PC that its instruction cache holds. -/
def icacheWord (s : State) (n : Nat) : Option W64 := match Tab.get none (s.stew n).icache (s.stew n).pc.toNat with
  | some w => if Config.icacheKeeps s.stepNo then some w else none
  | none => none

/-- The words of a line that a fetch takes into an instruction cache: those on which a read does not fail. -/
def goodWords (s : State) (line : Nat) : List (Nat × W64) :=
  (lineWords s line).filter fun (a, _) => !hasHardError s a 8 && !(inHbm a 8 && poisoned s none a 8)

/-- The fetch of a word by steward-mode core `n` at its PC, through the L2, with the instruction cache filled; none where the fetch traps,
as it does where a read fails (R335). -/
def fetchWord (s : State) (n : Nat) : Option (W64 × State) :=
  let pc := (s.stew n).pc.toNat
  match icacheWord s n with
  | some w => some (w, s)
  | none =>
    if inHbm pc 8 || inFlash pc 8 then match readAt s (.stew n) none pc 8 pc with
      | (s, .ok w) =>
        let st := s.stew n
        let ic := (goodWords s (pc / lineBytes)).foldl (fun t (a, w) => Tab.set none t a (some w)) st.icache
        some (word w, s.setStew n { st with icache := ic })
      | (_, .error _) => none
    else none

/-- Whether a fetch of steward-mode core `n` waits at its home (R421). -/
def fetchHolds (s : State) (n : Nat) : Bool :=
  let pc := (s.stew n).pc.toNat
  (icacheWord s n).isNone && inHbm pc 8 && homeHolds s pc 8 (die := some (stewDie n))

/-- The particulars of what an agent does by itself: its own number. -/
def ownEvent (n : Nat) : Event := { (default : Event) with unit := n }

/-- The trap that the fetch of steward-mode core `n` ends in, if it does: cause, sub-cause and DETAIL, with the instruction cache filled
(R51, R335). A core that has halted or waits, or whose fetch waits, fetches nothing. -/
def fetchTrap (s : State) (n : Nat) : Option (Nat × Nat × W64 × State) :=
  let st := s.stew n
  if st.halted || st.waiting.isSome || fetchHolds s n then none
  else match fetchWord s n with
    | none => some (Cause.ifetch, 0, st.pc, s)
    | some (w, s') => match decode .steward w with
      | .error c => some (Cause.illop, subCode c, w, s')
      | .ok _ => none

/-- The next instruction of steward-mode core `n`: nothing while it is halted or waits, its trap where the fetch ends in one. -/
def fetchSteward (s : State) (n : Nat) : Fetched :=
  let st := s.stew n
  let trap := Fetched.run .stewardTrap { s with event := ownEvent n }
  if st.halted || st.waiting.isSome || fetchHolds s n then .idle s
  else match fetchWord s n with
    | none => trap
    | some (w, s') => match decode .steward w with
      | .error _ => trap
      | .ok i => .run i s'

/-- The latent errors of a slot of a context (core × 32 + element × 8 + context); a new word ends them (R52; log 14). -/
def slotErrors (s : State) (ctx slot : Nat) : List SoftErr := s.soft.filter fun e => match e with
  | .slot c k _ => c == ctx && k == slot
  | _ => false

/-- A slot read corrects the single-bit errors that it meets and counts them in the die's log (R52, R415). -/
def correctSlot (s : State) (e ctx slot : Nat) : State :=
  (slotErrors s (e * 8 + ctx) slot).foldl (fun s x => match x with
    | .slot _ _ false => logCorrected { s with soft := s.soft.erase x } (dieOf (coreOf e))
    | _ => s) s

/-- What element `e` does next: chooses a frame, reaches its commit point, or issues the next word of its run. A slot read that
finds an uncorrectable error faults the firing (R52). An element issues only well-formed words (R52): it stalls at any other. -/
def fetchElement (s : State) (e : Nat) : Fetched := match (s.elem e).firing with
  | none => .run .frameChoice { s with event := ownEvent e }
  | some f =>
    if f.ended then .run .commitPoint { s with event := ownEvent e }
    else if (slotErrors s (e * 8 + f.frame.ctx) f.slot).any fun x => match x with | .slot _ _ hard => hard | _ => false then
      .idle (parkFiring s e Cause.slotecc (word f.slot))
    else if 32 ≤ f.slot then .idle s
    else match decode .firing ((s.core (coreOf e)).ctxWord (e % 4) f.frame.ctx (0x10 + f.slot)) with
      | .ok i => .run i (correctSlot s e f.frame.ctx f.slot)
      | .error _ => .idle s

/-- Whether a region, with a valid entry in the die's region table, runs lean on the die of a core (R390). -/
def isLean (s : State) (core image : Nat) : Bool :=
  (s.die (dieOf core)).leanNow.contains image && (regionEntry s (dieOf core) image).isSome

end Sys2Proof.Machine
end

