-- ==== Sys2Proof/Machine/Hedges.lean ====
section
/-! DEFINITION. The hedges between tenants on the mesh of a cluster (R306, R326 to R328). -/

namespace Sys2Proof.Machine

/-- The coordinate next to `a` on the way to `b`. -/
def toward (a b : Nat) : Nat := if a < b then a + 1 else a - 1

/-- The cores (x, y) of a minimal path to (xb, yb): `turn` says at which of the steps left, where both directions lead on, it goes in y. -/
def pathTo (turn : Nat → Bool) (xb yb : Nat) : Nat → Nat → Nat → List (Nat × Nat)
  | 0, x, y => [(x, y)]
  | n + 1, x, y =>
    (x, y) :: (if y != yb && (x == xb || turn n) then pathTo turn xb yb n x (toward y yb) else pathTo turn xb yb n (toward x xb) y)

/-- The cores of the path of a cluster from one core to another, in order: X first, then Y, and on the packet network a minimal path of the
network's own choice (R306; log 18). Traffic of another cluster comes in by a port of the cluster, which sends with tenant 0 and has no
place in the spec: no link of it is known. -/
def meshPath (s : State) (net a b : Nat) : List Nat :=
  if clusterOf a != clusterOf b then [b]
  else
    let xa := a % 8
    let ya := a % 128 / 8
    let xb := b % 8
    let yb := b % 128 / 8
    let steps := max xa xb - min xa xb + (max ya yb - min ya yb)
    (pathTo (fun n => net == 1 && Config.packetTurn s.stepNo n) xb yb steps xa ya).map fun (x, y) => clusterOf a * 128 + y * 8 + x

/-- The link, near core and far core, of the first hedge on a path that drops traffic of a source tenant (R327). -/
def hedgeAt (s : State) (src : Nat) : List Nat → Option (Nat × Nat)
  | a :: b :: rest =>
    let t := tenantOf s b
    if tenantOf s a != t && ((src != 0 && src != t) || t == 0) then some (a, b) else hedgeAt s src (b :: rest)
  | _ => none

/-- The link of the hedge that drops traffic of a network from one core to another. -/
def hedgeDrops (s : State) (net a b : Nat) : Option (Nat × Nat) := hedgeAt s (tenantOf s a) (meshPath s net a b)

/-- A drop is counted, and reported at most once in 1,024 link cycles, 2,048 core clocks, for each link (R328). -/
def reportDrop (s : State) (link : Nat × Nat) (el ctx ent : Nat) (ts h1 : W64) (slot : Nat := 0) : State :=
  let cl := clusterOf link.2
  let c := s.cluster cl
  let k := link.1 * 2048 + link.2
  let last := Tab.get 0 c.hedgeLast k
  let due := last == 0 || decide (last + 2047 ≤ s.clock)
  let s := s.setCluster cl { c with hedgecnt := c.hedgecnt + 1,
                                    hedgeLast := if due then Tab.set 0 c.hedgeLast k (s.clock + 1) else c.hedgeLast }
  if due then unitRecord s cl Cause.hedgedrop ts h1 link.2 el ctx ent slot else s

/-- The link of the hedge that drops a request of a core to an address of another core's scratchpad: requests take the packet network. -/
def hedgedTo (s : State) (core a : Nat) : Option (Nat × Nat) :=
  if scrBase ≤ a ∧ a < celBase then hedgeDrops s 1 core ((a - scrBase) / 2 ^ 19) else none

/-- A request that a hedge drops: counted and reported, and why it fails. The spec describes no header of a request (log 16). -/
def dropRequest (s : State) (r : Req) (link : Nat × Nat) : State × Why :=
  let w := Config.openWord s.stepNo
  (reportDrop s link (r.elem % 4) r.ctx r.ent r.ts w r.slot, (Cause.hedgedrop, w))

end Sys2Proof.Machine
end

