-- ==== Sys2Proof/Machine/MemInstr.lean ====
section
/-! DEFINITION. The memory and stream instructions (R233 to R251), but for LD and ST in the configuration space. -/

namespace Sys2Proof.Machine

/-! ## Loads and stores (R234) -/

/-- The request of a plain access of a firing. -/
def plainReq (s : State) (e : Nat) (f : Firing) (o : Ops) (kind : ReqKind) : Req :=
  { newReq s e f kind (memReply o) with space := memSpace o, ea := memEa s (.firing e f) o, size := memSize o, ty := o.ty, m := o.m }

/-- Runs `k` with a stored operand of type T, unless it is a malformed aif13 container, which raises AIFRANGE (R72, R118; log 55). -/
def withContainer (s : State) (t : Ty) (v : Nat) (k : State) : State :=
  if containerBad (.bits t) (low (Ty.width t) v) then raise s Cause.aifrange (word (low (Ty.width t) v)) else k

/-- LD of a firing: synchronous from SCR, else split-phase (R228, R234). -/
def loadFiring (o : Ops) (s : State) (e : Nat) (f : Firing) : State :=
  let ea := memEa s (.firing e f) o
  let n := memSize o
  if memSpace o = 0 then
    match issueChecks s e f.frame.ctx (onePart 0 ea n true false) with
    | some w => raise s w.1 w.2
    | none => match readScr s e f n [ea] with
      | (s, .error w) => raise s w.1 w.2
      | (s, .ok v) => finishScalar s o (.firing e f) (v.headD 0)
  else if bufferBusy s e f then s
  else match issueReq s e f (onePart (memSpace o) ea n true false) (plainReq s e f o .ld) with
    | .error w => raise s w.1 w.2
    | .ok f => finish s o (.firing e f)

/-- ST of a firing: into the SCR group, else split-phase (R101, R228, R234). -/
def storeFiring (o : Ops) (s : State) (e : Nat) (f : Firing) : State :=
  let x := Agent.firing e f
  let ea := memEa s x o
  let n := memSize o
  let b := srcWord s x o o.b
  if bufferBusy s e f then s
  else withContainer s o.ty b <| if memSpace o = 0 then
    match issueChecks s e f.frame.ctx (onePart 0 ea n false true) with
    | some w => raise s w.1 w.2
    | none => finish s o (.firing e (f.addScr (.write ea (bytesOfNum n b))))
  else match issueReq s e f (onePart (memSpace o) ea n false true)
      { plainReq s e f o .st with data := BitVec.ofNat 2048 (low (8 * n) b) } with
    | .error w => raise s w.1 w.2
    | .ok f => finish s o (.firing e f)

/-- LD of a steward-mode core outside the configuration space (R231). -/
def loadStew (o : Ops) (s : State) (n : Nat) (st : Stew) : State :=
  let ea := memEa s (.stew n st) o
  stewAccess 0xA0 o s n st (memSpace o) ea (memSize o) .read (memSize o == 8) { stewReq n .ld with ea := ea, size := memSize o }
    fun s a => stewRead s n a (memSize o) ea

/-- ST of a steward-mode core outside the configuration space. -/
def storeStew (o : Ops) (s : State) (n : Nat) (st : Stew) : State :=
  let x := Agent.stew n st
  let ea := memEa s x o
  let b := srcWord s x o o.b
  withContainer s o.ty b <| stewAccess 0xA1 o s n st (memSpace o) ea (memSize o) .write false
    { stewReq n .st with ea := ea, size := memSize o, data := BitVec.ofNat 2048 (low (8 * memSize o) b) }
    fun s a => stewWrite s n a (bytesOfNum (memSize o) b) ea

/-- LDV (R234): the bytes stand at the bottom of the vector, zeros above. -/
def execLdv (o : Ops) (s : State) : Host.Outcome State Fault Refusal :=
  withFiring s fun e f =>
    let ea := memEa s (.firing e f) o
    let n := memSize o
    if memSpace o = 0 then
      match issueChecks s e f.frame.ctx (onePart 0 ea n true false) with
      | some w => raise s w.1 w.2
      | none => match readScr s e f n [ea] with
        | (s, .error w) => raise s w.1 w.2
        | (s, .ok v) => finish s o ((Agent.firing e f).setVector o.d (BitVec.ofNat 2048 (v.headD 0)))
    else if bufferBusy s e f then s
    else match issueReq s e f (onePart (memSpace o) ea n true false) (plainReq s e f o .ldv) with
      | .error w => raise s w.1 w.2
      | .ok f => finish s o (.firing e f)

/-- STV (R234): the first bytes of b in the same layout. -/
def execStv (o : Ops) (s : State) : Host.Outcome State Fault Refusal :=
  withFiring s fun e f =>
    let x := Agent.firing e f
    let ea := memEa s x o
    let n := memSize o
    let b := (vectorRaw s x o.b).toNat
    if bufferBusy s e f then s
    else if memSpace o = 0 then
      match issueChecks s e f.frame.ctx (onePart 0 ea n false true) with
      | some w => raise s w.1 w.2
      | none => finish s o (.firing e (f.addScr (.write ea (bytesOfNum n b))))
    else match issueReq s e f (onePart (memSpace o) ea n false true)
        { plainReq s e f o .stv with data := BitVec.ofNat 2048 (low (8 * n) b) } with
      | .error w => raise s w.1 w.2
      | .ok f => finish s o (.firing e f)

/-! ## Gather and scatter (R235, R236) -/

/-- The request of a gather or scatter of a firing: the index vector in `data`. -/
def gatherReq (s : State) (e : Nat) (f : Firing) (o : Ops) (kind : ReqKind) : Req :=
  let x := Agent.firing e f
  { newReq s e f kind (memReply o) with space := memSpace o, ea := gatherBase s x o, size := memSize o, data := vectorRaw s x o.a }

/-- GATHV: 64 loads, zero-extended to lanes. -/
def execGathv (o : Ops) (s : State) : Host.Outcome State Fault Refusal :=
  withFiring s fun e f =>
    let r := gatherReq s e f o .gathv
    if memSpace o = 0 then
      match issueChecks s e f.frame.ctx (laneParts 0 (memSize o) r.eas true false) with
      | some w => raise s w.1 w.2
      | none => match readScr s e f (memSize o) r.eas with
        | (s, .error w) => raise s w.1 w.2
        | (s, .ok v) => finishLanes s o (.firing e f) v
    else if bufferBusy s e f then s
    else match issueReq s e f (laneParts (memSpace o) (memSize o) r.eas true false) r with
      | .error w => raise s w.1 w.2
      | .ok f => finish s o (.firing e f)

/-- SCATV: 64 stores in ascending lane order, one request place. -/
def execScatv (o : Ops) (s : State) : Host.Outcome State Fault Refusal :=
  withFiring s fun e f =>
    let r := { gatherReq s e f o .scatv with data2 := vectorRaw s (.firing e f) o.b }
    if bufferBusy s e f then s
    else if memSpace o = 0 then
      match issueChecks s e f.frame.ctx (laneParts 0 (memSize o) r.eas false true) with
      | some w => raise s w.1 w.2
      | none =>
        let lanes := r.eas.zipIdx.map fun (a, i) => (a, bytesOfNum (memSize o) (lane r.data2 i))
        finish s o (.firing e (f.addScr (.scatter lanes)))
    else match issueReq s e f (laneParts (memSpace o) (memSize o) r.eas false true) r with
      | .error w => raise s w.1 w.2
      | .ok f => finish s o (.firing e f)

/-! ## Presence memory (R237 to R239) -/

/-- LDP: always split-phase in a firing; a steward-mode core waits until the granule is full, and takes no place among
the deferred reads meanwhile: it tries again at each turn, the model's choice (R206; log 112). -/
def execLdp (o : Ops) (s : State) : Host.Outcome State Fault Refusal :=
  withAgent s fun x => match x with
    | .firing e f =>
      if bufferBusy s e f then s
      else match issueReq s e f (onePart (memSpace o) (memEa s x o) 8 true false) (plainReq s e f o .ldp) with
        | .error w => raise s w.1 w.2
        | .ok f => finish s o (.firing e f)
    | .stew n st =>
      stewAccess 0xA2 o s n st (memSpace o) (memEa s x o) 8 .read false (stewReq n .ldp) fun s a =>
        if readable s a then stewRead s n a 8 (memEa s x o) else (s, .ok none)

/-- STP (R238). -/
def execStp (o : Ops) (s : State) : Host.Outcome State Fault Refusal :=
  withAgent s fun x =>
    let ea := memEa s x o
    let bs := bytesOfNum 8 (srcWord s x o o.b)
    match x with
    | .firing e f =>
      if bufferBusy s e f then s
      else if memSpace o = 0 then
        match issueChecks s e f.frame.ctx (onePart 0 ea 8 false true) with
        | some w => raise s w.1 w.2
        | none =>
          if stpMeetsFull s e f ea then raise s Cause.doublew (word ea)
          else finish s o (.firing e (f.addScr (.stp ea bs f.slot (f.items.countP Item.stores))))
      else match issueReq s e f (onePart (memSpace o) ea 8 false true)
          { plainReq s e f o .stp with data := BitVec.ofNat 2048 (numOfBytes bs) } with
        | .error w => raise s w.1 w.2
        | .ok f => finish s o (.firing e f)
    | .stew n st =>
      stewAccess 0xA3 o s n st (memSpace o) ea 8 .write false (stewReq n .stp) fun s a =>
        if s.present a then (s, .error (Cause.doublew, word ea)) else (fillGranule s a bs, .ok (some 0))

/-- CLRP (R239): a granule, or the sixteen of a line. -/
def execClrp (o : Ops) (s : State) : Host.Outcome State Fault Refusal :=
  withAgent s fun x =>
    let ea := memEa s x o
    let n := memSize o
    match x with
    | .firing e f =>
      if bufferBusy s e f then s
      else if memSpace o = 0 then
        match issueChecks s e f.frame.ctx (onePart 0 ea n false true) with
        | some w => raise s w.1 w.2
        | none => finish s o (.firing e (f.addScr (.clrp ea n)))
      else match issueReq s e f (onePart (memSpace o) ea n false true) (plainReq s e f o .clrp) with
        | .error w => raise s w.1 w.2
        | .ok f => finish s o (.firing e f)
    | .stew n' st =>
      stewAccess 0xA4 o s n' st (memSpace o) ea n .write false (stewReq n' .clrp) fun s a => (clearPresence s a n, .ok (some 0))

/-! ## Atomics (R240, R241) -/

/-- The operand v of an atomic, in position `sp`: a whole scalar, or the typed read of an fadd, which a scaled channel scales by its SEXP
(R81, R240). -/
def atomOperand (s : State) (x : Agent) (o : Ops) (sp : Spec) : Nat :=
  src s x o (if Ty.isFloat o.ty then .typed o.ty else .whole) sp false 0

/-- The compare value of an atomic, a whole scalar (R240). -/
def atomCmp (s : State) (x : Agent) (o : Ops) : Nat := srcWord s x o (cmpSpec o.x)

/-- ATOM and ATOMR: the address is A exactly; ATOMR's reply carries the old value. -/
def atomic (o : Ops) (s : State) (kind : ReqKind) : Host.Outcome State Fault Refusal :=
  withAgent s fun x =>
    let ea := srcWord s x o o.a
    let n := memSize o
    let v := atomOperand s x o o.b
    let cmp := atomCmp s x o
    let fill := fun (r : Req) =>
      { r with space := memSpace o, ea := ea, size := n, data := BitVec.ofNat 2048 v, cmp := word cmp, op := aopOf o.x, m := o.m,
               ty := o.ty, rlse := xBit o.x 13, acq := xBit o.x 12, scope := xField o.x 5 3 }
    match x with
    | .firing e f =>
      if bufferBusy s e f then s
      else match issueReq s e f (onePart (memSpace o) ea n true true) (fill (newReq s e f kind (memReply o))) with
        | .error w => raise s w.1 w.2
        | .ok f => finish s o (.firing e f)
    | .stew n' st =>
      stewAccess (if kind = .atom then 0xA5 else 0xA6) o s n' st (memSpace o) ea n .atomic false (fill (stewReq n' kind)) fun s a =>
        match atomAt s (.stew n') a n ea (aopOf o.x) o.m v cmp with
        | (s, .ok old) => (s, .ok (some old))
        | (s, .error w) => (s, .error w)

/-- ATOM. -/
def execAtom (o : Ops) (s : State) : Host.Outcome State Fault Refusal := atomic o s .atom
/-- ATOMR. -/
def execAtomr (o : Ops) (s : State) : Host.Outcome State Fault Refusal := atomic o s .atomr

/-! ## Cache lines (R242) -/

/-- A line operation of a firing or of a steward-mode core: `act` on the line's physical address. A prefetch that fails to
translate, and every operation on a line of another device, only acknowledges. -/
def lineOp (o : Ops) (s : State) (kind : ReqKind) (need : Need) (act : State → Nat → Nat → State) :
    Host.Outcome State Fault Refusal :=
  withAgent s fun x =>
    let ea := memEa s x o
    match x with
    | .firing e f =>
      if bufferBusy s e f then s
      else match issueReq s e f (onePart 3 ea 128 (need == .read) (need == .write)) (plainReq s e f o kind) with
        | .error w => raise s w.1 w.2
        | .ok f => finish s o (.firing e f)
    | .stew n st => match stewAddr s n st (memSpace o) ea with
      | .error w => raise s w.1 w.2
      | .ok a =>
        if ea % 128 != 0 then raise s Cause.misalign (word ea)
        else if memSpace o = 3 then match resolveGlb s (stewDie n) 0 ea need false (.steward n st.pc) with
          | (s, .wait) => s
          | (s, .fail w) => if kind = .pref then finish s o x else raise s w.1 w.2
          | (s, .at b) =>
            if b = remoteBase + s.devId then
              let r := { stewReq n kind with space := 3, dev := s.devId, ea := ea, size := 128 }
              sendAway (s.setStew n { s.stew n with waiting := some (.request r, Spec.code o.d) }) r
            else if kind != .pref && inHbm b 128 && cleanHolds s (b / 128) (some (stewDie n)) then s
            else
              let s := if inHbm b 128 then act s n b else s
              finish s o (.stew n (s.stew n))
        else if physExists a 128 then
          if kind != .pref && inHbm a 128 && cleanHolds s (a / 128) (some (stewDie n)) then s
          else
            let s := if inHbm a 128 then act s n a else if kind = .inval then invalIcache s n (a / 128) else s
            finish s o (.stew n (s.stew n))
        else if kind = .pref then finish s o x
        else raise s Cause.spaceoob (word ea)

/-- PREF: a steward-mode core has no L1 to bring the line into. -/
def execPref (o : Ops) (s : State) : Host.Outcome State Fault Refusal := lineOp o s .pref .read fun s _ _ => s
/-- CLEAN. -/
def execClean (o : Ops) (s : State) : Host.Outcome State Fault Refusal := lineOp o s .clean .write fun s _ a => cleanLine s (a / 128)
/-- INVAL: in the PHY space it also drops the line from the issuer's instruction cache (R335). -/
def execInval (o : Ops) (s : State) : Host.Outcome State Fault Refusal :=
  lineOp o s .inval .write fun s n a =>
    let s := invalLine s (a / 128)
    if memSpace o = 4 then invalIcache s n (a / 128) else s

/-! ## Watches, fences, streams, ordering tokens (R243, R246, R247, R249, R250) -/

/-- WATCH: the count c stands in `cmp`. -/
def execWatch (o : Ops) (s : State) : Host.Outcome State Fault Refusal :=
  buffered o s fun e f =>
    issueReq s e f (onePart (memSpace o) (memEa s (.firing e f) o) 8 true false)
      { plainReq s e f o .watch with cmp := word (srcWord s (.firing e f) o o.b % 65536) }

/-- FENCE: a request place in a firing; a steward-mode core has performed its earlier accesses. -/
def execFence (o : Ops) (s : State) : Host.Outcome State Fault Refusal :=
  withAgent s fun x => match x with
    | .firing e f =>
      if bufferBusy s e f then s
      else finish s o (.firing e (f.addReq { newReq s e f .fence 0 with scope := xField o.x 2 0 } 0))
    | .stew n st => finish s o (.stew n st)

/-- STRM and STRMQ: b holds the length and the scratchpad offset; the length is checked first. -/
def stream (o : Ops) (s : State) (kind : ReqKind) : Host.Outcome State Fault Refusal :=
  buffered o s fun e f =>
    let x := Agent.firing e f
    let b := word (srcWord s x o o.b)
    let len := bits b 63 32
    let off := bits b 18 0
    let ea := memEa s x o
    let far : Part := { space := memSpace o, ea := ea, len := len, align := 8, rd := kind == .strm, wr := kind == .strmq }
    let near : Part := { space := 0, ea := off, len := len, align := 8, rd := kind == .strmq, wr := true }
    if len % 8 != 0 || len < 8 || 524288 < len then .error (Cause.strmlen, b)
    else issueReq s e f [far, near] { plainReq s e f o kind with cmp := b }

/-- STRM. -/
def execStrm (o : Ops) (s : State) : Host.Outcome State Fault Refusal := stream o s .strm
/-- STRMQ. -/
def execStrmq (o : Ops) (s : State) : Host.Outcome State Fault Refusal := stream o s .strmq

/-- WPWAIT: the handle, the operation number and the byte count. -/
def execWpwait (o : Ops) (s : State) : Host.Outcome State Fault Refusal :=
  buffered o s fun e f =>
    let x := Agent.firing e f
    .ok (f.addReq { newReq s e f .wpwait (memReply o) with
      aux := word (srcWord s x o o.a), data := BitVec.ofNat 2048 (srcWord s x o o.b), cmp := word (srcWord s x o (thirdSpec o)) }
      (routeWord s e f.frame.ctx (memReply o)))

/-- ORDT: a footprint of U(b)[31:0] bytes, whose address R223 alone checks. -/
def execOrdt (o : Ops) (s : State) : Host.Outcome State Fault Refusal :=
  buffered o s fun e f =>
    let x := Agent.firing e f
    let ea := memEa s x o
    let len := srcWord s x o o.b % 2 ^ 32
    let r := { plainReq s e f o .ordt with size := len }
    if inSpace s e f.frame.ctx (memSpace o) ea then
      .ok (f.addReq r (routeWord s e f.frame.ctx (memReply o)))
    else .error (Cause.spaceoob, word ea)

end Sys2Proof.Machine
end

