-- ==== Sys2Proof/Machine/Engine.lean ====
section
/-! DEFINITION. The copy and indirect-stream engines: COPY, ISTRM, TLWAIT, TLRD, WPWAIT (R249, R397 to R405). -/

namespace Sys2Proof.Machine

/-! ## Handles and issue -/

/-- The engine context that a handle or a descriptor names (R397). -/
def handleOf (w : W64) : Nat := bits w 8 0
/-- ENG of a handle. -/
def handleEng (h : Nat) : Nat := h / 16 % 4
/-- The die of a handle's stack. -/
def handleDie (h : Nat) : Nat := h / 64 / 2

/-- SSP of the engine form (R401). -/
def engSsp (o : Ops) : Nat := xField o.x 17 15
/-- DSP. -/
def engDsp (o : Ops) : Nat := xField o.x 14 12

/-- Whether a COPY descriptor is bad (R401). -/
def copyDescBad (c : W64) : Bool :=
  bits c 31 9 != 0 || bits c 63 32 % 16 != 0 || bits c 63 32 == 0
/-- Whether an ISTRM descriptor is bad (R402). The alignment of its index list is checked under R224. -/
def istrmDescBad (c : W64) : Bool :=
  bits c 37 28 != 0 || bits c 63 48 == 0 || bits c 47 40 == 0

/-- Bytes that an operation writes. -/
def opLength (kind : ReqKind) (c : W64) : Nat := if kind = .istrm then bits c 63 48 * 16 * bits c 47 40 else bits c 63 32

/-- The request of COPY or ISTRM: source in `ea`, destination in `aux`, descriptor in `cmp`; `op` packs SSP, DSP and CMPL. -/
def engineReq (s : State) (x : Agent) (o : Ops) (r : Req) : Req :=
  { r with ea := srcWord s x o o.a, aux := word (srcWord s x o o.b), cmp := word (srcWord s x o (thirdSpec o)),
           op := engSsp o + 8 * engDsp o + 64 * ofBool (xBit o.x 11) }

/-- SSP of a request. -/
def Req.ssp (r : Req) : Nat := r.op % 8
/-- DSP of a request. -/
def Req.dsp (r : Req) : Nat := r.op / 8 % 8
/-- CMPL of a request. -/
def Req.cmpl (r : Req) : Bool := r.op / 64 % 2 == 1

/-- The parts that an engine instruction checks at issue (R401, R402): whole ranges; rows are checked later. -/
def engineParts (r : Req) : List Part :=
  let dst : Part := { space := r.dsp, ea := r.aux.toNat, len := opLength r.kind r.cmp, align := 16, rd := false, wr := true }
  if r.kind = .istrm then
    let n := if bitOf r.cmp 38 then 8 else 4
    [{ space := 0, ea := bits r.cmp 27 9, len := bits r.cmp 63 48 * n, align := n, rd := true, wr := false }, dst]
  else [{ space := r.ssp, ea := r.ea, len := opLength r.kind r.cmp, align := 16, rd := true, wr := false }, dst]

/-- Whether a request's descriptor is bad. -/
def engineDescBad (r : Req) : Bool := if r.kind = .istrm then istrmDescBad r.cmp else copyDescBad r.cmp

/-! ## Acceptance (R398 to R401) -/

/-- What performing a request comes to. -/
inductive Perf
  /-- Performed: the reply's value, and whether it carries TAINT. -/
  | done (v : Vec) (taint : Bool)
  /-- Failed (R229). -/
  | fail (w : Why)
  /-- Not yet: it stays where it is. -/
  | stay
  /-- It has left its port; its outcome comes later. -/
  | taken
  deriving DecidableEq, Repr, Inhabited

/-- Whether a request comes from a steward-mode core. -/
def Req.ofStew (r : Req) : Bool := decide (stewMark ≤ r.elem)

/-- Whether an engine context refuses a request: unbound, or bound to another image (R401, R403). -/
def engineRefuses (s : State) (r : Req) (h : Nat) : Bool :=
  let w := (s.engine h).ectx
  !bitOf w 63 || (!r.ofStew && bits w 62 47 != ctxImage s r.elem r.ctx)

/-- Whether replies of an operation number carry TAINT (R400). -/
def engineTaints (e : Engine) (n : Nat) : Bool := e.faillo != 0 && decide (e.faillo ≤ n)

/-- The core whose scratchpad SCR names for an operation. -/
def opCore (s : State) (r : Req) : Nat :=
  if r.ofStew then cselCore (r.elem - stewMark) (s.stew (r.elem - stewMark)) else coreOf r.elem

/-- The die from which a request goes to an engine. -/
def Req.issueDie (r : Req) : Nat := if r.ofStew then stewDie (r.elem - stewMark) else dieOf (coreOf r.elem)

/-- The die of a scratchpad's or cellar's address in the numbering of memory; none for what stands elsewhere. -/
def memDie (a : Nat) : Option Nat :=
  if remoteBase ≤ a then none else if celBase ≤ a then some ((a - celBase) / 2 ^ 30)
  else if scrBase ≤ a then some (dieOf ((a - scrBase) / 2 ^ 19)) else none

/-- Whether no link leads from a die to the scratchpad or cellar of an address: an access of it waits (R395; log 99). -/
def cutOff (s : State) (d a : Nat) : Bool := (memDie a).any fun x => !dieReach s d x

/-- Whether an engine context refuses an operation: it refuses its issuer's requests, or its engine is not the instruction's (R401, R402). -/
def refusesOperation (s : State) (r : Req) : Bool :=
  let h := handleOf r.cmp
  engineRefuses s r h || (if r.kind = .istrm then handleEng h != 3 else handleEng h == 3)

/-- Whether an operation waits for room in the queue of its engine context (R399). -/
def operationWaits (s : State) (r : Req) : Bool :=
  let h := handleOf r.cmp
  bothReach s r.issueDie (handleDie h) && resetStage s (handleDie h) == 0 && !refusesOperation s r && decide (64 ≤ (s.engine h).queue.length)

/-- An operation arrives at its engine context, once a link leads there (R395): it is refused, waits while the queue is full, or takes the next number and joins
the queue (R399, R401, R420). -/
def acceptOp (s : State) (r : Req) : State × Perf :=
  let h := handleOf r.cmp
  let e := s.engine h
  if !bothReach s r.issueDie (handleDie h) then (s, .stay)
  else if resetStage s (handleDie h) != 0 then (s, .fail (Cause.engdown, word h))
  else if refusesOperation s r then (s, .fail (Cause.engbind, word h))
  else if 64 ≤ e.queue.length then (s, .stay)
  else
    let op : EngOp := { req := r, num := e.nextOp, done := 0, core := opCore s r, block := none, written := false, failed := none }
    let s := s.setEngine h { e with nextOp := e.nextOp + 1, queue := e.queue ++ [op] }
    if r.cmpl then (s, .taken) else (s, .done (BitVec.ofNat 2048 e.nextOp) false)

/-! ## Waits and reads of a timeline (R249, R403, R404) -/

/-- Whether a TLWAIT or WPWAIT at the context of handle `h` is satisfied, with its reply's value and taint. The length of an operation that the
context does not hold, of number 0 or of before a warm start of the package, is a free value (R249; log 137). A completion reply that waits for
a link has its number and taint. -/
def waitAnswer (h : Nat) (e : Engine) (r : Req) : Option (Nat × Bool) :=
  let n := low 64 r.data.toNat
  if r.kind = .copy ∨ r.kind = .istrm then some (n / 2, n % 2 == 1)
  else if r.kind = .tlwait then (if n ≤ e.etl then some (e.etl, engineTaints e n) else none)
  else if n ≤ e.etl then
    some (match Tab.get 0 e.lens n with
      | 0 => ((Config.heldLength h n).toNat, false)
      | l + 1 => (l / 2, l % 2 == 1))
  else match e.queue.head? with
    | some op => if op.num = n && decide (r.cmp.toNat ≤ op.done) then some (op.done, false) else none
    | none => none

/-- The waits of a context, of which it holds sixteen (R403). -/
def Engine.held (e : Engine) : Nat := e.waits.countP fun r => r.kind == .tlwait || r.kind == .wpwait

/-- Whether a TLWAIT or WPWAIT waits for one of the sixteen places of its context (R403). -/
def waitWaits (s : State) (r : Req) : Bool :=
  let h := handleOf r.aux
  bothReach s r.issueDie (handleDie h) && !engineRefuses s r h && (waitAnswer h (s.engine h) r).isNone && decide (16 ≤ (s.engine h).held)

/-- TLWAIT or WPWAIT at its context, once a link leads there (R395): answered, refused, or kept among the sixteen waits. -/
def waitOp (s : State) (r : Req) : State × Perf :=
  let h := handleOf r.aux
  let e := s.engine h
  if !bothReach s r.issueDie (handleDie h) then (s, .stay)
  else if engineRefuses s r h then (s, .fail (Cause.engbind, r.aux))
  else match waitAnswer h e r with
    | some (v, t) => (s, .done (BitVec.ofNat 2048 v) t)
    | none =>
      if 16 ≤ e.held then (s, .stay) else (s.setEngine h { e with waits := e.waits ++ [r] }, .taken)

/-- TLRD at its context, once a link leads there (R395). -/
def readTimeline (s : State) (r : Req) : State × Perf :=
  let h := handleOf r.aux
  let e := s.engine h
  if !bothReach s r.issueDie (handleDie h) then (s, .stay)
  else if engineRefuses s r h then (s, .fail (Cause.engbind, r.aux))
  else (s, .done (BitVec.ofNat 2048 (if r.op = 0 then e.etl else if r.op = 1 then e.faillo else e.nextOp)) false)

/-- The answer of a wait of a context that is satisfied and whose reply a link lets through (R395; log 99). -/
def waitReply (s : State) (h : Nat) (r : Req) : Option (Nat × Bool) :=
  if dieReach s (handleDie h) r.issueDie then waitAnswer h (s.engine h) r else none

/-- Answers the waits of a context that are now satisfied. -/
def serveWaits (s : State) (h : Nat) : State :=
  let old := s
  let e := s.engine h
  let s := s.setEngine h { e with waits := e.waits.filter fun r => (waitReply old h r).isNone }
  e.waits.foldl (fun s r => match waitReply old h r with
    | some (v, t) => completeReq s r (BitVec.ofNat 2048 v) t
    | none => s) s

/-! ## Running an operation (R399 to R402, R407, R408) -/

/-- Where bytes of an engine access stand, in the numbering of memory (R401): the issuer's spaces, or GLB under ECTX.TEN on the
engine's die. -/
def engineAddr (s : State) (h : Nat) (op : EngOp) (space ea : Nat) (need : Need) : State × Resolved :=
  let r := op.req
  if space = 0 then (s, if ea < 2 ^ 19 then .at (scrAddr op.core ea) else .fail (Cause.spaceoob, word ea))
  else if space = 3 then
    if ea < 2 ^ 56 then resolveGlb s (handleDie h) (bits (s.engine h).ectx 46 39) ea need false
      (.engine h op.num op.done (need == .write))
    else (s, .fail (Cause.spaceoob, word ea))
  else if r.ofStew then match stewAddr s (r.elem - stewMark) (s.stew (r.elem - stewMark)) space ea with
    | .ok a => (s, .at a)
    | .error w => (s, .fail w)
  else (s, if inSpace s r.elem r.ctx space ea then .at (spaceAddr s r.elem r.ctx space ea) else .fail (Cause.spaceoob, word ea))

/-- Source and destination of the byte at progress `i` of an operation, and how many bytes follow in one block (R401, R402). The index
of an ISTRM is a read of the scratchpad (R219), which waits, as the cause 0 says, while no link leads there (R395); where its row is not in the
issuer's declared ranges, it answers the failing byte. -/
def opBlock (s : State) (op : EngOp) (i : Nat) : State × Except Why (Nat × Nat × Nat) :=
  let r := op.req
  let len := opLength r.kind r.cmp
  let dst := r.aux.toNat + i
  if r.kind = .istrm then
    let rowBytes := 16 * bits r.cmp 47 40
    let n := if bitOf r.cmp 38 then 8 else 4
    let j := i / rowBytes
    if !dieReach s (handleDie (handleOf r.cmp)) (dieOf op.core) then (s, .error (0, 0))
    else match readAt s .engine none (scrAddr op.core (bits r.cmp 27 9 + j * n)) n (bits r.cmp 27 9 + j * n) with
    | (s, .error w) => (s, .error w)
    | (s, .ok idx) =>
      let row := (r.ea + idx * rowBytes) % 2 ^ 64
      let src := row + i % rowBytes
      let bad := if r.ofStew then none else uncovered (rangeSpans r.ranges r.ssp true false) 9 row (row + rowBytes)
      (s, match bad with
        | some b => .error (Cause.rangeout, word b)
        | none => .ok (src, dst, min (rowBytes - i % rowBytes) (min (256 - src % 256) (256 - dst % 256))))
  else (s, .ok (r.ea + i, dst, min (len - i) (min (256 - (r.ea + i) % 256) (256 - dst % 256))))

/-- Lines that the pinned partition of a die holds (R372, R377). -/
def pinnedRoom (s : State) (d : Nat) : Nat := bits (s.die d).celsplit 6 4 * 2 ^ 19

/-- A gather of reuse class 1 counts at its line's home, and pins the line where its counter reaches PINTHR (R377). -/
def countGather (s : State) (line : Nat) : State :=
  let h := lineHome s line
  let d := s.die h
  let c := min (Tab.get 0 d.freq (line % 4096) + 1) 65535
  let d := { d with freq := Tab.set 0 d.freq (line % 4096) c }
  let cnt := fun (l : Nat) => Tab.get 0 d.freq (l % 4096)
  let d :=
    if c < (bits d.pinthr 15 0) || d.pinned.contains line then d
    else if d.pinned.length < pinnedRoom s h then { d with pinned := d.pinned ++ [line] }
    else match (d.pinned.map cnt).min? with
      | some m => match d.pinned.find? fun l => cnt l == m with
        | some v => if m < c then { d with pinned := d.pinned.erase v ++ [line] } else d
        | none => d
      | none => d
  ((s.die h).pinned.filter fun v => !d.pinned.contains v).foldl (fun s v => trimSet s h v) (s.setDie h d)

/-- The reuse class that the reads of an operation's next block carry: that of an ISTRM, 2 at the begin of a row (R402). -/
def rowClass (op : EngOp) : Nat :=
  if op.req.kind = .istrm && bitOf op.req.cmp 39 then (if op.done % (16 * bits op.req.cmp 47 40) = 0 then 2 else 1) else 0

/-- A read that carries reuse class 1 counts, at their homes, the lines that its row reaches with it: the lines that begin in the block, and the
first of a row (R377). -/
def countReads (s : State) (rcls a n : Nat) : State :=
  if rcls != 0 && inHbm a n then ((linesOf a n).filter fun l => rcls == 2 || decide (a ≤ l * 128)).foldl countGather s else s

/-- The part of an engine's block that another device performs (R401, R455): part 0 reads, with the reuse class of a row, part 1 writes. -/
def blockPart (op : EngOp) (h dev ea n part : Nat) (data : Vec) : Req :=
  { op.req with kind := if part = 0 then .ld else .st, space := 3, ea := ea, size := n, data := data, dev := dev, reply := [],
                parent := some (.engine h), part := part, rcls := if part = 0 then rowClass op else 0 }

/-- Whether an engine context awaits another device. -/
def engineAwaits (s : State) (h : Nat) : Bool := s.pkg.outstanding.any fun r => r.parent == some (.engine h)

/-- Changes the running operation of a context. -/
def mapRunning (s : State) (h : Nat) (f : EngOp → EngOp) : State :=
  s.setEngine h { s.engine h with queue := (s.engine h).queue.mapIdx fun i o => if i = 0 then f o else o }

/-- Reads a block of an operation: another device's bytes are asked of it. The cause 0 stands for a wait. -/
def engineRead (s : State) (h : Nat) (op : EngOp) (src n : Nat) : State × Except Why (List Byte) :=
  if engineAwaits s h then (s, .error (0, 0))
  else match engineAddr s h op op.req.ssp src .read with
  | (s, .wait) => (s, .error (0, 0))
  | (s, .fail w) => (s, .error w)
  | (s, .at a) =>
    if remoteBase ≤ a then
      (sendAway s (blockPart op h (a - remoteBase) src n 0 0), .error (0, 0))
    else if cutOff s (handleDie h) a || inHbm a n && homeHolds s a n (die := some (handleDie h)) then (s, .error (0, 0))
    else match readAt (countReads s (rowClass op) a n) .engine none a n src with
      | (s, .ok v) => (s, .ok (bytesOfNum n v))
      | (s, .error w) => (s, .error w)

/-- Writes a block of an operation: for another device's bytes, the write is awaited (R408, R449). -/
def engineWrite (s : State) (h : Nat) (op : EngOp) (dst : Nat) (bs : List Byte) : State × Except Why Unit :=
  if engineAwaits s h then (s, .error (0, 0))
  else match engineAddr s h op op.req.dsp dst .write with
  | (s, .wait) => (s, .error (0, 0))
  | (s, .fail w) => (s, .error w)
  | (s, .at a) =>
    if remoteBase ≤ a then
      (sendAway s (blockPart op h (a - remoteBase) dst bs.length 1 (BitVec.ofNat 2048 (numOfBytes bs))), .error (0, 0))
    else if cutOff s (handleDie h) a || inHbm a bs.length && homeHolds s a bs.length true (die := some (handleDie h)) then (s, .error (0, 0))
    else writeAt s .engine none a bs dst

/-- One block of the running operation of a context: its bytes are kept while their write waits. The cause 0 stands for a block that
must wait. -/
def engineBlock (s : State) (h : Nat) (op : EngOp) : State × Except Why Nat :=
  match op.failed with
  | some w => (s, .error w)
  | none => match opBlock s op op.done with
    | (s, .error w) => (s, .error w)
    | (s, .ok (src, dst, n)) =>
      let got : State × Except Why (List Byte) := match op.block with
        | some bs => (s, .ok bs)
        | none => engineRead s h op src n
      match got with
      | (s, .error w) => (s, .error w)
      | (s, .ok bs) =>
        if op.written then (s, .ok n)
        else match engineWrite s h op dst bs with
          | (s, .error w) => (if w.1 = 0 then mapRunning s h fun o => { o with block := some bs } else s, .error w)
          | (s, .ok ()) => (s, .ok n)

/-- Another device answers a part of the running block of a context. -/
def blockAnswered (s : State) (r : Req) (h : Nat) (ans : Except Why Vec) : State := mapRunning s h fun o => match ans with
  | .error w => { o with failed := some w }
  | .ok v => if r.part = 0 then { o with block := some (bytesOfNum r.size v.toNat) } else { o with written := true }

/-- The end of the running operation: ETL, FAILLO, the record of a failure, the completion reply, and the waits (R400, R405),
as far as a link leads to where they go (R395; log 99). -/
def endOp (s : State) (h : Nat) (op : EngOp) (failed : Option Why) : State :=
  let e := s.engine h
  let e := { e with etl := op.num, queue := e.queue.drop 1,
                    faillo := if failed.isSome && e.faillo == 0 then op.num else e.faillo,
                    lens := Tab.set 0 e.lens op.num (opLength op.req.kind op.req.cmp * 2 + ofBool failed.isSome + 1) }
  let s := s.setEngine h e
  let r := op.req
  let s := match failed with
    | none => s
    | some w =>
      if r.ofStew then
        let n := r.elem - stewMark
        let rec0 : TrapRec := { w0 := recWord0 w.1 0 0 false true 7 s.devId (stewDie n) (stewCluster n % 4) 0 0 0 0 0, w1 := 0, w2 := 0, w3 := w.2 }
        if n = 20 then queueReeve s rec0 else queueAsync s (stewCluster n) rec0
      else asyncRecord s w.1 r.elem r.ctx r.ent r.slot r.ts w.2
  let reply := { r with data := BitVec.ofNat 2048 (2 * op.num + ofBool (engineTaints e op.num)) }
  let s := if r.cmpl then s.setEngine h { s.engine h with waits := reply :: (s.engine h).waits } else s
  serveWaits s h

/-- Whether the stores before a request in its firing have been performed: an engine may then begin to read for it (R407). -/
def storesDone (s : State) (r : Req) : Bool :=
  r.ofStew || match findRelease (s.elem r.elem) r.rel with
    | none => true
    | some x => x.out.all fun o => !(o.write && decide (o.ord < r.ord))

/-- Runs the operation at the head of a context until it ends, waits, or `fuel` blocks are done; answers whether it goes on. -/
def runBlocks (s : State) (h : Nat) : Nat → State
  | 0 => s
  | n + 1 => match (s.engine h).queue.head? with
    | none => s
    | some op =>
      if op.done = opLength op.req.kind op.req.cmp then endOp s h op none
      else match engineBlock s h op with
        | (s, .error w) => if w.1 = 0 then s else endOp s h op (some w)
        | (s, .ok k) =>
          runBlocks (mapRunning (chargeReq s op.req) h fun o => { o with done := o.done + k, block := none, written := false }) h n

/-- ENGINE_OPERATION_END: the running operation of a context goes on to its end; a fast-throttled die's engines start no block (R418). -/
def execEngineOperationEnd (s : State) : Host.Outcome State Fault Refusal :=
  let h := s.event.unit
  .next (match (s.engine h).queue.head? with
    | some op =>
      if !storesDone s op.req || bitOf s.pkg.govstat (handleDie h) then s
      else if resetStage s (handleDie h) = 4 || resetStage s (handleDie h) = 5 then s
      else runBlocks s h (opLength op.req.kind op.req.cmp / 16 + 2)
    | none => s)

/-- ENGINE_WRITE_POINTER: the running operation writes one more block, and the waits that its write pointer passes are
answered (R249), as are those whose reply waited for a link (R395). A fast-throttled die's engines start no block (R418). -/
def execEngineWritePointer (s : State) : Host.Outcome State Fault Refusal :=
  let h := s.event.unit
  .next (match (s.engine h).queue.head? with
    | some op =>
      if !storesDone s op.req || bitOf s.pkg.govstat (handleDie h) || op.done == opLength op.req.kind op.req.cmp then serveWaits s h
      else serveWaits (runBlocks s h 1) h
    | none => serveWaits s h)

/-! ## The instructions -/

/-- COPY and ISTRM (R401, R402, R405). -/
def engineInstr (o : Ops) (s : State) (kind : ReqKind) : Host.Outcome State Fault Refusal :=
  withAgent s fun x => match x with
    | .firing e f =>
      let r := { engineReq s x o (newReq s e f kind (memReply o)) with ranges := ctxRanges s e f.frame.ctx }
      if bufferBusy s e f then s
      else if engineDescBad r then raise s Cause.engdesc r.cmp
      else match issueReq s e f (engineParts r) r with
        | .error w => raise s w.1 w.2
        | .ok f => finish s o (.firing e f)
    | .stew n st =>
      let r := engineReq s x o (stewReq n kind)
      let parts := engineParts r
      if engineDescBad r then raise s Cause.engdesc r.cmp
      else match parts.findSome? fun p =>
          (p.ea :: (if p.space = 1 then coreSteps p.ea p.len else []) ++ [p.ea + p.len - 1]).findSome? fun a =>
            match stewAddr s n st p.space a with
            | .error w => some w
            | .ok _ => none with
        | some w => raise s w.1 w.2
        | none => match parts.find? fun p => p.ea % p.align != 0 with
          | some p => raise s Cause.misalign (word p.ea)
          | none => match acceptOp s r with
            | (s, .done v _) => finish s o ((Agent.stew n (s.stew n)).setScalar o.d (low 64 v.toNat))
            | (s, .fail w) => raise s w.1 w.2
            | (s, .stay) => s
            | (s, .taken) => s.setStew n { s.stew n with waiting := some (.request r, Spec.code o.d) }

/-- COPY. -/
def execCopy (o : Ops) (s : State) : Host.Outcome State Fault Refusal := engineInstr o s .copy
/-- ISTRM. -/
def execIstrm (o : Ops) (s : State) : Host.Outcome State Fault Refusal := engineInstr o s .istrm

/-- TLWAIT and TLRD: split-phase in a firing, the steward waits for the answer of TLWAIT. -/
def timelineInstr (o : Ops) (s : State) (kind : ReqKind) (perform : State → Req → State × Perf) :
    Host.Outcome State Fault Refusal :=
  withAgent s fun x =>
    let fill := fun (r : Req) =>
      { r with aux := word (srcWord s x o o.a), data := BitVec.ofNat 2048 (if kind = .tlwait then srcWord s x o o.b else 0),
               op := if kind = .tlwait then 0 else xField o.x 1 0 }
    match x with
    | .firing e f =>
      if bufferBusy s e f then s
      else finish s o (.firing e (f.addReq (fill (newReq s e f kind (memReply o))) (routeWord s e f.frame.ctx (memReply o))))
    | .stew n _ =>
      let r := fill (stewReq n kind)
      match perform s r with
      | (s, .done v _) => finish s o ((Agent.stew n (s.stew n)).setScalar o.d (low 64 v.toNat))
      | (s, .fail w) => raise s w.1 w.2
      | (s, .stay) => s
      | (s, .taken) => s.setStew n { s.stew n with waiting := some (.request r, Spec.code o.d) }

/-- TLWAIT (R403). -/
def execTlwait (o : Ops) (s : State) : Host.Outcome State Fault Refusal := timelineInstr o s .tlwait waitOp
/-- TLRD (R404). -/
def execTlrd (o : Ops) (s : State) : Host.Outcome State Fault Refusal := timelineInstr o s .tlrd readTimeline

end Sys2Proof.Machine
end

