-- ==== Sys2Proof/Machine/Fabric.lean ====
section
/-! DEFINITION. The Utern fabric's instructions and units: RLD, RST, RATOM (R437 to R440), JOIN and LEAVE with the muster keeper
(R441 to R445), COLL with the collective engine (R446, R447). SENDM issues with the sends. -/

namespace Sys2Proof.Machine

/-! ## Remote requests (R437 to R440) -/

/-- The device that a target descriptor or a field of twelve bits names: 0xFFF is this one. -/
def deviceNamed (s : State) (n : Nat) : Nat := if n = 0xFFF then s.devId else n
/-- MUS of a target descriptor. -/
def targetMuster (b : W64) : Bool := bitOf b 63
/-- The scope code of fabric scope (R54). -/
def fabricScope : Nat := 4

/-- The request of RLD or RST: the target descriptor in `aux`. -/
def remoteReq (s : State) (x : Agent) (o : Ops) (r : Req) : Req :=
  let b := word (srcWord s x o o.b)
  let n := sizeBytes (xField o.x 17 15)
  { r with space := 3, ea := wrapInt 64 (srcWord s x o o.a + signed 15 (xField o.x 14 0)), size := n, aux := b,
           dev := deviceNamed s (bits b 11 0), ty := o.ty, scope := fabricScope,
           data := if r.kind = .rst then BitVec.ofNat 2048 (low (8 * n) (srcWord s x o (thirdSpec o))) else 0 }

/-- The request of RATOM. -/
def remoteAtomReq (s : State) (x : Agent) (o : Ops) (r : Req) : Req :=
  let b := word (srcWord s x o o.b)
  { r with space := 3, ea := srcWord s x o o.a, size := sizeBytes (xField o.x 5 3), aux := b, dev := deviceNamed s (bits b 11 0),
           data := BitVec.ofNat 2048 (atomOperand s x o (thirdSpec o)), cmp := word (atomCmp s x o), op := aopOf o.x, m := o.m, ty := o.ty,
           rlse := xBit o.x 13, acq := xBit o.x 12, scope := fabricScope }

/-- A remote request as its target performs it (R438): translated on the die of its port under the requester's tenant, never
against a window; none while it must wait at its home. A read of reuse class 1 counts there (R377). -/
def remoteAt (s : State) (who : Issuer) (d ten : Nat) (r : Req) : State × Except Why (Option Nat) :=
  if statusBase ≤ r.ea then (s, .error (Cause.permflt, word r.ea))
  else match translate s d ten r.ea r.kind.need with
    | (s, .fail w) => (s, .error w)
    | (s, .wait) => (s, .ok none)
    | (s, .at a) =>
      if inHbm a r.size && homeHolds s a r.size (r.kind.need == .write) (die := some d) then (s, .ok none)
      else if r.kind = .rld || r.kind = .ld || r.kind = .ldv then match readAt (countReads s r.rcls a r.size) who none a r.size r.ea with
        | (s, .ok v) => (s, .ok (some v))
        | (s, .error w) => (s, .error w)
      else if r.kind = .rst || r.kind = .st || r.kind = .stv then match writeAt s who none a (bytesOfNum r.size r.data.toNat) r.ea with
        | (s, .ok ()) => (s, .ok (some 0))
        | (s, .error w) => (s, .error w)
      else match atomAt s who a r.size r.ea r.op r.m (low 64 r.data.toNat) r.cmp.toNat with
        | (s, .ok v) => (s, .ok (some v))
        | (s, .error w) => (s, .error w)

/-- Runs `k` for a remote request whose data, of an RST, is no malformed aif13 container (R72, R118). -/
def withRemoteData (s : State) (r : Req) (k : State) : State := if r.kind = .rst then withContainer s r.ty r.data.toNat k else k

/-- A remote instruction (R437, R438, R440). The data of RST is checked as it is read, and then BADTARGET before the rest. -/
def remoteInstr (o : Ops) (s : State) (kind : ReqKind) (form : State → Agent → Ops → Req → Req) :
    Host.Outcome State Fault Refusal :=
  withAgent s fun x => match x with
    | .firing e f =>
      let r := form s x o (newReq s e f kind (memReply o))
      if bufferBusy s e f then s
      else withRemoteData s r <| if targetMuster r.aux && kind != .rst then raise s Cause.badtarget r.aux
      else match issueReq s e f (onePart 3 r.ea r.size (kind != .rst) (kind != .rld)) r with
        | .error w => raise s w.1 w.2
        | .ok f' => if deadPeer s r.dev then raise s Cause.deadpeer (word r.dev) else finish s o (.firing e f')
    | .stew n st =>
      let r := form s x o (stewReq n kind)
      withRemoteData s r <| if targetMuster r.aux then raise s Cause.badtarget r.aux
      else match stewAddr s n st 3 r.ea with
        | .error w => raise s w.1 w.2
        | .ok _ =>
          if r.ea % r.size != 0 then raise s Cause.misalign (word r.ea)
          else if deadPeer s r.dev then raise s Cause.deadpeer (word r.dev)
          else if r.dev = s.devId then match remoteAt s (.stew n) (stewDie n) 0 r with
            | (s, .error w) => raise s w.1 w.2
            | (s, .ok none) => s
            | (s, .ok (some v)) => finish s o ((Agent.stew n (s.stew n)).setScalar o.d v)
          else sendAway (s.setStew n { st with waiting := some (.request r, Spec.code o.d) }) r

/-- RLD. -/
def execRld (o : Ops) (s : State) : Host.Outcome State Fault Refusal := remoteInstr o s .rld remoteReq
/-- RST. -/
def execRst (o : Ops) (s : State) : Host.Outcome State Fault Refusal := remoteInstr o s .rst remoteReq
/-- RATOM. -/
def execRatom (o : Ops) (s : State) : Host.Outcome State Fault Refusal := remoteInstr o s .ratom remoteAtomReq

/-! ## Muster sets at their keeper (R441, R442) -/

/-- A muster set of this device. -/
def musterOf (s : State) (mid : Nat) : Muster := Tab.get Muster.init s.pkg.musters mid
/-- Replaces a muster set. -/
def setMuster (s : State) (mid : Nat) (m : Muster) : State :=
  { s with pkg := { s.pkg with musters := Tab.set Muster.init s.pkg.musters mid m } }
/-- The members of a set with their slots, ascending. -/
def Muster.slots (m : Muster) : List (Nat × Member) := m.members.zipIdx.filterMap fun (x, i) => x.map fun y => (i, y)
/-- The mask of some slots. -/
def slotMask (l : List (Nat × Member)) : Nat := l.foldl (fun a (k, _) => a ||| 2 ^ k) 0
/-- MID of a muster route word (R56). -/
def routeMid (r : W64) : Nat := bits r 16 9

/-- JOIN or LEAVE, X of R442: the member in `aux` (location × 4 + SIDE), the image in `cmp`, the set in `op`. -/
def memberInstr (o : Ops) (s : State) (kind : ReqKind) : Host.Outcome State Fault Refusal :=
  buffered o s fun e f =>
    let r := routeWord s e f.frame.ctx (xField o.x 28 24)
    let reply := xField o.x 17 13
    let loc := locOf s.devId (coreOf e) (e % 4) f.frame.ctx (xField o.x 22 20)
    let q := { newReq s e f kind reply with
      op := routeMid r, dev := routeDev s r, aux := word (loc * 4 + xField o.x 19 18), cmp := word (ctxImage s e f.frame.ctx) }
    if deadPeer s q.dev then .error (Cause.deadpeer, word q.dev)
    else .ok (f.addReq q (routeWord s e f.frame.ctx reply))

/-- JOIN. -/
def execJoin (o : Ops) (s : State) : Host.Outcome State Fault Refusal := memberInstr o s .join
/-- LEAVE. -/
def execLeave (o : Ops) (s : State) : Host.Outcome State Fault Refusal := memberInstr o s .leave

/-- The member that a JOIN or LEAVE names. -/
def reqMember (r : Req) : Member := { loc := r.aux.toNat / 4, side := r.aux.toNat % 4 }

/-- A JOIN at its keeper (R442). -/
def performJoin (s : State) (r : Req) : State :=
  let m := musterOf s r.op
  let img := r.cmp.toNat
  match m.slots.find? fun (_, x) => x == reqMember r with
  | some (k, _) => completeReq s r (BitVec.ofNat 2048 k)
  | none => match m.image with
    | some i =>
      if i != img then failReq s r (Cause.mustimg, word i)
      else match (List.range 64).find? fun k => (m.members.getD k none).isNone with
        | some k => completeReq (setMuster s r.op { m with members := setAt m.members k (some (reqMember r)) }) r (BitVec.ofNat 2048 k)
        | none => failReq s r (Cause.mustfull, word r.op)
    | none =>
      completeReq (setMuster s r.op { m with image := some img, members := setAt m.members 0 (some (reqMember r)) }) r 0

/-- A LEAVE at its keeper (R442). -/
def performLeave (s : State) (r : Req) : State :=
  let m := musterOf s r.op
  match m.slots.find? fun (_, x) => x == reqMember r with
  | none => completeReq s r (BitVec.ofNat 2048 64)
  | some (k, _) =>
    let ms := setAt m.members k none
    let img := if ms.all fun x => x.isNone then none else m.image
    completeReq (setMuster s r.op { m with members := ms, image := img }) r (BitVec.ofNat 2048 k)

/-- MUSTER_OPERATION: the keeper performs the oldest JOIN or LEAVE that waits for a set, while nothing pins the set, metered as its request
(R389). -/
def execMusterOperation (s : State) : Host.Outcome State Fault Refusal :=
  let mid := s.event.unit
  let m := musterOf s mid
  .next (match m.queue with
    | [] => s
    | r :: rest =>
      if m.pins != 0 then s
      else
        let s := setMuster s mid { m with queue := rest }
        let s := chargeReq s r
        if r.kind = .join then performJoin s r else performLeave s r)

/-! ## Multicast (R444, R445) -/

/-- A SENDM token redirected to one member: a member of this device is counted in its own image, another device's in the sender's (R169,
R444). -/
def memberToken (s : State) (t : Token) (m : Member) : Token :=
  { t with h1 := setBits t.h1 63 31 (m.loc * 4 + m.side),
           region := if locDev m.loc = s.devId then ctxImage s (locCore m.loc * 4 + locEl m.loc) (locCtx m.loc) else t.region }

/-- Whether a branch to a member reaches its device. -/
def branchLives (s : State) (m : Member) : Bool := !deadPeer s (locDev m.loc)

/-- A copy of a SENDM goes to a member: to this device's network, as from element and route `src`, or to the member's device. -/
def launchCopy (s : State) (sender : Nat × Nat × Nat × Nat) (t : Token) (src : Option (Nat × Nat)) (net all slot : Nat) : State :=
  let dev := locDev (tokLoc t)
  match if dev = s.devId then none else devicePort s dev with
  | some p => { s with out := .copy p dev t sender all slot :: s.out }
  | none => launch s t src net

/-- The sender of a fork that is not whole is told the slots delivered: by a record to its handler, or by a message to its device, whose set
stands for it (R444). -/
def reportFork (s : State) (sender : Nat × Nat × Nat × Nat) (ts : W64) (slots : Nat) : State :=
  let (e, ctx, ent, slot) := sender
  if outsideMark ≤ e then { s with out := .message 16 ctx ent slots 0 :: s.out }
  else asyncRecord s Cause.partmc e ctx ent slot ts (word slots)

/-- The copies of a SENDM, whose sender is an element, a context, an entry and a slot, by this device's keeper to the members of a snapshot: each is counted, and then it leaves; a dead branch
is dropped and counted off, tainted, and the sender's handler gets PARTMC (R444). -/
def sendCopies (s : State) (sender : Nat × Nat × Nat × Nat) (tok : Token) (route net : Nat) (ms : List (Nat × Member)) : State :=
  let e := sender.1
  let (s, toks) := countAll s (clusterOf (coreOf e)) (ms.map fun (_, m) => memberToken s tok m)
  let live := ms.filter fun (_, m) => branchLives s m
  let s := (ms.zip toks).foldl (fun s ((k, m), t) =>
    if branchLives s m then launchCopy s sender t (some (e, route)) net (slotMask live) k else dropCounted s t) s
  if live.length = ms.length then s else reportFork s sender tok.ts (slotMask live)

/-- The fork of another device's SENDM over a set that this device keeps: a copy goes to each pinned member, a dead branch is dropped, and
the sender is told of a fork that is not whole (R444). Each copy carries the tag of the batch that holds its own +1, 16 bits for each slot of
`tags` (R313). -/
def forkFor (s : State) (dev mid : Nat) (tok : Token) (net tags : Nat) : State :=
  let ms := (musterOf s mid).slots
  let live := ms.filter fun (_, m) => branchLives s m
  let sender := (outsideMark, dev, mid, 0)
  let s := ms.foldl (fun s (k, m) =>
    let t := memberToken s { tok with h2 := setBits tok.h2 45 30 (tags >>> (16 * k) % 2 ^ 16) } m
    if branchLives s m then launchCopy s sender t none net (slotMask live) k else dropCounted s t) s
  let m := musterOf s mid
  let s := setMuster s mid { m with pins := m.pins - 1 }
  if live.length = ms.length then s else reportFork s sender tok.ts (slotMask live)

/-- The snapshot of a set that another device's keeper has answered: the mask of slots, two side bits a slot, and locations of 31
bits. -/
def answeredMembers (mask sides locs : Nat) : List (Nat × Member) :=
  (List.range 64).filterMap fun k =>
    if mask.testBit k then some (k, { loc := (locs >>> (31 * k)) % 2 ^ 31, side := (sides >>> (2 * k)) % 4 }) else none

/-- A SENDM whose set another device keeps: each copy is counted, and the token goes to the keeper (R444). An empty snapshot sends
nothing. -/
def sendToKeeper (s : State) (e : Nat) (tok : Token) (keeper : Nat) (ms : List (Nat × Member)) : State :=
  if ms.isEmpty then s
  else
    let (s, toks) := countAll s (clusterOf (coreOf e)) (ms.map fun (_, m) => memberToken s tok m)
    { s with out := .fork ((devicePort s keeper).getD 0) keeper toks :: s.out }

/-- The distinct devices of some members. -/
def memberDevices (ms : List (Nat × Member)) : List Nat := (ms.map fun (_, m) => locDev m.loc).eraseDups

/-- The outcome of a multicast store: the mask, and where it is not whole a tainted decrement and PARTMC (R445). Another device's
request is answered with the mask performed and the mask of all. -/
def multicastDone (s : State) (r : Req) (all done : Nat) : State :=
  let out := decide (outsideMark ≤ r.elem)
  let s := completeReq s r (BitVec.ofNat 2048 (done + (if out then all * 2 ^ 64 else 0)))
  if all = done || out then s
  else settle (asyncRecord s Cause.partmc r.elem r.ctx r.ent r.slot r.ts (word done)) r true

/-- A multicast store over a set that this device keeps: performed here at once where a member is of this device, and sent to
the other members' devices; the set stays pinned until they have answered (R445). -/
def multicastStore (s : State) (r : Req) : State × Perf :=
  let mid := bits r.aux 19 12
  let ms := (musterOf s mid).slots
  let all := slotMask ms
  let own := slotMask (ms.filter fun (_, m) => locDev m.loc == s.devId)
  let far := (memberDevices ms).filter fun d => d != s.devId && !deadPeer s d
  let farSlots := slotMask (ms.filter fun (_, m) => far.contains (locDev m.loc))
  let core := coreOf r.elem
  let (s', res) : State × Except Why (Option Nat) :=
    if !(musterOf s mid).queue.isEmpty then (s, .ok none)
    else if own = 0 then (s, .ok (some 0))
    else if outsideMark ≤ r.elem then remoteAt s .engine r.home r.port r
    else remoteAt s (.firing core (ctxImage s r.elem r.ctx)) (dieOf core) (tenantOf s core) r
  match res with
  | .ok none => (s', .stay)
  | res =>
    let done := match res with
      | .ok _ => own
      | .error _ => 0
    if far.isEmpty then (multicastDone s' r all done, .taken)
    else
      let s' := far.foldl (fun s d => { s with out := .request ((devicePort s d).getD 0) d { r with dev := d } :: s.out }) s'
      let m := musterOf s' mid
      let s' := setMuster s' mid { m with pins := m.pins + 1 }
      ({ s' with pkg := { s'.pkg with outstanding := s'.pkg.outstanding ++ [{ r with data2 := BitVec.ofNat 2048 (done + all * 2 ^ 64 + farSlots * 2 ^ 128) }] } },
       .taken)

/-! ## Collectives (R446, R447) -/

/-- MID of a collective request. -/
def Req.collMid (r : Req) : Nat := r.size
/-- OP of a collective request. -/
def Req.collOp (r : Req) : Nat := r.op % 16
/-- SSP of a collective request. -/
def Req.collSsp (r : Req) : Nat := r.op / 16 % 8
/-- DSP of a collective request. -/
def Req.collDsp (r : Req) : Nat := r.op / 128 % 8

/-- Whether a COLL descriptor is bad (R446). -/
def collDescBad (c : W64) : Bool := bits c 31 6 != 0 || bits c 63 32 % 256 != 0 || bits c 63 32 == 0

/-- COLL (R446): no check of ranges at issue is stated; a source that cannot be read fails the instance. A steward is never a
member; no set is named there, so the DETAIL is open (log 16). -/
def execColl (o : Ops) (s : State) : Host.Outcome State Fault Refusal :=
  withAgent s fun x => match x with
    | .stew _ _ => raise s Cause.mustnone (Config.openWord s.stepNo)
    | .firing e f =>
      let rt := routeWord s e f.frame.ctx (xField o.x 17 13)
      let r := { newReq s e f .coll (memReply o) with
        ea := srcWord s x o o.a, aux := word (srcWord s x o o.b), cmp := word (srcWord s x o (thirdSpec o)), ty := o.ty, m := o.m,
        op := xField o.x 12 9 + 16 * xField o.x 8 6 + 128 * xField o.x 5 3, size := routeMid rt, dev := routeDev s rt,
        scope := fabricScope }
      if bufferBusy s e f then s
      else if collDescBad r.cmp then raise s Cause.engdesc r.cmp
      else if deadPeer s r.dev then raise s Cause.deadpeer (word r.dev)
      else finish s o (.firing e (f.addReq r (routeWord s e f.frame.ctx (memReply o))))

/-- The location that contributes: the firing's entry, or the one that another device's request names. -/
def Req.contributor (s : State) (r : Req) : Nat :=
  if outsideMark ≤ r.elem then low 64 r.data.toNat else locOf s.devId (coreOf r.elem) (r.elem % 4) r.ctx r.ent

/-- Whether two contributions agree on LEN, T, OP and ROOT. -/
def sameCollective (r q : Req) : Bool := r.cmp == q.cmp && r.ty == q.ty && r.collOp == q.collOp

/-- The engine has accepted a contribution: the firing's decrement may go (R447 step 2). -/
def acceptContribution (s : State) (r : Req) : State :=
  if outsideMark ≤ r.elem then { s with out := .message 14 r.dev r.collMid 0 0 :: s.out } else settle s r false

/-- Whether every pinned member of an instance has contributed. -/
def Collective.whole (c : Collective) : Bool := c.pinned.all fun (k, _) => c.given.any fun (j, _) => j == k

/-- A set is no longer pinned by one of its users. -/
def unpin (s : State) (mid : Nat) : State :=
  let m := musterOf s mid
  setMuster s mid { m with pins := m.pins - 1 }

/-- Replaces a collective instance. -/
def putCollective (s : State) (c : Collective) : State :=
  { s with pkg := { s.pkg with collectives := s.pkg.collectives.map fun x => if x.mid = c.mid ∧ x.ts = c.ts then c else x } }

/-- A contribution reaches the keeper's collective engine, which accepts it; the first pins the set's membership until the last (R447
steps 1 and 2). -/
def contribute (s : State) (r : Req) : State × Perf :=
  let mid := r.collMid
  let m := musterOf s mid
  let loc := r.contributor s
  match s.pkg.collectives.find? fun c => c.mid == mid && c.ts == r.ts with
  | some c => match c.pinned.find? fun (_, x) => x.loc == loc with
    | none => (s, .fail (Cause.mustnone, word mid))
    | some (k, _) =>
      let bad := c.given.any fun (j, q) => j == k || !sameCollective r q
      let c' := { c with given := c.given ++ [(k, r)], failed := c.failed || bad }
      let s := putCollective s c'
      (acceptContribution (if !c.whole && c'.whole then unpin s mid else s) r, .taken)
  | none => if !m.queue.isEmpty then (s, .stay) else match m.slots.find? fun (_, x) => x.loc == loc with
    | none => (s, .fail (Cause.mustnone, word mid))
    | some (k, _) =>
      let c : Collective := { mid := mid, ts := r.ts, pinned := m.slots, given := [(k, r)], done := 0, failed := false, read := [], wrote := [] }
      let s := if c.whole then s else setMuster s mid { m with pins := m.pins + 1 }
      (acceptContribution { s with pkg := { s.pkg with collectives := s.pkg.collectives ++ [c] } } r, .taken)

/-- One element of the combination, in ascending slot order (R447 step 4). The elements of bf16 are read exactly as f32. -/
def collStep (op : Nat) (t : Ty) (m : BitVec 2) (acc x : Nat) : Nat :=
  if op = 0 then
    (if t = .b32 then sat .b32 (readByM .b32 m acc + readByM .b32 m x) m else fadd .f32 m acc x)
  else if t = .b32 then
    (if (op == 1) == decide (readS .b32 acc < readS .b32 x) then x else acc)
  else fminmax .f32 (op == 1) acc x

/-- An element of the result from those of the members, ascending. -/
def collElement (op : Nat) (t : Ty) (m : BitVec 2) (xs : List Nat) : Nat :=
  let wide := fun x => if t = .bf16 then fcvt .f32 .bf16 false m x else x
  match xs.map wide with
  | [] => 0
  | x :: rest =>
    let acc := rest.foldl (collStep op t m) x
    if t = .bf16 then fcvt .bf16 .f32 false m acc else acc

/-- A block of 256 bytes of the result from those of the members, ascending; broadcast takes ROOT's. -/
def collBlock (op : Nat) (t : Ty) (m : BitVec 2) (root : Nat) (blocks : List (Nat × Nat)) : Nat :=
  if op = 3 then ((blocks.find? fun (k, _) => k == root).map Prod.snd).getD 0
  else
    let w := Ty.width t
    packNum w ((List.range (2048 / w)).map fun i => collElement op t m (blocks.map fun (_, v) => (v >>> (w * i)) % 2 ^ w))

/-- Where bytes of a member's buffer stand (R446): its cellar scratch, or GLB under its tenant on the keeper's die. -/
def collAddr (s : State) (c : Collective) (r : Req) (space ea n part : Nat) : State × Resolved :=
  if outsideMark ≤ r.elem then (s, .at (remoteBase + r.dev))
  else if space = 2 then
    (s, if inSpace s r.elem r.ctx 2 ea && inSpace s r.elem r.ctx 2 (ea + n - 1) then .at (spaceAddr s r.elem r.ctx 2 ea)
        else .fail (Cause.spaceoob, word ea))
  else if ea + n ≤ 2 ^ 56 then resolveGlb s (c.mid % 4) (tenantOf s (coreOf r.elem)) ea (if part % 2 = 0 then .read else .write) false
    (.collective c.mid c.ts c.done part)
  else (s, .fail (Cause.spaceoob, word ea))

/-- The parts of 256 bytes that cross no 256-byte boundary. -/
def blockParts (ea : Nat) : List (Nat × Nat) :=
  if ea % 256 = 0 then [(ea, 256)] else [(ea, 256 - ea % 256), (ea + (256 - ea % 256), ea % 256)]

/-- The part of a collective's block that another device performs: an even number reads the source of a key, an odd one writes its
destination; a member's cellar buffer is named with the member's location (R447, R449). -/
def collPart (c : Collective) (r : Req) (dev space ea n part : Nat) (data : Vec) : Req :=
  { r with kind := if part % 2 = 0 then .ld else .st, space := space, ea := ea, size := n, data := data, dev := dev, reply := [],
           parent := some (.coll c.mid c.ts), part := part, aux := if space = 2 then word (low 64 r.data.toNat) else r.aux }

/-- Whether a part of a collective's block is awaited of another device. -/
def collAwaits (s : State) (c : Collective) (part : Nat) : Bool :=
  s.pkg.outstanding.any fun r => r.parent == some (.coll c.mid c.ts) && r.part == part

/-- The contributions of an instance in ascending slot order. -/
def Collective.inOrder (c : Collective) : List (Nat × Req) := (List.range 64).filterMap fun k => c.given.find? fun (j, _) => j == k

/-- The pieces of an instance's running block that an address of each member gives: the key, twice the slot and the place, the member,
the address and the length. -/
def Collective.pieces (c : Collective) (at_ : Req → Nat) : List (Nat × Req × Nat × Nat) :=
  c.inOrder.flatMap fun (k, r) => (blockParts (at_ r + c.done)).zipIdx.map fun ((ea, n), i) => (2 * k + i, r, ea, n)

/-- Reads what is missing of the sources' running block: the pieces read, and whether some wait. -/
def collReads (s : State) (c : Collective) : State × Except Why (List (Nat × Nat) × Bool) :=
  (c.pieces Req.ea).foldl (fun (s, acc) (key, r, ea, n) => match acc with
    | .error w => (s, .error w)
    | .ok (l, wait) =>
      if c.read.any fun (j, _) => j == key then (s, acc)
      else if collAwaits s c (2 * key) then (s, .ok (l, true))
      else match collAddr s c r r.collSsp ea n (2 * key) with
        | (s, .wait) => (s, .ok (l, true))
        | (s, .fail w) => (s, .error w)
        | (s, .at a) =>
          if remoteBase ≤ a then
            (sendAway s (collPart c r (a - remoteBase) r.collSsp ea n (2 * key) 0), .ok (l, true))
          else if cutOff s (c.mid % 4) a || inHbm a n && homeHolds s a n (die := some (c.mid % 4)) then (s, .ok (l, true))
          else match readAt s .engine none a n ea with
            | (s, .ok v) => (s, .ok (l ++ [(key, v)], wait))
            | (s, .error w) => (s, .error w)) (s, .ok (c.read, false))

/-- The block of 256 bytes that a member's pieces make up. -/
def Collective.blockOf (c : Collective) (got : List (Nat × Nat)) (k : Nat) (r : Req) : Nat :=
  (((blockParts (r.ea + c.done)).zipIdx.foldl (fun (v, at_) ((_, n), i) => (v + ((got.lookup (2 * k + i)).getD 0) * 2 ^ (8 * at_), at_ + n))
    ((0, 0) : Nat × Nat))).1

/-- Writes what is missing of the destinations' running block: the pieces written, and whether some wait. -/
def collWrites (s : State) (c : Collective) (v : Nat) : State × Except Why (List Nat × Bool) :=
  (c.pieces fun r => r.aux.toNat).foldl (fun (s, acc) (key, r, ea, n) => match acc with
    | .error w => (s, .error w)
    | .ok (l, wait) =>
      let bs := bytesOfNum n (v >>> (8 * (ea - (r.aux.toNat + c.done))))
      if c.wrote.contains key then (s, acc)
      else if collAwaits s c (2 * key + 1) then (s, .ok (l, true))
      else match collAddr s c r r.collDsp ea n (2 * key + 1) with
        | (s, .wait) => (s, .ok (l, true))
        | (s, .fail w) => (s, .error w)
        | (s, .at a) =>
          if remoteBase ≤ a then
            (sendAway s (collPart c r (a - remoteBase) r.collDsp ea n (2 * key + 1) (BitVec.ofNat 2048 (numOfBytes bs))), .ok (l, true))
          else if cutOff s (c.mid % 4) a || inHbm a n && homeHolds s a n true (die := some (c.mid % 4)) then (s, .ok (l, true))
          else match writeAt s .engine none a bs ea with
            | (s, .ok ()) => (s, .ok (l ++ [key], wait))
            | (s, .error w) => (s, .error w)) (s, .ok (c.wrote, false))

/-- One block of a collective: every source is read, then every destination is written (R447 steps 3 to 5). The cause 0 stands for a
wait, with what has been read and written kept. -/
def collStepBlock (s : State) (c : Collective) : State × Except Why Unit :=
  match collReads s c with
  | (s, .error w) => (s, .error w)
  | (s, .ok (got, wait)) =>
    let c := { c with read := got }
    if wait then (putCollective s c, .error (0, 0))
    else match c.inOrder.head? with
      | none => (s, .error (Cause.collfail, word c.mid))
      | some (_, r) =>
        let root := bits r.cmp 5 0
        if r.collOp = 3 && !(c.given.any fun (k, _) => k == root) then (s, .error (Cause.collfail, word c.mid))
        else
          let v := collBlock r.collOp r.ty r.m root (c.inOrder.map fun (k, q) => (k, c.blockOf got k q))
          match collWrites s c v with
          | (s, .error w) => (s, .error w)
          | (s, .ok (l, wait)) => if wait then (putCollective s { c with wrote := l }, .error (0, 0)) else (s, .ok ())

/-- The end of a collective: the reply of each contribution, and of a failed one a COLLFAIL record to the handler of each member, however often it
has contributed; a set that still awaits a member is no longer pinned (R447). -/
def collEnd (s : State) (c : Collective) : State :=
  let s := { s with pkg := { s.pkg with
    collectives := s.pkg.collectives.filter fun x => !(x.mid == c.mid && x.ts == c.ts)
    outstanding := s.pkg.outstanding.filter fun r => r.parent != some (.coll c.mid c.ts) } }
  let s := if c.whole then s else unpin s c.mid
  c.given.zipIdx.foldl (fun s ((k, r), i) =>
    if c.failed then
      (if (c.given.take i).any fun x => x.1 == k then (if outsideMark ≤ r.elem then completeReq s r 0 true else sendReply s r 0 true)
       else if outsideMark ≤ r.elem then failReq s r (Cause.collfail, word c.mid)
       else asyncRecord (sendReply s r 0 true) Cause.collfail r.elem r.ctx r.ent r.slot r.ts (word c.mid))
    else if outsideMark ≤ r.elem then completeReq s r 0
    else sendReply s r 0 false) s

/-- Another device answers a part of the running block of a collective. -/
def collAnswered (s : State) (r : Req) (mid : Nat) (ts : W64) (ans : Except Why Vec) : State :=
  match s.pkg.collectives.find? fun c => c.mid == mid && c.ts == ts with
  | none => s
  | some c => match ans with
    | .error _ => putCollective s { c with failed := true }
    | .ok v => putCollective s (if r.part % 2 = 0 then { c with read := c.read ++ [(r.part / 2, v.toNat % 2 ^ (8 * r.size))] }
        else { c with wrote := c.wrote ++ [r.part / 2] })

/-- Whether the engine may read a contribution: the stores before it in its firing have been performed (R407, R447 step 3). -/
def contributionReady (s : State) (r : Req) : Bool := storesDone s r

/-- A collective ends once links lead to its members' dies (R395; log 99). -/
def collFinish (s : State) (c : Collective) : State :=
  if c.given.all fun (_, r) => decide (outsideMark ≤ r.elem) || dieReach s (c.mid % 4) (dieOf (coreOf r.elem)) then collEnd s c else putCollective s c

/-- Runs a collective to its end, block by block, each metered to the members' images (R389), as far as it need not wait. -/
def collRun (mid : Nat) (ts : W64) (len : Nat) : Nat → State → State
  | 0, s => s
  | n + 1, s => match s.pkg.collectives.find? fun c => c.mid == mid && c.ts == ts with
    | none => s
    | some c =>
      if c.failed || len ≤ c.done then collFinish s c
      else match collStepBlock s c with
        | (s, .error w) => if w.1 = 0 then s else collFinish s { c with failed := true }
        | (s, .ok ()) =>
          let s := c.given.foldl (fun s (_, r) => chargeReq s r) s
          collRun mid ts len n (putCollective s { c with done := c.done + 256, read := [], wrote := [] })

/-- COLLECTIVE_COMPLETE: a collective to which every pinned member whose device lives has contributed runs; a dead device fails
it (R447). -/
def execCollectiveComplete (s : State) : Host.Outcome State Fault Refusal :=
  .next (match s.pkg.collectives[s.event.unit]? with
    | none => s
    | some c =>
      let absent := c.pinned.filter fun (k, _) => !(c.given.any fun (j, _) => j == k)
      if (absent.any fun (_, m) => branchLives s m) || !(c.given.all fun (_, r) => contributionReady s r) then s
      else
        let dead := c.pinned.any fun (_, m) => !branchLives s m
        let c := { c with failed := c.failed || dead }
        let len := (c.given.head?.map fun (_, r) => bits r.cmp 63 32).getD 0
        collRun c.mid c.ts len (len / 256 + 2) (putCollective s c))

end Sys2Proof.Machine
end

