-- ==== Sys2Proof/Machine/Signposts.lean ====
section
/-! DEFINITION. Fabric-global pages (R453 to R457, R465): the home map, access counters, the owner cache, and what OWNQ reads. -/

namespace Sys2Proof.Machine

/-! ## The home map (R454) -/

/-- Replaces a home map entry. -/
def setPage (s : State) (page : Nat) (p : PageEntry) : State :=
  { s with pkg := { s.pkg with pages := Tab.set PageEntry.init s.pkg.pages page p } }
/-- Whether the home map has no place for a page. -/
def homeMapFull (s : State) (page : Nat) : Bool :=
  decide (1048576 ≤ s.pkg.pages.length) && Tab.get PageEntry.init s.pkg.pages page == PageEntry.init

/-- Sends a protocol message. -/
def sendMessage (s : State) (kind dev page owner gen : Nat) : State :=
  { s with out := .message kind dev page owner gen :: s.out }

/-- Adds a sharer at the home, or tells the home of it (R455, R460). -/
def addSharer (s : State) (page dev : Nat) : State :=
  if homesPage s page then
    let p := pageEntry s page
    if p.sharers.contains dev || homeMapFull s page then s
    else setPage s page (if p.sharers.length < 8 then { p with sharers := p.sharers ++ [dev] } else { p with overflow := true })
  else sendMessage s 8 (homeDevice s page) page dev 0

/-! ## Counters and the policy queue (R456, R457) -/

/-- The home applies a count message. -/
def applyCount (s : State) (page dev ten : Nat) : State :=
  if homeMapFull s page then s
  else
    let p := pageEntry s page
    let p : PageEntry := if dev = p.cdev then { p with cnt := min (p.cnt + 64) 65535 }
      else
        let c := p.cnt - 64
        { p with cnt := c, cdev := if c = 0 then dev else p.cdev }
    let thresh := bits (Tab.get 0 s.pkg.fabric 0x600) 15 0
    if thresh ≤ p.cnt ∧ thresh ≠ 0 ∧ p.state = .owned then
      let n : Notice := { va := word (page * 2 ^ 16), w1 := word (p.owner * 2 ^ 52 + p.cdev * 2 ^ 40 + ten * 2 ^ 32 + p.cnt) }
      let s := setPage s page { p with state := .queued }
      if s.pkg.policy.length < 256 then { s with pkg := { s.pkg with policy := s.pkg.policy ++ [n] } }
      else { s with pkg := { s.pkg with polOvf := min (s.pkg.polOvf + 1) 65535 } }
    else setPage s page p

/-- COUNT_MESSAGE: a count message reaches the page's home. -/
def execCountMessage (s : State) : Host.Outcome State Fault Refusal :=
  .next (if homesPage s s.event.unit then applyCount s s.event.unit s.event.index (s.event.addr % 256) else s)

/-- The owner counts a remote access, not one of its own that came back to it; every 64th sends one count message. An entry that is replaced loses its remainder (R456; log
97). -/
def countRemote (s : State) (page dev ten : Nat) : State :=
  if dev = s.devId then s else
  let k := page * 4096 + dev
  let old := s.pkg.remote
  let kept := if Tab.get 0 old k = 0 then old.filter fun (j, _) => !Config.dropsCount s.stepNo j else old
  let c := Tab.get 0 old k + 1
  let s := { s with pkg := { s.pkg with remote := Tab.set 0 kept k (c % 64) } }
  if c = 64 then (if homesPage s page then applyCount s page dev ten else sendMessage s 3 (homeDevice s page) page dev ten) else s

/-! ## The owner cache (R455, R461) -/

/-- The die and the tenant for which an access of another device's bytes looked its owner up: an engine's, a collective engine's, a
steward-mode core's, or a firing's. -/
def accessOf (s : State) (r : Req) : Nat × Nat := match r.parent with
  | some (.engine h) => (handleDie h, bits (s.engine h).ectx 46 39)
  | some (.coll mid _) => (mid % 4, tenantOf s (coreOf r.elem))
  | some .request | none =>
    if stewMark ≤ r.elem then (stewDie (r.elem - stewMark), 0) else (dieOf (coreOf r.elem), tenantOf s (coreOf r.elem))

/-- The ordinary accesses of a die to a page, under a tenant where one is named, that are not yet answered: by other devices, or in the page's relay
queue here (R455, R458). -/
def awaited (s : State) (d page : Nat) (ten : Option Nat := none) : List Req :=
  s.pkg.outstanding.filter fun r => r.target.isNone && r.space == 3 && pageOfVa r.ea == page && decide (r.elem < outsideMark) &&
    (accessOf s r).1 == d && ten.all fun t => (accessOf s r).2 == t

/-- Whether a request of a core has been resolved through the owner cache for some byte of a page: mapped here or to another device, no
window serving it, and not yet performed. -/
def ownerMapped (s : State) (core : Nat) (r : Req) (page : Nat) : Bool := r.kind.mapsGlb && r.space == 3 && r.places.any fun (a, ea) =>
  decide (a < 2 ^ 61) && fabricGlobal ea && pageOfVa ea == page &&
    (windowHit (s.core core) r.port (ctxImage s r.elem r.ctx) ea (if r.kind.streams then 8 else r.span)).isNone

/-- Whether a request of a port has bytes in a page that it has not performed. -/
def Req.wants (r : Req) (page : Nat) : Bool := r.space == 3 && r.kind.mapsGlb && r.places.any fun (a, ea) => a != performed && fabricGlobal ea && pageOfVa ea == page

/-- Whether an owner-cache entry has outstanding accesses: those awaited, and those that hit it and still stand in their ports (R455). -/
def entryInUse (s : State) (d : Nat) (o : OwnerEntry) : Bool :=
  !(awaited s d o.page (some o.ten)).isEmpty || s.cores.any fun (c, x) => dieOf c == d && tenantOf s c == o.ten &&
    x.ports.any fun p => p.reqs.any fun r => ownerMapped s c r o.page || (o.early.contains r.ord && r.wants o.page)

/-- The numbers of the requests of a die's ports, a HELD port's later ones apart, that a test picks. -/
def dieOrds (s : State) (d : Nat) (pick : Nat → Req → Bool) : List Nat := s.cores.flatMap fun (c, x) =>
  if dieOf c = d then x.ports.flatMap fun p => p.reqs.zipIdx.filterMap fun (r, k) => if mayGo p k && pick c r then some r.ord else none else []

/-- The early requests of an entry that still stand in their ports. -/
def earlyLeft (s : State) (d : Nat) (o : OwnerEntry) : List Nat := dieOrds s d fun _ r => o.early.contains r.ord && r.wants o.page

/-- An owner-cache entry is CLOSED: the requests that have hit it and stand in their ports leave before those that wait (R461; log 131). -/
def closeEntry (s : State) (d : Nat) (o : OwnerEntry) : OwnerEntry :=
  { o with closed := true, ajar := false,
           early := earlyLeft s d o ++ dieOrds s d fun c r => tenantOf s c == o.ten && !o.early.contains r.ord && ownerMapped s c r o.page }

/-- A die takes a redirect: an entry of the page with an older generation takes the owner and the generation and is CLOSED (R461). -/
def takeRedirect (s : State) (d page owner gen : Nat) : State :=
  s.setDie d { s.die d with owner := (s.die d).owner.map fun o =>
    if o.page = page ∧ o.gen < gen then { closeEntry s d o with owner := owner, gen := gen } else o }

/-- The dies drop the owner-cache entries that a test picks. What is CLOSED stays so, awaiting the home's answer, until the earlier accesses are
answered (R461, R462, R464). -/
def dropOwners (s : State) (gone : OwnerEntry → Bool) : State :=
  let left := fun (o : OwnerEntry) => if !gone o then some o else if o.closed then some { o with awaits := true } else none
  (List.range 4).foldl (fun s d => s.setDie d { s.die d with owner := (s.die d).owner.filterMap left }) s

/-- Enters an answer of the home into a die's owner cache, unless an entry there is younger; none while no entry can be replaced. -/
def enterOwner (s : State) (d : Nat) (o : OwnerEntry) : Option State :=
  let x := s.die d
  match x.owner.find? fun y => y.ten == o.ten && y.page == o.page with
  | some y =>
    let o := if o.gen < y.gen then { o with owner := y.owner, gen := y.gen } else o
    some (s.setDie d { x with owner := { o with closed := y.closed, reopened := y.reopened, line := y.line, early := y.early, ajar := y.ajar } :: x.owner.erase y })
  | none =>
    if x.owner.length < 4096 then some (s.setDie d { x with owner := o :: x.owner })
    else match x.owner.reverse.find? fun y => !entryInUse s d y with
      | some y => some (s.setDie d { x with owner := o :: x.owner.erase y })
      | none => none

/-- OWNER_CACHE_LOOKUP: the home of a page answers a lookup of a die; another home's answer comes with the event. -/
def execOwnerCacheLookup (s : State) : Host.Outcome State Fault Refusal :=
  let d := s.event.unit
  let ten := s.event.index
  let page := s.event.addr
  let (s', owner, gen) : State × Nat × Nat :=
    if homesPage s page then
      let s' := addSharer s page s.devId
      (s', (pageEntry s' page).owner, (pageEntry s' page).gen)
    else (s, s.event.size % 4096, s.event.op % 65536)
  .next (if !(s.die d).lookups.contains (page, ten) then s
    else match enterOwner s' d { ten := ten, page := page, owner := owner, gen := gen, closed := false, awaits := false } with
      | some t => t.setDie d { t.die d with lookups := (t.die d).lookups.erase (page, ten) }
      | none => s)

/-! ## The end of an instruction of the reeve -/

/-- The result word of MIGR and SGNRCL (R464). -/
def moveResult (owner result : Nat) : Nat := owner * 2 ^ 52 + result

/-- Ends the wait for a MIGR (op 1) or SGNRCL (op 2) of a page: that of this device's reeve, and that of another device's reeve, which
waits as an outstanding request of an outside element. -/
def reeveDone (s : State) (op page v : Nat) : State :=
  let theirs := fun (r : Req) => r.kind == .ownq && r.op == op && pageOfVa r.ea == page && decide (outsideMark ≤ r.elem)
  let s := (s.pkg.outstanding.filter theirs).foldl (fun s r => completeReq s r (BitVec.ofNat 2048 v))
    { s with pkg := { s.pkg with outstanding := s.pkg.outstanding.filter fun r => !theirs r } }
  match (s.stew 20).waiting with
  | some (.request r, _) => if r.kind = .ownq ∧ r.op = op ∧ pageOfVa r.ea = page then stewDone s 20 v else s
  | some (.cycle _, _) | some (.event _ _, _) | none => s

/-! ## OWNQ at the home (R465) -/

/-- The word of OWNQ (R465). -/
def ownqWord (s : State) (page : Nat) : Nat :=
  let p := pageEntry s page
  let st := match p.state with
    | .owned => 0
    | .queued => 1
    | .moving => 2
  p.owner * 2 ^ 52 + homeDevice s page * 2 ^ 40 + st * 2 ^ 38 + p.cdev * 2 ^ 16 + p.cnt

/-- STATE 3 of OWNQ. -/
def ownqNot : Nat := 3 * 2 ^ 38

/-- OWNQ of a firing at its home. -/
def performOwnq (s : State) (r : Req) : State × Perf :=
  if !fabricGlobal r.ea then (s, .done (BitVec.ofNat 2048 ownqNot) false)
  else if homesPage s (pageOfVa r.ea) then (s, .done (BitVec.ofNat 2048 (ownqWord s (pageOfVa r.ea))) false)
  else (s, .stay)

end Sys2Proof.Machine
end

