-- ==== Sys2Proof/Machine/Release.lean ====
section
/-! DEFINITION. What leaves an element at release: the counting of its sends, the sends themselves, the snapshots of SENDM, and the
decrements (R101, R175, R185, R213, R313, R434, R444). -/

namespace Sys2Proof.Machine

/-- Whether an outstanding request of a release is a store: its later sends wait (R213). -/
def storesOut (r : Release) : Bool := r.out.any Outst.write

/-- The release that goes on next: the oldest of the element that still holds items. -/
def nextRelease (x : Elem) : Option Release := x.releases.find? fun r => !r.items.isEmpty

/-- The first item of a release has left. -/
def popItem (s : State) (e id : Nat) : State :=
  mapRelease s e id fun r => { r with items := r.items.drop 1, popped := r.popped + 1 }

/-! ## Counting (R101, R185, R313) -/

/-- Whether an item's +1 is still to be recorded before anything of its release leaves: a gated send is counted at its admission, a host egress
send never (R175, R434), WIDEN's once the stores are performed (R190), and SENDM at its snapshot (R444). -/
def Item.uncounted : Item → Bool
  | .send _ _ rw _ widen => !widen && routeKind rw != 2 && routeKind rw != 8
  | .reqn _ _ _ => true
  | .counted _ _ _ | .sendm _ _ _ _ _ | .snapped _ _ _ _ | .req _ _ => false

/-- Counts a send or REQN of an element: its copies, tagged, or none while no unit has room for their +1. -/
def countItem (s : State) (e ctx : Nat) : Item → Option (State × Item)
  | .send tok ix rw cores widen =>
    let cl := clusterOf (coreOf e)
    let toks := branches s tok cores
    if !(Item.send tok ix rw cores widen).uncounted then some (s, .send tok ix rw cores widen)
    else if unitRoom s cl (toks.map tokStamp) then
      let (s, toks) := countAll s cl toks
      some (s, .counted toks ix rw)
    else none
  | .reqn loc t rw =>
    let cl := clusterOf (coreOf e)
    let image := routeRegion s rw (ctxImage s e ctx)
    if unitRoom s cl [(image, loc, t)] then
      let m : Mark := { loc := loc, ts := t, plus := true, tag := none, taint := false, isReq := true }
      some ((recordMark s (markCluster s cl image loc) image m).1, .counted [] 0 rw)
    else none
  | .counted toks ix rw => some (s, .counted toks ix rw)
  | .sendm tok ix rw asked slot => some (s, .sendm tok ix rw asked slot)
  | .snapped tok ix rw ms => some (s, .snapped tok ix rw ms)
  | .req q rw => some (s, .req q rw)

/-- Counts the items of a commit buffer in program order, up to the first that finds no room. -/
def countItems (e ctx : Nat) : List Item → State → State × List Item
  | [], s => (s, [])
  | i :: rest, s => match countItem s e ctx i with
    | none => (s, i :: rest)
    | some (s, j) =>
      let (s, l) := countItems e ctx rest s
      (s, j :: l)

/-! ## Leaving -/

/-- The gate-queue entry of an ingress send: the admission that it asks is to its destination's loop and its prefix (R175). -/
def gateEntry (s : State) (e : Nat) (toks : List Token) (route : Nat) (net : Nat) (rel chain : Option Nat) : Gated :=
  let t := toks.headD default
  { toks := toks, src := (e, route), net := net, loop := bits (locEntry s (tokLoc t)) 40 34, prefixTs := tsTo t.ts (tsDepth t.ts - 1),
    elem := e, rel := rel, chain := chain }

/-- An ingress send enters its cluster's gate queue, all its copies in one place, and admission is asked of its region's home; none while the queue is full (R175, R312). A send
without branches is gone. -/
def enterGate (s : State) (g : Gated) : Option State :=
  let cl := clusterOf (coreOf g.elem)
  let c := s.cluster cl
  let away := ((g.toks.map Token.region).eraseDups).filter (homedAway s)
  if 64 ≤ c.gate.length then none
  else some { s.setCluster cl { c with gate := c.gate ++ [g] } with out := (away.map fun i => .admission i g.loop g.prefixTs false) ++ s.out }

/-- A send to a host egress queue joins it; a full or unbound one is counted, and the release waits (R434, R452; log 98). -/
def leaveHost (s : State) (q : Nat) (tok : Token) : State × Bool :=
  let l := Tab.get [] s.pkg.egress q
  if !bitOf (Tab.get 0 s.pkg.fabric (0x480 + q)) 63 || 64 ≤ l.length then
    ({ s with pkg := { s.pkg with egqFull := Tab.set 0 s.pkg.egqFull q (Tab.get 0 s.pkg.egqFull q + 1) } }, false)
  else ({ s with pkg := { s.pkg with egress := Tab.set [] s.pkg.egress q (l ++ [tok]) } }, true)

/-- The members of a snapshot (R444). -/
def snapMembers (l : List (Nat × Nat × Nat)) : List (Nat × Member) := l.map fun (k, loc, side) => (k, { loc := loc, side := side })

/-- The pointstamps of a SENDM's copies. -/
def memberStamps (s : State) (tok : Token) (ms : List (Nat × Member)) : List Stamp := ms.map fun (_, m) => tokStamp (memberToken s tok m)

/-- The first item of a release leaves, where it may: whether it has, and the state, in which a full egress queue has been counted. -/
def leaveItem (s : State) (e : Nat) (r : Release) : Item → State × Bool
  | .counted toks ix rw =>
    if storesOut r && !toks.isEmpty then (s, false) else (toks.foldl (fun s t => launch s t (some (e, ix)) (routeNet rw)) s, true)
  | .send tok ix rw cores widen =>
    if storesOut r then (s, false)
    else if routeKind rw = 8 then leaveHost s (routeMid rw) tok
    else if routeKind rw = 2 then
      let toks := branches s tok cores
      if toks.isEmpty then (s, true)
      else match enterGate s (gateEntry s e toks ix (routeNet rw) (some r.id) none) with
        | none => (s, false)
        | some s => (mapRelease s e r.id fun x => { x with gated := x.gated + 1 }, true)
    else
      let toks := branches s tok cores
      if widen && unitRoom s (clusterOf (coreOf e)) (toks.map tokStamp) then (leaveCounted s e ix (routeNet rw) toks, true) else (s, false)
  | .reqn _ _ _ => (s, false)
  | .sendm tok ix rw _ slot =>
    let ms := (musterOf s (routeMid rw)).slots
    if routeDev s rw != s.devId || storesOut r || !(musterOf s (routeMid rw)).queue.isEmpty
        || !unitRoom s (clusterOf (coreOf e)) (memberStamps s tok ms) then (s, false)
    else (sendCopies s (e, r.ctx, r.ent, slot) tok ix (routeNet rw) ms, true)
  | .snapped tok _ rw ms =>
    let ms := snapMembers ms
    if unitRoom s (clusterOf (coreOf e)) (memberStamps s tok ms) then (sendToKeeper s e tok (routeDev s rw) ms, true) else (s, false)
  | .req q _ => (s, q.kind == .fence && r.out.isEmpty)

/-- Items of a release leave in program order, as far as they need not wait; what leaves is metered (R389). -/
def leaveItems (e id : Nat) : Nat → State → State
  | 0, s => s
  | n + 1, s => match findRelease (s.elem e) id with
    | none => s
    | some r => match r.items.head? with
      | none => s
      | some i => match leaveItem s e r i with
        | (s, false) => s
        | (s, true) => leaveItems e id n (popItem (chargeUnits s (clusterOf (coreOf e)) (some (ctxImage s e r.ctx))) e id)

/-- A SENDM whose set another device keeps asks that keeper for the snapshot, and takes the one that the event brings (R444). -/
def askSnapshot (s : State) (e : Nat) (r : Release) : State := match r.items.head? with
  | some (.sendm tok ix rw asked slot) =>
    let put := fun (s : State) (i : Item) => mapRelease s e r.id fun x => { x with items := i :: x.items.drop 1 }
    if routeDev s rw = s.devId || storesOut r then s
    else if !asked then sendMessage (put s (.sendm tok ix rw true slot)) 15 (routeDev s rw) (routeMid rw) 0 0
    else if s.event.flag then
      let ms := answeredMembers s.event.w0.toNat (s.event.w1.toNat + s.event.w2.toNat * 2 ^ 64) s.event.payload.toNat
      put s (.snapped tok ix rw (ms.map fun (k, m) => (k, m.loc, m.side)))
    else s
  | some (.send _ _ _ _ _) | some (.counted _ _ _) | some (.reqn _ _ _) | some (.snapped _ _ _ _) | some (.req _ _) | none => s

/-- The decrements of a release that has wholly left, with all outcomes known, are recorded where the units may (R101, R185, R186). -/
def finishRelease (s : State) (e id : Nat) : State := match findRelease (s.elem e) id with
  | none => s
  | some r =>
    let cl := clusterOf (coreOf e)
    if r.items.isEmpty && r.out.isEmpty && r.gated == 0 && decRoom s cl r.decs then
      let s := r.decs.foldl (fun s d => recordDec s cl d r.taint) s
      s.setElem e { s.elem e with releases := (s.elem e).releases.filter fun x => x.id != r.id }
    else s

/-- RELEASE_SENDS: the sends and requests for milestones of an element's next commit buffer are counted; once all of them are, its items leave in
order, and where nothing of it is left its decrements follow at once (R101, R185). -/
def execReleaseSends (s : State) : Host.Outcome State Fault Refusal :=
  let e := s.event.unit
  .next (match nextRelease (s.elem e) with
    | none => s
    | some r =>
      let (s, items) := countItems e r.ctx r.items s
      let s := mapRelease s e r.id fun x => { x with items := items }
      if items.any Item.uncounted then s
      else
        let s := leaveItems e r.id items.length (askSnapshot s e { r with items := items })
        finishRelease s e r.id)

/-- RECORD_DECREMENTS: the decrements of a release that has wholly left, with all outcomes known. -/
def execRecordDecrements (s : State) : Host.Outcome State Fault Refusal := .next (finishRelease s s.event.unit s.event.index)

end Sys2Proof.Machine
end

