-- ==== Sys2Proof/Machine/Ports.lean ====
section
/-! DEFINITION. The stream ports (R208 to R212): entry and windows, the address-compare queue (R251), translation (R385, R455), and what
must come before a request is performed (R116, R208, R216, R241, R248, R439). -/

namespace Sys2Proof.Machine

/-! ## Entry (R208, R210, R211, R251) -/

/-- The reply tokens of a request as it leaves, one for each branch; none on a route of kind off or for a WATCH that cancels (R228, R243,
R311). -/
def replyTokens (s : State) (r : Req) (rw : W64) : List Token :=
  if routeKind rw = 0 || (r.kind == .watch && r.cmp == 0) then []
  else branches s (routeToken s rw r.ts {} 0 (ctxImage s r.elem r.ctx)) r.forks

/-- Entries of a core's address-compare queue in use (R251). -/
def compareUsed (s : State) (core : Nat) : Nat :=
  ((List.range 4).map fun i => ((s.elem (core * 4 + i)).releases.map fun r => r.out.countP Outst.entry).sum).sum

/-- Requests of a core's port that are in flight: in the port, or awaiting another device (R208). A JOIN or LEAVE in this device's own
muster queue and a COLL that its engine has accepted are in flight no more (log 122). -/
def portUsed (s : State) (core p : Nat) : Nat :=
  ((s.core core).port p).reqs.length +
    s.pkg.outstanding.countP fun r => decide (r.elem / 4 = core) && r.port == p && r.parent.isNone

/-- Maps the addresses of a GLB request by its port's windows: a window's address, or unmapped; or the WINPERM failure (R210,
R211). -/
def windowMap (s : State) (r : Req) (eas : List Nat) (n : Nat) : Except Why (List Nat) :=
  let c := s.core (coreOf r.elem)
  eas.mapM fun va => match windowHit c r.port (ctxImage s r.elem r.ctx) va n with
    | none => .ok unmapped
    | some i => if windowPermits (Tab.get 0 c.wva i) r.kind.need then .ok (windowAddr c i va) else .error (Cause.winperm, word (va % 2 ^ 56 + r.port * 2 ^ 56))

/-! ## Where the bytes of a request stand (R208, R248) -/

/-- A run of bytes that a request touches: the device it stands on, where that is known; whether the address is in that device's numbering of memory, or
effective; the address; the length. -/
abbrev Spot := Option Nat × Bool × Nat × Nat

/-- Whether two runs have a byte in common. Bytes that this device holds and bytes that another one holds have none. -/
def spotsMeet (x y : Spot) : Bool :=
  let (d, k, a, n) := x
  let (e, l, b, m) := y
  k == l && (d.isNone || e.isNone || d == e) && decide (0 < n) && decide (0 < m) && decide (a < b + m) && decide (b < a + n)

/-- The run of a GLB address as a die of this device translates it for a tenant; none where it does not. -/
def hereSpots (s : State) (d ten : Nat) (need : Need) (ea n : Nat) : List Spot :=
  match (translate s d ten ea need).2 with
  | .at a => [(some s.devId, true, a, n)]
  | .wait | .fail _ => []

/-- The runs of a GLB address whose owner is not known yet: by effective address wherever it may be, and here. -/
def unknownSpots (s : State) (d ten : Nat) (need : Need) (ea n : Nat) : List Spot :=
  (if fabricGlobal ea then none else some s.devId, false, ea, n) :: hereSpots s d ten need ea n

/-- The runs of a GLB address that was mapped to `a`; this device's relay queue leaves the owner open. -/
def mappedSpots (s : State) (d ten : Nat) (need : Need) (a ea n : Nat) : List Spot :=
  if a < remoteBase then [(some s.devId, true, a, n)]
  else if a = remoteBase + s.devId then unknownSpots s d ten need ea n
  else if a < 2 ^ 61 then [(some (a - remoteBase), false, ea, n)]
  else []

/-- The runs of a GLB address as the translation of a die would map it now for an access of a tenant. -/
def resolvedSpots (s : State) (d ten : Nat) (need : Need) (isLd8 : Bool) (w : Waiter) (ea n : Nat) : List Spot :=
  match (resolveGlb s d ten ea need isLd8 w).2 with
  | .at a => mappedSpots s d ten need a ea n
  | .wait => unknownSpots s d ten need ea n
  | .fail _ => []

/-- The runs of a GLB address of a request as its port's windows and the translation would map it now. -/
def glbSpots (s : State) (r : Req) (ea n : Nat) : List Spot := match windowMap s r [ea] n with
  | .error _ => []
  | .ok pas =>
    let a := pas.headD unmapped
    let core := coreOf r.elem
    if a != unmapped then mappedSpots s (dieOf core) (tenantOf s core) r.kind.need a ea n
    else resolvedSpots s (dieOf core) (tenantOf s core) r.kind.need (r.kind == .ld && r.size == 8) (.request r.ord) ea n

/-- The pieces, first byte and length, that blocks of `k` bytes cut a run of bytes into. -/
def pieces (k ea n : Nat) : List (Nat × Nat) := (List.range ((ea % k + n + k - 1) / k)).map fun i =>
  let lo := max ea ((ea / k + i) * k)
  (lo, min (ea + n) ((ea / k + i + 1) * k) - lo)

/-- The runs of a range that an engine operation of a port reads or writes, page by page under the tenant of its context on its engine's die
(R401). -/
def engineSpots (s : State) (r : Req) (space : Nat) (need : Need) (ea n : Nat) : List Spot :=
  let h := handleOf r.cmp
  if space = 3 then (pieces 65536 ea n).flatMap fun (a, m) =>
    resolvedSpots s (handleDie h) (bits (s.engine h).ectx 46 39) need false (.engine h (s.engine h).nextOp 0 (need == .write)) a m
  else if inSpace s r.elem r.ctx space ea then [(some s.devId, true, spaceAddr s r.elem r.ctx space ea, n)]
  else []

/-- The index list of an ISTRM, and each row that the list names as it stands now (R402). -/
def rowSpots (s : State) (r : Req) : List Spot :=
  let k := if bitOf r.cmp 38 then 8 else 4
  let n := 16 * bits r.cmp 47 40
  let list := scrAddr (coreOf r.elem) (bits r.cmp 27 9)
  (some s.devId, true, list, k * bits r.cmp 63 48) :: (List.range (bits r.cmp 63 48)).flatMap fun j =>
    engineSpots s r r.ssp .read ((r.ea + s.readNum (list + j * k) k * n) % 2 ^ 64) n

/-- The runs of bytes that an engine operation reads and writes (R401, R402). -/
def operationSpots (s : State) (r : Req) : List Spot :=
  (if r.kind = .istrm then rowSpots s r else engineSpots s r r.ssp .read r.ea (opLength r.kind r.cmp)) ++
    engineSpots s r r.dsp .write r.aux.toNat (opLength r.kind r.cmp)

/-- The runs of bytes that a request of a port touches, as far as it has not been performed. A stream touches a scratchpad range and a far one, an
engine operation its ranges; a multicast store stands at every member's device. -/
def Req.spots (s : State) (r : Req) : List Spot :=
  let core := coreOf r.elem
  let d := dieOf core
  let ten := tenantOf s core
  let here := fun a => (some s.devId, true, a, r.span)
  match r.target with
  | some dev =>
    if targetMuster r.aux then unknownSpots s d ten r.kind.need r.ea r.size
    else if dev = s.devId then hereSpots s d ten r.kind.need r.ea r.size
    else [(some dev, false, r.ea, r.size)]
  | none =>
    if r.kind = .copy ∨ r.kind = .istrm then operationSpots s r
    else if !r.kind.mapsGlb then []
    else if r.kind.streams then
      here (scrAddr core (bits r.cmp 18 0)) ::
        (if r.space = 3 then (pieces 256 r.ea r.span).flatMap fun (ea, n) => glbSpots s r ea n else [here (spaceAddr s r.elem r.ctx r.space r.ea)])
    else (r.pas.zip r.eas).flatMap fun (a, ea) =>
      if a = performed then []
      else if r.space != 3 then [here a]
      else if a = unmapped then glbSpots s r ea r.span
      else mappedSpots s d ten r.kind.need a ea r.span

/-- Whether two requests touch overlapping bytes, by whichever addresses they name them: in one port they are performed in order (R208). -/
def ordered (s : State) (q r : Req) : Bool :=
  let l := r.spots s
  (q.spots s).any fun x => l.any (spotsMeet x)

/-- A request with its addresses, its stage with them, and the homes that it is routed to. -/
def Req.mapped (r : Req) (s : State) (pas : List Nat) : Req :=
  { r with pas := pas, home := routeMask s, stage := if pas.contains unmapped then .walking else .ready }

/-- Puts a request at the end of its port. -/
def joinPort (s : State) (r : Req) : State :=
  let c := s.core (coreOf r.elem)
  let p := c.port r.port
  s.setCore (coreOf r.elem) (c.setPort r.port { p with reqs := p.reqs ++ [r] })

/-- A request that has left its commit buffer enters its port, its addresses checked against the windows. A prefetch without permission is
dropped silently (R242). -/
def enterPort (s : State) (r : Req) : State :=
  if !r.kind.mapsGlb then joinPort s { r with stage := .ready }
  else if r.space != 3 then joinPort s (r.mapped s (r.eas.map (spaceAddr s r.elem r.ctx r.space)))
  else if r.kind.streams then joinPort s r
  else match windowMap s r r.eas r.span with
    | .ok pas => joinPort s (r.mapped s pas)
    | .error w => if r.kind = .pref then completeReq s r 0 else failReq s r w

/-- PORT_ENTRY: the next item of an element, a request, enters its port once the +1 of every send of its release is recorded (R101): its replies are counted, and an address-compare entry is taken where
one is free. An ordering token waits apart (R250). -/
def execPortEntry (s : State) : Host.Outcome State Fault Refusal :=
  let core := s.event.unit
  let e := core * 4 + s.event.addr % 4
  .next (match nextRelease (s.elem e) with
    | none => s
    | some rel => match rel.items.head? with
      | none | some (.send _ _ _ _ _) | some (.counted _ _ _) | some (.reqn _ _ _) | some (.sendm _ _ _ _ _) | some (.snapped _ _ _ _) => s
      | some (.req q rw) =>
        let toks := replyTokens s q rw
        if q.kind = .fence || q.port != s.event.index || rel.items.any Item.uncounted || 32 ≤ portUsed s core q.port
          || !unitRoom s (clusterOf core) (toks.map tokStamp) then s
        else
          let (s, reply) := countAll s (clusterOf core) toks
          let r := { q with rel := rel.id, ord := s.fresh, reply := reply }
          let s := popItem { s with fresh := s.fresh + 1 } e rel.id
          if r.kind = .ordt then s.setCore core { s.core core with ordts := (s.core core).ordts ++ [r] }
          else
            let o : Outst := { ord := r.ord, place := rel.popped, runs := r.runs, entry := decide (compareUsed s core < 16),
                               write := r.kind.writes }
            enterPort (mapRelease s e rel.id fun x => { x with out := x.out ++ [o] }) r)

/-! ## Translation (R212, R385, R455) -/

/-- Changes the request of a number in a port. -/
def mapReq (s : State) (core p ord : Nat) (f : Req → Req) : State :=
  let c := s.core core
  let x := c.port p
  s.setCore core (c.setPort p { x with reqs := x.reqs.map fun q => if q.ord = ord then f q else q })
/-- Replaces a request of a port. -/
def putReq (s : State) (core p : Nat) (r : Req) : State := mapReq s core p r.ord fun _ => r
/-- Removes a request from a port. -/
def dropReq (s : State) (core p : Nat) (r : Req) : State :=
  let c := s.core core
  let x := c.port p
  s.setCore core (c.setPort p { x with reqs := x.reqs.filter fun q => q.ord != r.ord })

/-- A translation fault: the port is HELD and keeps the request, and the steward gets a PAGEFLT record (R212, R232). -/
def holdPort (s : State) (core p : Nat) (r : Req) (w : Why) : State :=
  let c := s.core core
  let x := c.port p
  let s := s.setCore core (c.setPort p { x with held := true, kept := some r, since := s.clock })
  queueAsync s (clusterOf core)
    { w0 := elemWord0 s w.1 r.slot false true r.elem r.ctx r.ent, w1 := r.ts, w2 := 0, w3 := w.2 }

/-- One address of a walking request is resolved: mapped, waiting, held, or failed. A prefetch that fails is dropped silently
(R242). -/
def walkRequest (s : State) (core p : Nat) (r : Req) : State :=
  let (i, ea) := walkAddress r
  match resolveGlb s (dieOf core) (tenantOf s core) ea r.kind.need (r.kind == .ld && r.size == 8) (.request r.ord) with
  | (s, .wait) => s
  | (s, .at a) =>
    let r := r.mapped s (setAt r.pas i a)
    putReq s core p (if remoteBase ≤ a ∧ a < 2 ^ 61 then { r with dev := a - remoteBase } else r)
  | (s, .fail w) =>
    if r.kind = .pref then completeReq (dropReq s core p r) r 0
    else if w.1 = Cause.pageflt then holdPort s core p r w
    else failReq (dropReq s core p r) r w

/-- TRANSLATION_WALK: a request of a port at the die translation unit. -/
def execTranslationWalk (s : State) : Host.Outcome State Fault Refusal :=
  let core := s.event.unit
  let p := (s.core core).port s.event.index
  .next (match p.reqs[s.event.addr]? with
    | none => s
    | some r => if r.stage = .walking && mayGo p s.event.addr then walkRequest s core s.event.index r else s)

/-! ## What must come before a request (R116, R208, R216, R241, R439) -/

/-- The unperformed requests of a core's ports. -/
def coreReqs (s : State) (core : Nat) : List Req := (s.core core).ports.flatMap Port.reqs

/-- Whether a request loads. -/
def ReqKind.loads : ReqKind → Bool
  | .ld | .ldp | .ldv | .gathv | .atom | .atomr | .strm | .rld | .ratom => true
  | .st | .stp | .clrp | .pref | .clean | .inval | .watch | .fence | .stv | .scatv | .strmq | .wpwait | .ordt | .copy | .istrm
  | .tlwait | .tlrd | .coll | .rst | .join | .leave | .ownq | .sheaf => false

/-- Whether an earlier request `q` of the same port holds `r` back: overlapping bytes, two streams, one 64 KiB block of one other
device, or one engine context (R208, R248, R399, R439). -/
def portOrder (s : State) (q r : Req) : Bool :=
  let remote := fun (x : Req) => x.kind == .rld || x.kind == .rst || x.kind == .ratom
  let engine := fun (x : Req) => x.kind == .copy || x.kind == .istrm
  ordered s q r || (q.kind.streams && r.kind.streams) || (remote q && remote r && q.dev == r.dev && q.ea / 65536 == r.ea / 65536)
    || (engine q && engine r && handleOf q.cmp == handleOf r.cmp)

/-- The deferral store that holds an empty granule's reads: of the scratchpad's memory node, or of the die's cellar (R206, R237). -/
def deferredAt (s : State) (a : Nat) : List Req :=
  if a < celBase then (s.core ((a - scrBase) / 2 ^ 19)).deferred else (s.die ((a - celBase) / 2 ^ 30)).deferred

/-- Whether the deferral store of an address has no room. -/
def deferralFull (s : State) (a : Nat) : Bool := decide ((if a < celBase then 64 else 1024) ≤ (deferredAt s a).length)

/-- Whether a request cannot be sent on and waits in its port, which sends nothing past it: a presence read that finds no room to be
deferred, a WATCH that finds the table full, an operation that finds its engine context's queue full, or a wait that finds its context's sixteen
places taken (R206 to R208, R399, R403). -/
def waitsInPort (s : State) (core : Nat) (r : Req) : Bool :=
  r.stage == .ready && ((r.kind == .ldp && (r.pas.head?.any fun a => !s.present a && deferralFull s a)) ||
    (r.kind == .watch && r.cmp != 0 && decide (16 ≤ (s.core core).watches.length)) ||
    ((r.kind == .copy || r.kind == .istrm) && operationWaits s r) || ((r.kind == .tlwait || r.kind == .wpwait) && waitWaits s r))

/-- Whether an earlier request `q` of the same firing holds `r` back: a load after an overlapping store (R116), everything that the
release of an atomic or of a presence fill covers (R216, R241), and everything after an acquiring atomic (R241). -/
def firingOrder (s : State) (q r : Req) : Bool :=
  q.elem == r.elem && q.rel == r.rel && decide (q.ord < r.ord) &&
    ((q.kind.writes && r.kind.loads && ordered s q r) || ((r.rlse || r.kind == .stp || r.kind == .strm) && q.kind.writes) || q.acq)

/-- Whether a request follows an outstanding one of its port over the one ordered channel to the device that performs both (R439). -/
def followsAway (s : State) (q r : Req) : Bool :=
  q.port == r.port && q.parent.isNone && r.stage == .ready && !r.kind.gathers && !r.kind.streams && (r.target.isSome || isRemote (r.pas.headD 0)) &&
    r.dev != s.devId && q.dev == r.dev && q.ea / 65536 == r.ea / 65536

/-- Whether an outstanding request holds a later one of its firing back: as in a port, but where the channel that both take keeps the order and `r`
need not see `q` answered (R116, R216, R241, R439). -/
def awayOrder (s : State) (q r : Req) : Bool := firingOrder s q r && (q.acq || !followsAway s q r)

/-- Whether a presence read that left a core's port earlier and is deferred overlaps a request of it (R208). A fill by that port is held so too, until
another fills the granule: the model's choice between R206 and R208 (log 108). -/
def deferredBefore (s : State) (core p : Nat) (r : Req) : Bool :=
  ((s.cores.flatMap fun (_, c) => c.deferred) ++ s.dies.flatMap Die.deferred).any fun q =>
    coreOf q.elem == core && q.port == p && decide (q.ord < r.ord) && q.stage == .held && ordered s q r

/-- Whether an earlier request of a port stands in the relay queue of a page that moves, which `r` does not join (R208, R458). -/
def queuedBefore (s : State) (core p : Nat) (q r : Req) : Bool :=
  q.dev == s.devId && coreOf q.elem == core && decide (q.elem < stewMark) && q.port == p && decide (q.ord < r.ord) &&
    !(r.pas.any fun a => a == remoteBase + s.devId) && q.parent.all (fun x => x == .request) && portOrder s q r

/-- Whether a request at a place of a port may be performed now, as far as order goes. -/
def inOrder (s : State) (core p k : Nat) (r : Req) : Bool :=
  !((((s.core core).port p).reqs.take k).any fun q => portOrder s q r || waitsInPort s core q) && !deferredBefore s core p r &&
    !((coreReqs s core).any fun q => firingOrder s q r) && !(s.pkg.outstanding.any fun q => awayOrder s q r || queuedBefore s core p q r)

end Sys2Proof.Machine
end

