-- ==== Sys2Proof/Machine/Requests.lean ====
section
/-! DEFINITION. The performance of requests at their homes (R230, R236), watches, ordering tokens and streams (R243 to R251), and the
answers of other devices (R430, R438, R445). -/

namespace Sys2Proof.Machine

/-! ## Performance at the home (R230) -/

/-- The core through whose L1 a request goes: GLB requests for HBM (R204). -/
def viaL1 (core : Nat) (r : Req) : Option Nat := if r.space = 3 then some core else none

/-- The issuer of a request of a core. -/
def Req.issuer (s : State) (core : Nat) (r : Req) : Issuer := .firing core (ctxImage s r.elem r.ctx)

/-- A read of a request at one of its addresses in this device. -/
def reqRead (s : State) (core : Nat) (r : Req) (a ea n : Nat) : State × Except Why Nat :=
  if 2 ^ 61 ≤ a then (s, .ok (statusWord s (dieOf core) (some (ctxImage s r.elem r.ctx)) (a - 2 ^ 61)))
  else if let some link := hedgedTo s core a then
    let (s, w) := dropRequest s r link
    (s, .error w)
  else readAt s (r.issuer s core) (viaL1 core r) a n ea

/-- A write of a request at one of its addresses in this device. -/
def reqWrite (s : State) (core : Nat) (r : Req) (a ea : Nat) (bs : List Byte) : State × Except Why Unit :=
  if let some link := hedgedTo s core a then
    let (s, w) := dropRequest s r link
    (s, .error w)
  else writeAt s (r.issuer s core) (viaL1 core r) a bs ea

/-- The result of a read as what performing the request comes to. -/
def perfOf : State × Except Why Nat → State × Perf
  | (s, .ok v) => (s, .done (BitVec.ofNat 2048 v) false)
  | (s, .error w) => (s, .fail w)
/-- The result of a write as what performing the request comes to. -/
def perfOfUnit : State × Except Why Unit → State × Perf
  | (s, .ok ()) => (s, .done 0 false)
  | (s, .error w) => (s, .fail w)

/-- Whether a core's L1 serves a request's bytes, which then does not go to their home: loads, but no atomics (R204, R230). -/
def servedByL1 (s : State) (core : Nat) (r : Req) (a n : Nat) : Bool := match r.kind with
  | .ld | .ldv | .gathv | .strm => l1Has s core a n
  | .st | .ldp | .stp | .clrp | .atom | .atomr | .pref | .clean | .inval | .watch | .fence | .stv | .scatv | .strmq | .wpwait | .ordt
  | .copy | .istrm | .tlwait | .tlrd | .coll | .rld | .rst | .ratom | .join | .leave | .ownq | .sheaf => false

/-- Whether some bytes of a GLB request wait at their home, or on the way there. -/
def requestHolds (s : State) (core : Nat) (r : Req) (a n : Nat) : Bool :=
  r.space == 3 && inHbm a n && !servedByL1 s core r a n &&
    homeHolds s a n (r.kind.need == .write) r.home (some (dieOf core))

/-- The failure of a GLB request whose home has changed since it was routed, unless its core's L1 serves it (R421). -/
def requestStray (s : State) (core : Nat) (r : Req) (a n : Nat) : Option Why :=
  if r.space == 3 && inHbm a n && !servedByL1 s core r a n then
    (strayLine s r.home a n).map fun line => (Cause.homedown, word (line * 128))
  else none

/-! ## Gathers and scatters at their homes (R236) -/

/-- Whether an ordinary access of a port that was resolved to a device may still go there (R458, R461). -/
def stillGoes (s : State) (core ea dev ord : Nat) : Bool := stillOwned s (dieOf core) (tenantOf s core) (pageOfVa ea) dev ord

/-- An address of a request in a port is to be resolved anew. -/
def rewalk (s : State) (core p ord i : Nat) : State := mapReq s core p ord fun q => { q with stage := .walking, pas := setAt q.pas i unmapped }

/-- The part of a request that another device performs: a lane, or a granule of a stream (R236, R247, R449). -/
def lanePart (r : Req) (a ea n part : Nat) (write : Bool) (data : Vec) : Req :=
  { r with kind := if write then .st else .ld, ea := ea, size := n, data := data, dev := a - remoteBase, done := 0, reply := [],
           parent := some .request, part := part }

/-- Whether a part of a request is awaited of another device. -/
def awaitsPart (s : State) (r : Req) (part : Nat) : Bool :=
  s.pkg.outstanding.any fun q => q.parent == some .request && q.elem == r.elem && q.ord == r.ord && q.part == part

/-- A lane of a gather or scatter has been performed, with the value that it read, or has failed. -/
def Req.laneDone (r : Req) (i : Nat) : Except Why Nat → Req
  | .ok v => { r with pas := setAt r.pas i performed, data2 := if r.kind = .gathv then r.data2 + BitVec.ofNat 2048 (v * 2 ^ (32 * i)) else r.data2 }
  | .error w => { r with pas := setAt r.pas i performed, failed := r.failed <|> some w }

/-- The home that performs an address of a request as a whole: a scratchpad, a cellar, a die's L2, or what stands elsewhere in the physical
space. -/
def homeKey (s : State) (a : Nat) : Nat :=
  if celBase ≤ a then 2 ^ 20 else if scrBase ≤ a then 2 ^ 10 + (a - scrBase) / 2 ^ 19 else if inHbm a 1 then homeOf s a else 4

/-- A lane: its number, its address and its effective address. -/
abbrev Lane := Nat × Nat × Nat

/-- The lanes of a request that are not yet performed. -/
def Req.lanesLeft (r : Req) : List Lane :=
  ((r.pas.zip r.eas).zipIdx.map fun ((a, ea), i) => (i, a, ea)).filter fun (_, a, _) => a != performed

/-- The lanes of a gather at one home: each is read. -/
def gatherAt (s : State) (core : Nat) (r : Req) (ls : List Lane) : State × Req :=
  ls.foldl (fun (s, r) (i, a, ea) =>
    let (s, v) := readAt s (r.issuer s core) (viaL1 core r) a r.size ea
    (s, r.laneDone i v)) (s, r)

/-- The lanes of a scatter at one home are stored as one; a lane that fails leaves them all out (R207, R229, R236). -/
def scatterAt (s : State) (core : Nat) (r : Req) (ls : List Lane) : State × Req :=
  let enter : State × Except Why Unit := ls.foldl (fun (s, acc) (_, a, ea) => match acc with
    | .error w => (s, .error w)
    | .ok () =>
      if holdsBytes a r.size then enterStore s (viaL1 core r) a r.size ea
      else writeAt s (r.issuer s core) none a (bytesOfNum r.size 0) ea) (s, .ok ())
  let all := fun (v : Except Why Nat) => ls.foldl (fun r (i, _, _) => r.laneDone i v) r
  match enter with
  | (_, .error w) => (s, all (.error w))
  | (s, .ok ()) => (storeLanes s (ls.map fun (i, a, _) => (a, bytesOfNum r.size (lane r.data2 i))), all (.ok 0))

/-- The lanes of a request at one home of this device: dropped by a hedge, waiting, or performed. -/
def lanesAt (s : State) (core : Nat) (r : Req) (ls : List Lane) : State × Req :=
  match ls.head?.bind fun (_, a, _) => hedgedTo s core a with
  | some link =>
    let (s, w) := dropRequest s r link
    (s, ls.foldl (fun r (i, _, _) => r.laneDone i (.error w)) r)
  | none =>
    if ls.any fun (_, a, _) => requestHolds s core r a r.size then (s, r)
    else if r.kind = .gathv then gatherAt s core r ls else scatterAt s core r ls

/-- Asks other devices for the lanes that they own; a dead device's fail (R430), and a lane that the owner cache no longer sends there is resolved
anew (R461). -/
def lanesAway (s : State) (core : Nat) (r : Req) (ls : List Lane) : State × Req :=
  ls.foldl (fun (s, r) (i, a, ea) =>
    if isDead s (a - remoteBase) then (s, r.laneDone i (.error (Cause.utimeout, word (a - remoteBase))))
    else if awaitsPart s r i then (s, r)
    else if !stillGoes s core ea (a - remoteBase) r.ord then (s, { r with stage := .walking, pas := setAt r.pas i unmapped })
    else
      let write := r.kind == .scatv
      (sendAway s (lanePart r a ea r.size i write (if write then BitVec.ofNat 2048 (low (8 * r.size) (lane r.data2 i)) else 0)), r)) (s, r)

/-- What a gather or scatter has come to: done or failed once every lane is performed. -/
def Req.lanesEnd (r : Req) : Perf :=
  if r.pas.all fun a => a == performed then match r.failed with
    | some w => .fail w
    | none => .done (if r.kind = .gathv then r.data2 else 0) false
  else .stay

/-- A gather or scatter at its homes: stray lanes fail, other devices' lanes are asked for, and each home of this device performs its lanes as
a whole (R230, R236, R421). -/
def performLanes (s : State) (core p : Nat) (r : Req) : State × Perf :=
  let r := r.lanesLeft.foldl (fun r (i, a, _) => match requestStray s core r a r.size with
    | some w => r.laneDone i (.error w)
    | none => r) r
  let (s, r) := lanesAway s core r (r.lanesLeft.filter fun (_, a, _) => isRemote a)
  let here := r.lanesLeft.filter fun (_, a, _) => !isRemote a && a != unmapped
  let (s, r) := ((here.map fun (_, a, _) => homeKey s a).eraseDups).foldl (fun (s, r) h =>
    lanesAt s core r (here.filter fun (_, a, _) => homeKey s a == h)) (s, r)
  (putReq s core p r, r.lanesEnd)

/-! ## Presence reads, watches -/

/-- LDP at its memory node or cellar bank: a read of an empty granule is deferred while the store has room (R206, R237), and one of a granule
whose fill still waits for what it releases stays where it is (R216; log 107). A deferred read no longer counts among the requests of its port, the model's choice (R208; log 108). -/
def performLdp (s : State) (core : Nat) (r : Req) (a : Nat) : State × Perf :=
  if readable s a then perfOf (reqRead s core r a r.ea 8)
  else if s.present a || deferralFull s a then (s, .stay)
  else
    let r := { r with stage := .held }
    if a < celBase then
      let k := (a - scrBase) / 2 ^ 19
      (s.setCore k { s.core k with deferred := (s.core k).deferred ++ [r] }, .taken)
    else
      let k := (a - celBase) / 2 ^ 30
      (s.setDie k { s.die k with deferred := (s.die k).deferred ++ [r] }, .taken)

/-- Cancels the watch entries of a core that a test picks: the held tokens, and those counted ahead for the
next notification, are counted off, untainted (R207, R243). -/
def cancelWatches (s : State) (core : Nat) (pick : Watch → Bool) : State :=
  let c := s.core core
  let s := s.setCore core { c with watches := c.watches.filter fun w => !pick w }
  (c.watches.filter pick).foldl (fun s w => (w.held ++ w.next).foldl (fun s t => recordDec s (clusterOf core) (tokDec t) false) s) s

/-- Whether a watch entry is on a granule of the scratchpad. -/
def Watch.ofScr (w : Watch) : Bool := decide (scrBase ≤ w.addr) && decide (w.addr < celBase)

/-- WATCH at the memory node: arms an entry, or cancels every entry of its context, its reply route and the granule that it names, wherever that
granule stands by now (R243; log 69). The writes of another device to a page that
it owns are not performed in this package, and trigger nothing (R207). -/
def performWatch (s : State) (core : Nat) (r : Req) (a : Nat) : State × Perf :=
  if r.cmp = 0 then
    (cancelWatches s core fun w => w.elem == r.elem && w.ctx == r.ctx && w.ofScr == (r.space == 0) && w.ea == r.ea && w.route == r.route, .done 0 false)
  else
    let c := s.core core
    if 16 ≤ c.watches.length then (s, .stay)
    else
      let w : Watch := { addr := a, ea := r.ea, elem := r.elem, ctx := r.ctx, ent := r.ent, slot := r.slot, route := r.route, held := r.reply,
                         left := r.cmp.toNat, queue := [], sent := [], lost := false, losses := 0 }
      (settle (s.setCore core { c with watches := c.watches ++ [w] }) r false, .taken)

/-! ## Requests of one address -/

/-- A request leaves its port for another device. -/
def performAway (s : State) (r : Req) : State × Perf :=
  if isDead s r.dev then (s, .fail (Cause.utimeout, word r.dev)) else (sendAway s r, .taken)

/-- A memory request at its home, of one address. -/
def performAt (s : State) (core : Nat) (r : Req) (a : Nat) : State × Perf := match r.kind with
  | .ld | .ldv => perfOf (reqRead s core r a r.ea r.size)
  | .st | .stv => perfOfUnit (reqWrite s core r a r.ea (bytesOfNum r.size r.data.toNat))
  | .ldp => performLdp s core r a
  | .stp =>
    if s.present a then (s, .fail (Cause.doublew, word r.ea))
    else (fillGranule s a (bytesOfNum 8 r.data.toNat), .done 0 false)
  | .clrp => (clearPresence s a r.size, .done 0 false)
  | .atom | .atomr => perfOf (atomAt s (r.issuer s core) a r.size r.ea r.op r.m (low 64 r.data.toNat) r.cmp.toNat)
  | .pref => (if inHbm a 128 then readThrough s core a 128 else s, .done 0 false)
  | .clean =>
    if !inHbm a 128 then (s, .done 0 false)
    else if cleanHolds s (a / 128) then (s, .stay) else (cleanLine s (a / 128), .done 0 false)
  | .inval =>
    if !inHbm a 128 then (s, .done 0 false)
    else if cleanHolds s (a / 128) then (s, .stay) else (invalLine s (a / 128), .done 0 false)
  | .watch => performWatch s core r a
  | .gathv | .scatv | .strm | .strmq | .fence | .wpwait | .ordt | .copy | .istrm | .tlwait | .tlrd | .coll | .rld | .rst | .ratom
  | .join | .leave | .ownq | .sheaf => (s, .stay)

/-- Stands, as the address of a watch entry, for a granule of another device's page, which no write here meets (log 69). -/
def farGranule (r : Req) : Nat := remoteBase + 2 ^ 57 + r.ea

/-- A request of one address, at home on another device, or in the relay queue of a page that moves. Line operations only acknowledge at another
device (R242). What the owner cache no longer sends there is resolved anew (R461). -/
def performRemote (s : State) (core : Nat) (r : Req) : State × Perf :=
  if r.dev != s.devId && (r.kind == .pref || r.kind == .clean || r.kind == .inval) then (s, .done 0 false)
  else if r.kind = .watch && r.dev != s.devId then performWatch s core r (farGranule r)
  else if !stillGoes s core r.ea r.dev r.ord then (rewalk s core r.port r.ord 0, .stay)
  else performAway s r

/-- A memory request: failed where it is stray, held while a home must wait, away where another device owns its page (R230, R421). -/
def performMemory (s : State) (core p : Nat) (r : Req) : State × Perf :=
  let a := r.pas.headD 0
  if r.kind.gathers then performLanes s core p r
  else if isRemote a then performRemote s core r
  else match requestStray s core r a r.span with
    | some w => (s, .fail w)
    | none =>
      if requestHolds s core r a r.span then (s, .stay)
      else match hedgedTo s core a with
        | some link =>
          let (s, w) := dropRequest s r link
          (s, .fail w)
        | none => performAt s core r a

/-- Whether an acknowledgement, not a value, answers a request. -/
def ReqKind.acks : ReqKind → Bool
  | .ld | .ldp | .atomr | .ldv | .gathv | .wpwait | .copy | .istrm | .tlwait | .tlrd | .rld | .ratom | .join | .leave | .ownq => false
  | .st | .stp | .clrp | .atom | .pref | .clean | .inval | .watch | .fence | .stv | .scatv | .strm | .strmq | .ordt | .sheaf | .rst
  | .coll => true

/-- What a request in a port of a core does. WPWAIT and TLWAIT count as performed when the engine keeps the wait, the model's choice (R218, R246;
log 48). -/
def perform (s : State) (core p : Nat) (r : Req) : State × Perf := match r.kind with
  | .wpwait | .tlwait => match waitOp s r with
    | (s, .taken) => (settle s r false, .taken)
    | x => x
  | .tlrd => readTimeline s r
  | .coll => if r.dev = s.devId then (if dieReach s (dieOf core) (r.collMid % 4) then contribute s r else (s, .stay)) else if storesDone s r then performAway s r else (s, .stay)
  | .join | .leave =>
    if r.dev = s.devId then (setMuster s r.op { musterOf s r.op with queue := (musterOf s r.op).queue ++ [r] }, .taken)
    else performAway s r
  | .ownq => match performOwnq s r with
    | (s, .stay) => performAway s r
    | x => x
  | .rld | .ratom | .rst =>
    if r.dev != s.devId then performAway s r
    else if targetMuster r.aux then multicastStore s r
    else match remoteAt s (r.issuer s core) (dieOf core) (tenantOf s core) r with
      | (s, .ok (some v)) => (s, .done (BitVec.ofNat 2048 v) false)
      | (s, .ok none) => (s, .stay)
      | (s, .error w) => (s, .fail w)
  | .fence | .ordt | .copy | .istrm | .strm | .strmq | .sheaf => (s, .stay)
  | .gathv | .scatv => performMemory s core p r
  | .ld | .st | .ldp | .stp | .clrp | .atom | .atomr | .pref | .clean | .inval | .watch | .ldv | .stv => performMemory s core p r

/-- The end of a request in a port. -/
def endReq (s : State) (core p : Nat) (r : Req) : Perf → State
  | .stay => s
  | .done v taint => completeReq (dropReq s core p r) r (if r.kind.acks then 0 else v) taint
  | .fail w => failReq (dropReq s core p r) r w
  | .taken => dropReq s core p r

/-- Performs a request of a port; what it does is metered to its context's image (R389). -/
def performReq (s : State) (core p : Nat) (r : Req) : State :=
  let (s, x) := perform s core p r
  endReq (if x = .stay then s else chargeReq s r) core p r x

/-! ## Answers of other devices (R430, R438, R445, R449) -/

/-- Another device answers a lane, or the far access of a stream's granule. -/
def partAnswered (s : State) (r : Req) (ans : Except Why Vec) : State :=
  mapReq s (coreOf r.elem) r.port r.ord fun q =>
    if q.kind.streams then match ans with
      | .ok v => { q with part := 1, data2 := v }
      | .error w => { q with failed := some w }
    else q.laneDone r.part (ans.map fun v => v.toNat % 2 ^ (8 * r.size))

/-- A multicast store over a set of this device: the slots whose device performed it, of those that it was sent to, join its own; the set is no
longer pinned (R445). -/
def multicastAnswered (s : State) (r : Req) (mask : Nat) : State :=
  let own := low 64 r.data2.toNat
  let all := low 64 (r.data2.toNat / 2 ^ 64)
  let far := low 64 (r.data2.toNat / 2 ^ 128)
  multicastDone (unpin s (bits r.aux 19 12)) r all (own ||| (mask &&& far))

/-- The value that another device answers a request with: of a load or an atomic, the bytes of its size, zero-extended (R234, R240). -/
def Req.value (r : Req) (v : Vec) : Vec := match r.kind with
  | .ld | .ldv | .atomr | .rld | .ratom => BitVec.ofNat 2048 (v.toNat % 2 ^ (8 * r.size))
  | .ldp | .gathv | .wpwait | .copy | .istrm | .tlwait | .tlrd | .join | .leave | .ownq => v
  | .st | .stp | .clrp | .atom | .pref | .clean | .inval | .watch | .fence | .stv | .scatv | .strm | .strmq | .ordt | .sheaf | .rst
  | .coll => 0

/-- The answer of another device to an outstanding request, which is the value or the failure of what it is a part of. A multicast store's is
the mask of slots that performed it, and for another keeper the mask of all. -/
def answered (s : State) (r : Req) (ans : Except Why Vec) (mask all : Nat) : State := match r.parent with
  | some (.engine h) => blockAnswered s r h ans
  | some (.coll mid ts) => collAnswered s r mid ts ans
  | some .request => partAnswered s r ans
  | none =>
    if r.kind = .rst ∧ targetMuster r.aux ∧ (r.dev = s.devId ∨ outsideMark ≤ r.elem) then
      multicastAnswered s r (match ans with | .ok _ => mask | .error _ => 0)
    else match ans with
      | .error w => failReq s r w
      | .ok v =>
        if r.kind = .rst ∧ targetMuster r.aux ∧ r.elem < stewMark then multicastDone s r all mask
        else completeReq s r (r.value v)

/-- The request at a place of a core's port is performed, if a test picks it and it may be performed now. -/
def performPlace (s : State) (core pn k : Nat) (pick : Req → Bool) : State :=
  let p := (s.core core).port pn
  match p.reqs[k]? with
  | none => s
  | some r => if pick r && r.stage = .ready && mayGo p k && inOrder s core pn k r then performReq s core pn r else s

/-- REQUEST_PERFORM: a request of a port is performed, in its order. Kind 1: another device answers an outstanding request; kind 2:
another device's collective engine accepts a contribution. -/
def execRequestPerform (s : State) : Host.Outcome State Fault Refusal :=
  let ev := s.event
  .next (if ev.kind = 1 ∨ ev.kind = 2 then
      match s.pkg.outstanding[ev.unit]? with
      | none => s
      | some r =>
        if ev.kind = 2 then (if r.kind = .coll then settle s r false else s)
        else
          let s := { s with pkg := { s.pkg with outstanding := s.pkg.outstanding.eraseIdx ev.unit } }
          answered s r (if ev.flag then .error (ev.op % 256, ev.w0) else .ok ev.payload) ev.w0.toNat ev.w1.toNat
    else
      performPlace s ev.unit ev.index ev.addr fun _ => true)

/-- ENGINE_ACCEPT: an engine operation at a port arrives at its context, metered to its own context's image (R389): its place in the port is
`size`. -/
def execEngineAccept (s : State) : Host.Outcome State Fault Refusal :=
  let core := s.event.index
  let pn := s.event.addr
  let p := (s.core core).port pn
  .next (match p.reqs[s.event.size]? with
    | none => s
    | some r =>
      if !(r.kind == .copy || r.kind == .istrm) || handleOf r.cmp != s.event.unit || !mayGo p s.event.size
        || !inOrder s core pn s.event.size r then s
      else
        let (s, x) := acceptOp s r
        let s := endReq (if x = .stay then s else chargeReq s r) core pn r x
        if x = .taken then settle s r false else s)

/-! ## Deferred reads, watches, ordering tokens -/

/-- A deferred read leaves the deferral store of a core, 0 to 2047, or of a die, from 2048 on. -/
def undefer (s : State) (u k : Nat) : State :=
  if u < 2048 then s.setCore u { s.core u with deferred := (s.core u).deferred.eraseIdx k }
  else s.setDie (u - 2048) { s.die (u - 2048) with deferred := (s.die (u - 2048)).deferred.eraseIdx k }

/-- DEFERRED_READ_FILL: a deferred read whose granule has been filled, and which is performed thereby or once the fill's release is complete,
sends its reply (R206, R216), metered to its context's image (R389). -/
def execDeferredReadFill (s : State) : Host.Outcome State Fault Refusal :=
  let u := s.event.unit
  let l := if u < 2048 then (s.core u).deferred else (s.die (u - 2048)).deferred
  .next (match l[s.event.index]? with
    | none => s
    | some r =>
      let a := r.pas.headD 0
      let gone := fun (s : State) => chargeUnits (undefer s u s.event.index) (clusterOf (coreOf r.elem)) (some (ctxImage s r.elem r.ctx))
      if r.stage = .ready then settle (sendReply (gone s) r r.data false) r false
      else if r.stage = .held && readable s a then match reqRead s (coreOf r.elem) r a r.ea 8 with
        | (s, .ok v) => settle (sendReply (gone s) r (BitVec.ofNat 2048 v) false) r false
        | (s, .error w) => failReq (gone s) r w
      else s)

/-- WATCH_NOTIFY: an entry with a value to deliver, its previous notification consumed, counts the next one while it stays armed, where the write
has not already, and delivers the held token (R207, R244). -/
def execWatchNotify (s : State) : Host.Outcome State Fault Refusal :=
  let core := s.event.unit
  let c := s.core core
  .next (match c.watches[s.event.index]? with
    | none => s
    | some w => match w.queue with
      | [] => s
      | v :: rest =>
        if !w.sent.isEmpty || (1 < w.left && w.next.isEmpty && !unitRoom s (clusterOf core) (w.held.map tokStamp)) then s
        else
          let (s, next) := if w.left ≤ 1 then (s, []) else if w.next.isEmpty then countAll s (clusterOf core) w.held else (s, w.next)
          let s := chargeUnits s (clusterOf core) (some (ctxImage s w.elem w.ctx))
          let toks := w.held.map fun t =>
            { t with payload := BitVec.ofNat 2048 v.toNat, h1 := if w.lost then setBits t.h1 21 21 1 else t.h1 }
          let s := toks.foldl (fun s t => launch s t (some (w.elem, w.route)) 2) s
          let c := s.core core
          let ws := if w.left ≤ 1 then c.watches.eraseIdx s.event.index
            else c.watches.set s.event.index { w with held := next, next := [], left := w.left - 1, queue := rest, sent := toks, lost := false }
          s.setCore core { c with watches := ws })

/-- WATCH_CANCEL: a WATCH with a count of 0 is performed and cancels the entry of its context, granule and route (R243). -/
def execWatchCancel (s : State) : Host.Outcome State Fault Refusal :=
  .next (performPlace s s.event.unit s.event.index s.event.addr fun r => r.kind == .watch && r.cmp == 0)

/-- Whether an ordering token may leave: no earlier outstanding request of its firing overlaps its footprint or lacks an entry
(R250, R251). -/
def ordtMay (s : State) (r : Req) : Bool := match findRelease (s.elem r.elem) r.rel with
  | none => true
  | some x => x.out.all fun o => !(decide (o.ord < r.ord) && (!o.entry || runsMeet o.runs [(r.space, r.ea, r.size)]))

/-- ORDT_LEAVE: an ordering token leaves, early or late, metered to its context's image (R250, R389). -/
def execOrdtLeave (s : State) : Host.Outcome State Fault Refusal :=
  let core := s.event.unit
  let c := s.core core
  .next (match c.ordts[s.event.index]? with
    | none => s
    | some r =>
      if ordtMay s r then
        let s := s.setCore core { c with ordts := c.ordts.eraseIdx s.event.index }
        sendReply (chargeUnits s (clusterOf core) (some (ctxImage s r.elem r.ctx))) r 0 false
      else s)

/-! ## Streams (R247, R248) -/

/-- The first stream of a port, with its place. -/
def portStream (p : Port) : Option (Nat × Req) :=
  let i := p.reqs.findIdx fun r => r.kind.streams
  (p.reqs[i]?).map fun r => (i, r)

/-- A stream after a granule: it ends, goes on to the next granule, or has its next block checked against the windows. -/
def streamNext (s : State) (core p : Nat) (r : Req) : State :=
  let r := { r with done := r.done + 8, pas := r.pas.map fun a => if isRemote a then a else a + 8, part := 0 }
  if r.span ≤ r.done then endReq s core p r (.done 0 false)
  else if r.space = 3 ∧ (r.ea + r.done) % 256 = 0 then putReq s core p { r with stage := .entered }
  else putReq s core p r

/-- The far access of a stream's granule: a read, or a write of `v`. Another device performs its part, which is awaited; none while the access
waits (R247, R449). -/
def streamFar (s : State) (core : Nat) (r : Req) (v : Nat) : State × Option (Except Why Nat) :=
  let far := r.pas.headD 0
  let ea := r.ea + r.done
  let write := r.kind == .strmq
  if r.part = 1 then (s, some (.ok (low 64 r.data2.toNat)))
  else if isRemote far then
    if isDead s (far - remoteBase) then (s, some (.error (Cause.utimeout, word (far - remoteBase))))
    else if awaitsPart s r 0 then (s, none)
    else if !stillGoes s core ea (far - remoteBase) r.ord then (rewalk s core r.port r.ord 0, none)
    else (sendAway s (lanePart r far ea 8 0 write (if write then BitVec.ofNat 2048 v else 0)), none)
  else match requestStray s core r far 8 with
    | some w => (s, some (.error w))
    | none =>
      if requestHolds s core r far 8 then (s, none)
      else if write then match reqWrite s core r far ea (bytesOfNum 8 v) with
        | (s, .ok ()) => (s, some (.ok 0))
        | (s, .error w) => (s, some (.error w))
      else
        let (s, v) := reqRead s core r far ea 8
        (s, some v)

/-- The next granule of a stream, its far address mapped: of STRM, a read that fills an empty granule; of STRMQ, a write of a full one, which
then is empty. It is moved, waits, or fails (R247, R248). STRMQ fills no granule here and never raises DOUBLEW, the model's reading of R232
(log 114). -/
def streamStep (s : State) (core : Nat) (r : Req) : State × Option (Except Why Unit) :=
  let off := bits r.cmp 18 0 + r.done
  let near := scrAddr core off
  if r.kind = .strm then
    if s.present near then (s, some (.error (Cause.doublew, word off)))
    else match streamFar s core r 0 with
      | (s, some (.ok v)) => (fillGranule s near (bytesOfNum 8 v), some (.ok ()))
      | (s, some (.error w)) => (s, some (.error w))
      | (s, none) => (s, none)
  else if !s.present near then (s, none)
  else match readAt s (.firing core 0) none near 8 off with
    | (s, .error w) => (s, some (.error w))
    | (s, .ok v) => match streamFar s core r v with
      | (s, some (.ok _)) => (s.setPresent near false, some (.ok ()))
      | (s, some (.error w)) => (s, some (.error w))
      | (s, none) => (s, none)

/-- STREAM_GRANULE: the running stream of a port checks a block or moves a granule. -/
def execStreamGranule (s : State) : Host.Outcome State Fault Refusal :=
  let core := s.event.unit
  let pn := s.event.index
  let p := (s.core core).port pn
  .next (match portStream p with
    | none => s
    | some (k, r) =>
      if let some w := r.failed then endReq s core pn r (.fail w)
      else if !mayGo p k || !inOrder s core pn k r then s
      else match r.stage with
        | .walking | .held => s
        | .entered =>
          let (ea, n) := streamBlock r.ea r.span r.done
          match windowMap s r [ea] n with
          | .error w => endReq s core pn r (.fail w)
          | .ok pas => putReq s core pn (r.mapped s pas)
        | .ready => match streamStep s core r with
          | (s, none) => s
          | (s, some (.error w)) => endReq s core pn r (.fail w)
          | (s, some (.ok ())) => streamNext (chargeUnits s (clusterOf core) (some (ctxImage s r.elem r.ctx))) core pn r)

end Sys2Proof.Machine
end

