-- ==== Sys2Proof/Machine/Sheaf.lean ====
section
/-! DEFINITION. The sheaf cutter (R279 to R296) and the coordinate-value streams (R297 to R299). -/

namespace Sys2Proof.Machine

/-! ## Operand descriptors (R279, R280) -/

/-- STRIDE. -/
def dStride (d : W64) : Nat := bits d 56 41
/-- FORM. -/
def dForm (d : W64) : Nat := bits d 40 39
/-- FMT. -/
def dFmt (d : W64) : Nat := bits d 38 35
/-- K. -/
def dK (d : W64) : Nat := bits d 34 19 + 1
/-- BASE. -/
def dBase (d : W64) : Nat := bits d 18 0
/-- w: the bytes of a value. -/
def dWidth (d : W64) : Nat := Ty.width ((Ty.ofCode (dFmt d)).getD .b8) / 8
/-- G: the groups of 64 k-rows. -/
def dGroups (d : W64) : Nat := (dK d + 63) / 64
/-- First byte of MASK. -/
def dMask (d : W64) : Nat := dBase d + 8 * ((dGroups d + 63) / 64)
/-- First byte of GOFF. -/
def dGoff (d : W64) : Nat := dMask d + 8 * ((dK d + 1) / 2)
/-- First byte of VAL: after GOFF, or after MASK64 in an N-of-64 operand (R280, R282). -/
def dVal (d : W64) : Nat :=
  if dForm d = 1 then dBase d + 8 * dGroups d else dGoff d + 8 * ((dGroups d + 1) / 2)

/-- Whether a descriptor holds a reserved value or sets a zero bit; BASE must be 8-aligned. -/
def descBad (d : W64) : Bool :=
  bits d 63 57 != 0 || dForm d == 3 || !([3, 5, 6, 7, 8, 9].contains (dFmt d)) || dBase d % 8 != 0 ||
  (if dForm d = 2 then dStride d == 0 else dStride d != 0)

/-! ## The control word and the register sets (R284, R287) -/

/-- The sheaf set of a context of an element. -/
def sheafOf (s : State) (e ctx : Nat) : Sheaf := Tab.get Sheaf.init (s.core (coreOf e)).sheaf (e % 4 * 8 + ctx)
/-- Replaces the sheaf set of a context. -/
def setSheaf (s : State) (e ctx : Nat) (x : Sheaf) : State :=
  let c := s.core (coreOf e)
  s.setCore (coreOf e) { c with sheaf := Tab.set Sheaf.init c.sheaf (e % 4 * 8 + ctx) x }

/-- MODE of a control word. -/
def cMode (c : W64) : Nat := bits c 25 24
/-- RB. -/
def cRb (c : W64) : Nat := bits c 6 0
/-- R: 64 when RB = 64, else 32. -/
def cRows (c : W64) : Nat := if cRb c = 64 then 64 else 32
/-- N of the N-of-64 mode. -/
def cN (c : W64) : Nat := 8 * 2 ^ bits c 27 26
/-- SI. -/
def cSi (c : W64) : Nat := bits c 46 28
/-- VB. -/
def cVb (c : W64) : Nat := bits c 23 8

/-- Whether SHCFG refuses its words (R287). -/
def shcfgBad (p q c : W64) : Bool :=
  bits c 63 47 != 0 || bitOf c 7 || bits c 27 26 == 3 || (cMode c != 3 && bits c 27 26 != 0) || cSi c % 256 != 0 ||
  !((1 ≤ cRb c && cRb c ≤ 32) || cRb c == 64) || descBad p || (q != 0 && descBad q) || dForm p == 2 ||
  (cMode c == 3 && (dForm p != 1 || (cRb c != 32 && cRb c != 64))) || (cMode c != 3 && dForm p == 1) ||
  ((cMode c == 1 || cMode c == 2) && (q == 0 || dForm q != 0)) || (q != 0 && dK q != dK p)

/-! ## The claim of the scan unit (R285) -/

/-- Claims the cutter for a firing of element `e`; none while another holds it, or R198 serves another first. -/
def claimCutter (s : State) (e ctx : Nat) : Option State :=
  let c := s.core (coreOf e)
  match c.cutClaim with
  | some (o, _, _) => if o = e then some s else none
  | none =>
    if !servedFirst s false e [coreOf e] then none
    else some (s.setCore (coreOf e) { c with cutClaim := some (e, e % 4 * 8 + ctx, sheafOf s e ctx) })

/-- Runs a cutter instruction under the claim: it stalls while another firing holds it. -/
def cutterOp (o : Ops) (s : State) (k : State → Nat → Firing → Except Why (State × Agent)) : Host.Outcome State Fault Refusal :=
  withFiring s fun e f => match claimCutter s e f.frame.ctx with
    | none => s
    | some s' => match k s' e f with
      | .error w => raise s' w.1 w.2
      | .ok (t, x) => finish t o x

/-! ## Reads and checks (R285) -/

/-- The checks of bytes that the cutter touches: the bound of the scratchpad, then the declared ranges. -/
def cutCheck (s : State) (e ctx off n : Nat) (wr : Bool) : Except Why Unit :=
  if 2 ^ 19 < off + n then .error (Cause.shdesc, word (max off (2 ^ 19)))
  else match uncovered (rangeSpans (ctxRanges s e ctx) 0 (!wr) wr) 9 off (off + n) with
    | some b => .error (Cause.rangeout, word b)
    | none => .ok ()

/-- A read of the cutter: checked, the firing's own stores first (R114, R115). -/
def cutRead (s : State) (e : Nat) (f : Firing) (off n : Nat) : Except Why (State × Nat) :=
  match cutCheck s e f.frame.ctx off n false with
  | .error w => .error w
  | .ok () => match readScr s e f n [off] with
    | (_, .error w) => .error w
    | (s, .ok v) => .ok (s, v.headD 0)

/-- The summary bit of a group (R280, R281). -/
def sumBit (s : State) (e : Nat) (f : Firing) (d : W64) (g : Nat) : Except Why (State × Bool) := do
  let (s, w) ← cutRead s e f (dBase d + 8 * (g / 64)) 8
  return (s, w.testBit (g % 64))

/-- The mask of a k-row: 0 where the summary says that its group is empty. -/
def rowMask (s : State) (e : Nat) (f : Firing) (d : W64) (k : Nat) : Except Why (State × Nat) := do
  let (s, b) ← sumBit s e f d (k / 64)
  if b then cutRead s e f (dMask d + 4 * k) 4 else return (s, 0)

/-- The number of values that the k-rows from `k` on, `n` of them, store. -/
def valuesBefore (e : Nat) (f : Firing) (d : W64) (k : Nat) : Nat → State → Except Why (State × Nat)
  | 0, s => .ok (s, 0)
  | n + 1, s => do
    let (s, m) ← cutRead s e f (dMask d + 4 * k) 4
    let (s, r) ← valuesBefore e f d (k + 1) n s
    return (s, popCount 32 m + r)

/-- The index of the first stored value of a k-row (R280). -/
def rowStart (s : State) (e : Nat) (f : Firing) (d : W64) (k : Nat) : Except Why (State × Nat) := do
  let (s, b) ← cutRead s e f (dGoff d + 4 * (k / 64)) 4
  let (s, r) ← valuesBefore e f d (k / 64 * 64) (k % 64) s
  return (s, b + r)

/-- The values of the set columns of a mask, the first stored at value index `i`; zeros elsewhere. -/
def expandFrom (e : Nat) (f : Firing) (d : W64) (m : Nat) : Nat → Nat → Nat → State → Except Why (State × List Nat)
  | 0, _, _, s => .ok (s, [])
  | n + 1, j, i, s =>
    if m.testBit j then do
      let (s, v) ← cutRead s e f (dVal d + dWidth d * i) (dWidth d)
      let (s, r) ← expandFrom e f d m n (j + 1) (i + 1) s
      return (s, v :: r)
    else do
      let (s, r) ← expandFrom e f d m n (j + 1) i s
      return (s, 0 :: r)

/-- Expand(P, k): the 32 values of a k-row of a sheaf-ready operand (R289). -/
def expandRow (s : State) (e : Nat) (f : Firing) (d : W64) (k : Nat) : Except Why (State × List Nat) := do
  let (s, m) ← rowMask s e f d k
  if m = 0 then return (s, List.replicate 32 0)
  else
    let (s, i) ← rowStart s e f d k
    expandFrom e f d m 32 0 i s

/-! ## SHCFG and SHBND (R287, R288) -/

/-- Checks a list of areas: offset, length and whether they are written. -/
def checkAreas (s : State) (e ctx : Nat) : List (Nat × Nat × Bool) → Except Why Unit
  | [] => .ok ()
  | (off, n, wr) :: rest => match cutCheck s e ctx off n wr with
    | .error w => .error w
    | .ok () => checkAreas s e ctx rest

/-- The areas of an operand's occupancy that SHCFG checks. -/
def occupancyAreas (d : W64) : List (Nat × Nat × Bool) :=
  if dForm d = 1 then [(dBase d, 8 * dGroups d, false)]
  else [(dBase d, dMask d - dBase d, false), (dMask d, dGoff d - dMask d, false), (dGoff d, dVal d - dGoff d, false)]

/-- Bytes of the output area (R287). -/
def outputBytes (p c : W64) : Nat := 128 + 32 * cRows c * dWidth p

/-- SHCFG. -/
def execShcfg (o : Ops) (s : State) : Host.Outcome State Fault Refusal :=
  cutterOp o s fun s e f =>
    let x := Agent.firing e f
    let p := word (srcWord s x o o.a)
    let q := word (srcWord s x o o.b)
    let c := word (srcWord s x o (thirdSpec o))
    if shcfgBad p q c then .error (Cause.shcfgbad, c)
    else match checkAreas s e f.frame.ctx (occupancyAreas p ++ (if cMode c = 1 || cMode c = 2 then occupancyAreas q else [])
        ++ [(cSi c, outputBytes p c, true)]) with
      | .error w => .error w
      | .ok () => .ok (setSheaf s e f.frame.ctx
          { v := true, scfg := c, spdesc := p, sqdesc := q, sk0 := 0, sk1 := 0, sn := 0, si := cSi c, bound := dK p, snum := 0,
            done := false, skr := 0 }, x)

/-- SHBND. -/
def execShbnd (o : Ops) (s : State) : Host.Outcome State Fault Refusal :=
  cutterOp o s fun s e f =>
    let x := Agent.firing e f
    let a := srcWord s x o o.a
    let b := srcWord s x o o.b
    let t := sheafOf s e f.frame.ctx
    if !t.v then .error (Cause.shnocfg, 0)
    else if b < a || dK t.spdesc < b || (cMode t.scfg = 3 && (a % 64 != 0 || b % 64 != 0)) then .error (Cause.shbound, word a)
    else .ok (setSheaf s e f.frame.ctx
      { t with sk0 := a, sk1 := a, bound := b, sn := 0, snum := 0, done := false, skr := a + a * 2 ^ 17 }, x)

/-! ## SHCUT (R289 to R294) -/

/-- A cut in progress. -/
structure Cut where
  k : Nat
  bytes : Nat
  list : List Nat
  rows : List (List Nat)
  deriving DecidableEq, Repr, Inhabited

/-- The loop of R289. -/
def cutPlain (e : Nat) (f : Firing) (t : Sheaf) : Nat → State → Cut → Except Why (State × Cut)
  | 0, s, a => .ok (s, a)
  | n + 1, s, a =>
    if t.bound ≤ a.k || cRb t.scfg ≤ a.list.length then .ok (s, a)
    else do
      let mode := cMode t.scfg
      let (s, sp) ← sumBit s e f t.spdesc (a.k / 64)
      let (s, sq) ← if mode = 0 then pure (s, sp) else sumBit s e f t.sqdesc (a.k / 64)
      let go := if mode = 1 then sp && sq else sp || sq
      if !go then cutPlain e f t n s { a with k := min (64 * (a.k / 64 + 1)) t.bound }
      else
        let (s, mp) ← rowMask s e f t.spdesc a.k
        let (s, mq) ← if mode = 0 then pure (s, mp) else rowMask s e f t.sqdesc a.k
        let occ := if mode = 1 then mp != 0 && mq != 0 else mp != 0 || mq != 0
        if !occ then cutPlain e f t n s { a with k := a.k + 1 }
        else
          let v := dWidth t.spdesc * popCount 32 mp
          if cVb t.scfg != 0 && a.list != [] && cVb t.scfg < a.bytes + v then .ok (s, a)
          else
            let (s, row) ← expandRow s e f t.spdesc a.k
            cutPlain e f t n s { k := a.k + 1, bytes := a.bytes + v, list := a.list ++ [a.k], rows := a.rows ++ [row] }

/-- `n` values of an operand from value index `i` on. -/
def readValues (e : Nat) (f : Firing) (d : W64) : Nat → Nat → State → Except Why (State × List Nat)
  | 0, _, s => .ok (s, [])
  | n + 1, i, s => do
    let (s, v) ← cutRead s e f (dVal d + dWidth d * i) (dWidth d)
    let (s, r) ← readValues e f d n (i + 1) s
    return (s, v :: r)

/-- The mask word of a group of an N-of-64 operand. -/
def maskWord (s : State) (e : Nat) (f : Firing) (d : W64) (g : Nat) : Except Why (State × Nat) := cutRead s e f (dBase d + 8 * g) 8

/-- The loop of R290. -/
def cutN64 (e : Nat) (f : Firing) (t : Sheaf) : Nat → State → Cut → Except Why (State × Cut)
  | 0, s, a => .ok (s, a)
  | n + 1, s, a =>
    let nn := cN t.scfg
    if t.bound ≤ a.k || cRb t.scfg < a.list.length + nn then .ok (s, a)
    else do
      let (s, m) ← maskWord s e f t.spdesc (a.k / 64)
      if popCount 64 m != nn then throw (Cause.shnmask, word m)
      let (s, vals) ← readValues e f t.spdesc (32 * nn) (32 * nn * (a.k / 64)) s
      let ks := ((List.range 64).filter fun i => m.testBit i).map fun i => a.k + i
      cutN64 e f t n s { a with k := a.k + 64, list := a.list ++ ks,
                                rows := a.rows ++ (List.range nn).map fun i => (vals.drop (32 * i)).take 32 }

/-- The bytes of the output area of a cut (R291). -/
def cutOutput (t : Sheaf) (a : Cut) : List Byte :=
  let w := dWidth t.spdesc
  let ix := (List.range 64).flatMap fun n => bytesOfNum 2 (a.list.getD n 0xFFFF)
  let rows := (List.range (cRows t.scfg)).flatMap fun n => (a.rows.getD n (List.replicate 32 0)).flatMap (bytesOfNum w)
  ix ++ rows

/-- The result word of a cut (R292). -/
def cutWord (sk0 sk1 sn snum bound : Nat) : Nat :=
  sk0 + sk1 * 2 ^ 17 + sn * 2 ^ 34 + snum * 2 ^ 41 + ofBool (sn == 0) * 2 ^ 47 + ofBool (sk1 == bound) * 2 ^ 48

/-- A send on a route of kind memory; on any other route as `issueSend` (R293). -/
def issueMemSend (s : State) (e : Nat) (f : Firing) (route : Nat) (fl : Flags) (payload : Vec) : Except Why Firing :=
  let r := routeWord s e f.frame.ctx route
  if routeKind r = 7 then
    if deadPeer s (routeDev s r) then .error (Cause.deadpeer, word (routeDev s r))
    else
      let tok := routeToken s r f.frame.ts fl payload (ctxImage s e f.frame.ctx)
      .ok { f with items := f.items ++ [.send tok route r (routeCores s e f.frame.ctx route r) false], nsend := f.nsend + 1 }
  else issueSend s e f route fl payload

/-- SHCUT. -/
def execShcut (o : Ops) (s : State) : Host.Outcome State Fault Refusal :=
  withFiring s fun e f => if bufferBusy s e f then s else match claimCutter s e f.frame.ctx with
    | none => s
    | some s' =>
      let cx := f.frame.ctx
      let t := sheafOf s' e cx
      let t := if xBit o.x 23 then { t with sk0 := t.sk1 } else t
      let start : Cut := { k := t.sk0, bytes := 0, list := [], rows := [] }
      let out : Except Why (State × Agent) :=
        if !t.v then .error (Cause.shnocfg, 0)
        else if t.done || t.snum == 64 then .error (Cause.shseq, word t.snum)
        else do
          let (s', a) ← if cMode t.scfg = 3 then cutN64 e f t 1025 s' start else cutPlain e f t 65537 s' start
          cutCheck s' e cx t.si (outputBytes t.spdesc t.scfg) true
          let w := cutWord t.sk0 a.k a.list.length t.snum t.bound
          let f ← issueMemSend s' e f (sendRoute o)
            { seq := t.snum, last := a.k == t.bound, esheaf := a.list.isEmpty } (BitVec.ofNat 2048 w)
          let f := f.addScr (.write t.si (cutOutput t a))
          let t := { t with sk1 := a.k, sn := a.list.length, snum := t.snum + 1, done := a.k == t.bound, skr := w }
          return (setSheaf s' e cx t, (Agent.firing e f).setScalar o.d w)
      match out with
      | .error w => raise s' w.1 w.2
      | .ok (t, x) => finish t o x

/-! ## SHCO (R295) -/

/-- Entries of the index list of a context's last cut. -/
def indexList (e : Nat) (f : Firing) (si : Nat) : Nat → Nat → State → Except Why (State × List Nat)
  | 0, _, s => .ok (s, [])
  | n + 1, i, s => do
    let (s, v) ← cutRead s e f (si + 2 * i) 2
    let (s, r) ← indexList e f si n (i + 1) s
    return (s, v :: r)

/-- α[i][k] of a partner operand; N of an N-of-64 one comes from the control word (R282). -/
def partnerValue (s : State) (e : Nat) (f : Firing) (t : Sheaf) (i k : Nat) : Except Why (State × Nat) :=
  let d := t.sqdesc
  let w := dWidth d
  if dForm d = 2 then cutRead s e f (dBase d + 8 * dStride d * i + w * k) w
  else if dForm d = 1 then do
    let (s, m) ← maskWord s e f d (k / 64)
    if m.testBit (k % 64) then
      cutRead s e f (dVal d + w * (32 * (cN t.scfg * (k / 64) + popCount (k % 64) m) + i)) w
    else return (s, 0)
  else do
    let (s, m) ← rowMask s e f d k
    if m.testBit i then
      let (s, b) ← rowStart s e f d k
      cutRead s e f (dVal d + w * (b + popCount i m)) w
    else return (s, 0)

/-- The partner's values of one row at the listed k. -/
def partnerRow (e : Nat) (f : Firing) (t : Sheaf) (i : Nat) : List Nat → State → Except Why (State × List Nat)
  | [], s => .ok (s, [])
  | k :: rest, s => do
    let (s, v) ← partnerValue s e f t i k
    let (s, r) ← partnerRow e f t i rest s
    return (s, v :: r)

/-- The partner's values of `h` rows from `i` on, each padded with zeros to R values. -/
def partnerRows (e : Nat) (f : Firing) (t : Sheaf) (ks : List Nat) : Nat → Nat → State → Except Why (State × List Nat)
  | 0, _, s => .ok (s, [])
  | h + 1, i, s => do
    let (s, row) ← partnerRow e f t i ks s
    let (s, r) ← partnerRows e f t ks h (i + 1) s
    return (s, row ++ List.replicate (cRows t.scfg - row.length) 0 ++ r)

/-- SHCO. -/
def execShco (o : Ops) (s : State) : Host.Outcome State Fault Refusal :=
  cutterOp o s fun s e f =>
    let x := Agent.firing e f
    let t := sheafOf s e f.frame.ctx
    let i0 := srcWord s x o o.a
    let w := Ty.width o.ty / 8
    let h := 256 / (cRows t.scfg * w)
    if !t.v || t.sqdesc = 0 then .error (Cause.shnocfg, 0)
    else if Ty.code o.ty != dFmt t.sqdesc then .error (Cause.shtype, word (Ty.code o.ty))
    else if dForm t.sqdesc != 2 && 32 < i0 + h then .error (Cause.shdesc, word i0)
    else do
      let (s, ks) ← indexList e f t.si t.sn 0 s
      match ks.find? fun k => decide (dK t.sqdesc ≤ k) with
      | some k => throw (Cause.shdesc, word k)
      | none =>
        let (s, vals) ← partnerRows e f t ks h i0 s
        return (s, x.setVector o.d (vecOfPacked (8 * w) vals))

/-! ## SPHDR (R296) -/

/-- The words of a bit operand: clear where a summary says so. -/
def bitWords (e : Nat) (f : Firing) (base : Nat) (sum : Option Nat) : Nat → Nat → State → Except Why (State × List Nat)
  | 0, _, s => .ok (s, [])
  | n + 1, g, s => do
    let (s, w) ← if sum.any fun m => !m.testBit g then pure (s, 0) else cutRead s e f (base + 8 * g) 8
    let (s, r) ← bitWords e f base sum n (g + 1) s
    return (s, w :: r)

/-- The bits of a bit operand, as a number of `len` bits. A BASE that is not 8-aligned faults with SHDESC and BASE in DETAIL, the model's choice
(R296; log 143). -/
def bitOperand (s : State) (e : Nat) (f : Firing) (d : Nat) (tree : Bool) : Except Why (State × Nat) := do
  let base := d % 2 ^ 19
  let len := d / 2 ^ 19 % 4096 + 1
  let n := (len + 63) / 64
  if base % 8 != 0 then throw (Cause.shdesc, word base)
  let (s, ws) ← if tree then do
      let (s, m) ← cutRead s e f base 8
      bitWords e f (base + 8) (some m) n 0 s
    else bitWords e f base none n 0 s
  return (s, low len (packNum 64 ws))

/-- SPHDR: captures the combined bits; the emitter sends after the commit point. It stalls while the emitter holds a capture. The
DETAIL of a length that differs is B's offset (log 24). -/
def execSphdr (o : Ops) (s : State) : Host.Outcome State Fault Refusal :=
  withFiring s fun e f =>
    let c := coreOf e
    let x := Agent.firing e f
    let a := srcWord s x o o.a
    let b := srcWord s x o o.b
    let mode := xField o.x 23 22
    let tree := xBit o.x 21
    let r := routeWord s e f.frame.ctx (sendRoute o)
    if bufferBusy s e f || (s.core c).emission.isSome then s
    else
      let out : Except Why (State × Nat) := do
        if mode != 0 && a / 2 ^ 19 % 4096 != b / 2 ^ 19 % 4096 then throw (Cause.shdesc, word (b % 2 ^ 19))
        let (s, va) ← bitOperand s e f a tree
        let (s, vb) ← if mode = 0 then pure (s, va) else bitOperand s e f b tree
        if tsDepth f.frame.ts = 3 then throw (Cause.stampovf, f.frame.ts)
        if sendsToDead s r then throw (Cause.deadpeer, word (routeDev s r))
        return (s, if mode = 1 then va &&& vb else va ||| vb)
      match out with
      | .error w => raise s w.1 w.2
      | .ok (s, v) =>
        let em : Emission :=
          { elem := e, ctx := f.frame.ctx, ent := f.frame.ent, ts := f.frame.ts, route := sendRoute o, word := r,
            cores := routeCores s e f.frame.ctx (sendRoute o) r, bits := (List.range 4096).filter fun i => v.testBit i, next := 0,
            live := false, rel := 0, gated := 0, after := f.items.length }
        finish (s.setCore c { s.core c with emission := some em }) o (.firing e { f with nsend := f.nsend + 1 })

/-! ## Coordinate-value streams (R297 to R299) -/

/-- No entry. -/
def noEntry : Nat := 0xFFFFFFFF

/-- The coordinates of a block: lanes 0 to 31. -/
def blockCoords (s : State) (x : Agent) (sp : Spec) : List Nat := (List.range 32).map (lane (vectorRaw s x sp))

/-- The first lane at which a block is not well formed. -/
def blockFault : Option Nat → Nat → List Nat → Option Nat
  | _, _, [] => none
  | prev, i, c :: rest =>
    if c = noEntry then blockFault (some noEntry) (i + 1) rest
    else if prev.any fun p => decide (c ≤ p) then some i
    else blockFault (some c) (i + 1) rest

/-- Runs a stream instruction on two well-formed blocks. -/
def streamOp (o : Ops) (s : State) (k : Agent → List Nat → List Nat → State) : Host.Outcome State Fault Refusal :=
  withAgent s fun x =>
    let a := blockCoords s x o.a
    let b := blockCoords s x o.b
    match (blockFault none 0 a).orElse fun _ => blockFault none 0 b with
    | some l => raise s Cause.shstream (word l)
    | none => k x a b

/-- The mask of the valid entries of a block whose coordinate another block holds. -/
def heldIn (a b : List Nat) : Nat := packNum 1 (a.map fun c => ofBool (c != noEntry && b.contains c))

/-- ISECT (R298). -/
def execIsect (o : Ops) (s : State) : Host.Outcome State Fault Refusal :=
  streamOp o s fun x a b => finishScalar s o x (heldIn a b + heldIn b a * 2 ^ 32)

/-- The last valid coordinate of a block, none for an empty one. -/
def lastCoord (l : List Nat) : Option Nat := (l.filter fun c => c != noEntry).max?

/-- The ascending union of two ascending lists. -/
def unionAsc : Nat → List Nat → List Nat → List Nat
  | 0, _, _ => []
  | _ + 1, [], bs => bs
  | _ + 1, as, [] => as
  | n + 1, a :: as, b :: bs =>
    if a < b then a :: unionAsc n as (b :: bs) else if b < a then b :: unionAsc n (a :: as) bs else a :: unionAsc n as bs

/-- SMERGE (R299): the value lanes are typed reads, the coordinate lanes are not. -/
def execSmerge (o : Ops) (s : State) : Host.Outcome State Fault Refusal :=
  streamOp o s fun x a b =>
    let within := fun c => (lastCoord a).all (fun l => decide (c ≤ l)) && (lastCoord b).all fun l => decide (c ≤ l)
    let pick := fun (l : List Nat) => l.filter fun c => c != noEntry && within c
    let u := (unionAsc 65 (pick a) (pick b)).take 32
    let value := fun (sp : Spec) (l : List Nat) (c : Nat) => src s x o (.typed o.ty) sp true (32 + l.idxOf c)
    let merged := u.map fun c =>
      if a.contains c && b.contains c then sumStep o.ty o.m (value o.a a c) (value o.b b c)
      else if a.contains c then value o.a a c else value o.b b c
    let pad := 32 - u.length
    finishLanes s o x (u ++ List.replicate pad noEntry ++ merged ++ List.replicate pad 0)

end Sys2Proof.Machine
end

