-- ==== Sys2Proof/Machine/Elements.lean ====
section
/-! DEFINITION. The events of elements and of their core's units: a token's arrival (R86 to R89), hedges (R326 to R328), the choice of
a frame (R82, R90 to R94), the commit point (R101), trap records (R108), PARKWAIT (R110), the retry and the handing over of
claims (R165, R198), counter chains (R200 to R202), the SPHDR emitter (R296), and admission at the gate (R175). -/

namespace Sys2Proof.Machine

/-! ## Hedges (R326 to R328) -/

/-- The link of the hedge that drops a token in flight; a token of a unit of the system passes. -/
def flightDropped (s : State) (f : Flight) : Option (Nat × Nat) :=
  if locDev (tokLoc f.tok) = s.devId then f.origin.bind fun c => hedgeDrops s f.net c (locCore (tokLoc f.tok)) else none

/-- Whether the links between dies let a token in flight through; a unit's token enters on the die that it goes to (R394, R395). -/
def flightPasses (s : State) (f : Flight) : Bool := f.origin.all fun c => dieReach s (dieOf c) (dieOf (locCore (tokLoc f.tok)))

/-- HEDGEDROP: a hedge drops a token in flight with a tainted decrement. -/
def execHedgedrop (s : State) : Host.Outcome State Fault Refusal :=
  .next (match s.net[s.event.unit]? with
    | none => s
    | some f => match flightDropped s f with
      | none => s
      | some far =>
        let s := dropCounted { s with net := s.net.eraseIdx s.event.unit } f.tok
        let loc := tokLoc f.tok
        reportDrop s far (locEl loc) (locCtx loc) (locEnt loc) f.tok.ts f.tok.h1)

/-! ## Arrival (R85 to R90) -/

/-- Whether an earlier flight must arrive first: of one route, not on the packet network, or on the control plane from one core, to one core
(R169, R306). -/
def arrivesBefore (f g : Flight) : Bool :=
  f.net == g.net && locCore (tokLoc f.tok) == locCore (tokLoc g.tok) &&
    ((f.net != 1 && f.src.isSome && f.src == g.src) || (f.net == 2 && f.origin.isSome && f.origin == g.origin))

/-- The valid contexts of a core, as element within it × 8 + context. -/
def coreCtxs (s : State) (core : Nat) : List Nat := (List.range 32).filter fun k => ctxValid s (core * 4 + k / 8) (k % 8)

/-- Entries of the matching store in use, by context. -/
def entryUse (x : Elem) : List Nat := x.frames.map Frame.ctx ++ (x.firing.map fun f => f.frame.ctx).toList

/-- Whether a context may take one more of `total` places of which each valid context keeps one (R85, R199). -/
def mayTake (total : Nat) (used valid : List Nat) (ctx : Nat) : Bool :=
  let owed := valid.countP fun c => c != ctx && !used.contains c
  decide (used.length + owed < total)

/-- Operand-buffer slots in use, by element within the core × 8 + context (R199). -/
def obufUse (s : State) (core : Nat) : List Nat :=
  (List.range 4).flatMap fun i =>
    let x := s.elem (core * 4 + i)
    (x.frames ++ (x.firing.map Firing.frame).toList).flatMap fun f =>
      (f.tokens.filter tokWide).map fun _ => i * 8 + f.ctx

/-- Whether a token finds the operand-buffer slot that it needs. -/
def obufRoom (s : State) (core el ctx : Nat) (t : Token) : Bool :=
  !tokWide t || mayTake 96 (obufUse s core) (coreCtxs s core) (el * 8 + ctx)

/-- The slot of a frame on a side. -/
def Frame.side (f : Frame) (side : Nat) : Option Token := if side = 0 then f.l else if side = 1 then f.r else f.p
/-- Puts a token into the slot of a side. -/
def Frame.place (f : Frame) (side : Nat) (t : Token) : Frame :=
  if side = 0 then { f with l := some t } else if side = 1 then { f with r := some t } else { f with p := some t }

/-- Bit 0 of the payload of a predicate token. -/
def truth (t : Token) : Bool := t.payload.toNat % 2 == 1

/-- Whether a frame is complete (R90). -/
def frameComplete (ew : W64) (f : Frame) : Bool :=
  let kind := bits ew 54 53
  if kind = 0 then (!bitOf ew 57 || f.l.isSome) && (!bitOf ew 56 || f.r.isSome) && (!bitOf ew 55 || f.p.isSome)
  else if kind = 1 then f.p.any fun t => if truth t then f.r.isSome else f.l.isSome
  else if kind = 2 then f.p.isSome
  else f.l.isSome

/-- The lowest free entry of a matching store (log 19). -/
def freeEntry (x : Elem) : Option Nat :=
  let used := x.frames.map Frame.ms ++ (x.firing.map fun f => f.frame.ms).toList
  (List.range 64).find? fun k => !used.contains k

/-- A frame becomes complete where it is: it takes its rank (R93). -/
def settleFrame (s : State) (e : Nat) (f : Frame) : State × Frame :=
  if f.state = .filling ∧ frameComplete (entryWord s e f.ctx f.ent) f then
    ({ s with fresh := s.fresh + 1 }, { f with state := .complete, order := s.fresh, waited := 0 })
  else (s, f)

/-- The parity errors of a matching-store entry: in the tag, in the other fields (R89). -/
def parity (s : State) (e ms : Nat) : Bool × Bool :=
  (s.soft.contains (.store e ms true), s.soft.contains (.store e ms false))

/-- Puts a frame back among the frames of an element, in place of the one in its entry. -/
def putFrame (s : State) (e : Nat) (f : Frame) : State :=
  let x := s.elem e
  s.setElem e { x with frames := (x.frames.filter fun g => g.ms != f.ms || g.state == .parkwait) ++ [f] }

/-- An error in the tag of an entry: the context is frozen and its region lost. The frame keeps its entry and takes no further part, so that
nothing of it is ever counted off (R89; log 94). -/
def loseTag (s : State) (e : Nat) (f : Frame) : State :=
  let c := s.core (coreOf e)
  let s := s.setCore (coreOf e) (c.setCtxWord (e % 4) f.ctx 0 (setBits (ctxWord s e f.ctx) 62 59 0))
  let s := putFrame { s with soft := s.soft.erase (.store e f.ms true) } e { f with state := .lost }
  regionLost s Cause.taglost e f.ctx f.ent f.ts (word f.ms)

/-- Takes a frame out of its element. -/
def takeFrame (s : State) (e : Nat) (f : Frame) : State :=
  let x := s.elem e
  s.setElem e { x with frames := x.frames.filter fun g => g != f }

/-- A frame with a new token, checked for parity (R89): it stays, is parked, or loses its region. -/
def placeFrame (s : State) (e : Nat) (f : Frame) : State :=
  let (tag, other) := parity s e f.ms
  let (s, f) := settleFrame s e f
  if tag then loseTag s e f
  else if other then
    let s := { s with soft := s.soft.erase (.store e f.ms false) }
    parkBefore s e f Cause.msparity (word f.ms) true
  else putFrame s e f

/-- First number of the mark that an INJ's token bears as its source: the mark, plus four times the steward-mode core; START stands in
place of the route. -/
def injMark : Nat := 2 ^ 22

/-- Whether a token that INJ sent meets an entry that refuses it: one inside a loop, or one whose kind does not go with START (R349). -/
def injRefused (ew : W64) (src : Option (Nat × Nat)) : Bool := match src with
  | some (m, start) => decide (injMark ≤ m) && (bits ew 40 34 != 0 || (start == 1) != (bits ew 54 53 == 3))
  | none => false

/-- Whether placing a token in an entry parks its frame: a parity error stands outside the tag (R89). -/
def placeParks (s : State) (e ms : Nat) : Bool := (parity s e ms).2 && !(parity s e ms).1

/-- A token reaches its element; none while it must wait in the network: for an entry or an operand-buffer slot, or, where its frame is to be
parked, for a trap record's place (R86, R88, R89, R108; log 95). -/
def deliver (s : State) (t : Token) (src : Option (Nat × Nat) := none) : Option State :=
  let loc := tokLoc t
  let core := locCore loc
  let e := core * 4 + locEl loc
  let ctx := locCtx loc
  let ent := locEnt loc
  let side := tokSide t
  if !ctxValid s e ctx || !bitOf (entryWord s e ctx ent) 63 || injRefused (entryWord s e ctx ent) src then
    let s := recordDec s (clusterOf core) (tokDec t) true
    some (unitRecord s (clusterOf core) Cause.straytok t.ts t.h1 core (e % 4) ctx ent)
  else if !obufRoom s core (e % 4) ctx t then none
  else
    let x := s.elem e
    match x.frames.find? fun f => f.ctx == ctx && f.ent == ent && f.ts == t.ts && f.state != .parkwait && f.state != .lost with
    | some f =>
      let dup := (f.side side).isSome
      if (dup || placeParks s e f.ms) && !trapRoom s e then none
      else if dup then some (parkBefore (takeFrame s e f) e { f with x := some t } Cause.dupop (word side))
      else some (placeFrame (takeFrame s e f) e (f.place side t))
    | none =>
      if !mayTake 64 (entryUse x) ((List.range 8).filter (ctxValid s e)) ctx then none
      else match freeEntry x with
        | none => none
        | some ms =>
          let f : Frame := { ms := ms, ctx := ctx, ent := ent, ts := t.ts, l := none, r := none, p := none, x := none,
                             state := .filling, order := 0, waited := 0, trap0 := 0, trap3 := 0, poison := false }
          if placeParks s e ms && !trapRoom s e then none else some (placeFrame s e (f.place side t))

/-- The token that an event brings from another device; the image of its destination counts it. -/
def outsideToken (s : State) (ev : Event) : Token :=
  let t : Token := { ts := ev.w0, h1 := ev.w1, h2 := ev.w2, payload := ev.payload, region := 0 }
  let loc := tokLoc t
  { t with region := ctxImage s (locCore loc * 4 + locEl loc) (locCtx loc) }

/-- Another device asks for the snapshot of a set that this one keeps: the set is pinned until the fork has left, and the answer is the mask of
slots with the sides, and the locations (R444). -/
def answerSnapshot (s : State) (dev mid : Nat) : State :=
  let m := musterOf s mid
  if !m.queue.isEmpty then s
  else
    let sides := (m.slots.map fun (k, x) => x.side * 2 ^ (2 * k)).sum
    let locs := (m.slots.map fun (k, x) => x.loc * 2 ^ (31 * k)).sum
    let s := if m.slots.isEmpty then s else setMuster s mid { m with pins := m.pins + 1 }
    { s with out := .answer dev (BitVec.ofNat 2048 locs) false
        :: .answer dev (BitVec.ofNat 2048 (slotMask m.slots + sides * 2 ^ 64)) false :: s.out }

/-- TOKEN_ARRIVAL: a token of a network reaches its element. By kind, what comes in by Utern: 1 a token of another device, 2 the token of
device `index` for its fork over the set `addr` kept here, with the batch tags of its copies in `size`, 16 bits a slot, 3 a token counted here that another device dropped, of image `size`, 4 the slots
delivered of the SENDM in slot `op` of element `index`, context `addr` and entry `size` over another device's set, 5 the question of device `index` for
the members of the set `addr` (R427, R444; log 41). -/
def execTokenArrival (s : State) : Host.Outcome State Fault Refusal :=
  let ev := s.event
  .next (if ev.kind = 1 then
      let t := outsideToken s ev
      if locDev (tokLoc t) = s.devId then
        { s with net := s.net ++ [{ tok := t, src := some (2 ^ 20 + 4 * ev.index, 0), net := ev.op % 3 }] }
      else dropCounted s t
    else if ev.kind = 2 then forkFor s ev.index ev.addr (outsideToken s ev) (ev.op % 3) ev.size
    else if ev.kind = 3 then dropCounted s { outsideToken s ev with region := ev.size }
    else if ev.kind = 4 then asyncRecord s Cause.partmc ev.index ev.addr ev.size (ev.op % 32) ev.w0 ev.w1
    else if ev.kind = 5 then answerSnapshot s ev.index ev.addr
    else match s.net[ev.unit]? with
      | none => s
      | some f =>
        if (s.net.take ev.unit).any fun g => arrivesBefore g f then s
        else if (flightDropped s f).isSome || !flightPasses s f then s
        else (deliver { s with net := s.net.eraseIdx ev.unit } f.tok f.src).getD s)

/-! ## The choice of a frame (R82, R91 to R94, R110, R165) -/

/-- The channel entry of a token (R79). -/
def channelOf (s : State) (core : Nat) (t : Token) : W64 := Tab.get 0 (s.core core).cfg1 (bits t.h1 30 26)

/-- The sides whose operand fails a test, as bits. -/
def failSides (f : Frame) (bad : Token → Bool) : Nat :=
  ofBool (f.l.any bad) + 2 * ofBool (f.r.any bad) + 4 * ofBool (f.p.any bad)

/-- The check of R82 on a frame of an entry: the cause and its DETAIL. -/
def channelCheck (s : State) (e : Nat) (f : Frame) : Option Why :=
  let kind := bits (entryWord s e f.ctx f.ent) 54 53
  if kind = 2 ∨ kind = 3 then none
  else
    let core := coreOf e
    let off := failSides f fun t => !bitOf (channelOf s core t) 63
    let mis := failSides f fun t => bitOf t.h1 24 != bitOf (channelOf s core t) 58
    if off != 0 then some (Cause.chanoff, word off) else if mis != 0 then some (Cause.scalemis, word mis) else none

/-- Effective priority of a frame (R93, R94). -/
def effPri (s : State) (e : Nat) (f : Frame) : Nat :=
  if isLean s (coreOf e) (ctxImage s e f.ctx) then 1 else min 15 (ctxPri s e f.ctx + f.waited / 65536)

/-- Whether a counter chain of the core takes the frames of an entry (R201). -/
def chainBound (s : State) (e ctx ent : Nat) : Bool := (List.range 4).any fun c =>
  let w := Tab.get 0 (s.core (coreOf e)).cfg1 (0x20 + 4 * c)
  bitOf w 63 && bits w 62 61 == e % 4 && bits w 60 58 == ctx && bits w 57 55 == ent

/-- The instructions of a run, from a slot to the first with E = 1. -/
def runFrom (s : State) (e ctx : Nat) : Nat → Nat → List Instr
  | 0, _ => []
  | n + 1, slot =>
    if 32 ≤ slot then []
    else
      let w := (s.core (coreOf e)).ctxWord (e % 4) ctx (0x10 + slot)
      match decode .firing w with
      | .error _ => []
      | .ok i => i :: (if bitOf w 55 then [] else runFrom s e ctx n (slot + 1))

/-- Whether R165 keeps a frame from being chosen: its run adds to an accumulator whose early buffer is full, and its own partial is
not the expected one. While a firing holds the lock, the accumulator counts as that firing has changed it, the model's choice (log 110). -/
def accHolds (s : State) (e : Nat) (f : Frame) : Bool :=
  (runFrom s e f.ctx 32 (bits (entryWord s e f.ctx f.ent) 62 58)).any fun i => match i with
    | .vseqacc o =>
      let b := match o.b with
        | .k j => ((s.core (coreOf e)).ctxWord (e % 4) f.ctx (0x40 + j.val)).toNat
        | .imm => wrapInt 64 (signX o.x)
        | .t _ | .v _ | .il | .ir | .ip | .ts | .zero | .lane | .nul | .g _ => 0
      let a := ((s.core (coreOf e)).accs.getD (b % 4) Acc.init).data
      let tok := if bits (entryWord s e f.ctx f.ent) 54 53 != 1 then (if o.a = .ir then f.r else f.l)
        else if o.a = .ir then none else if f.p.any truth then f.r else f.l
      decide (16 ≤ a.early.length) && !(tok.any fun t => bits t.h1 20 15 == a.exp)
    | _ => false

/-- Whether a frame may be chosen. -/
def candidate (s : State) (e : Nat) (f : Frame) : Bool :=
  f.state == .complete && ctxPri s e f.ctx != 0 && !chainBound s e f.ctx f.ent &&
    (freeRecord s (ctxImage s e f.ctx) e 64 64).isSome && !accHolds s e f

/-- The context that R93 picks at a level among those with candidates: the first after the one that last fired there. -/
def pickCtx (last : Nat) (ctxs : List Nat) : Option Nat := ((List.range 8).map fun i => (last + 1 + i) % 8).find? ctxs.contains

/-- The frame that R93 picks, with its effective priority. -/
def pickFrame (s : State) (e : Nat) : Option (Frame × Nat) :=
  let x := s.elem e
  let cs := (x.frames.filter (candidate s e)).map fun f => (f, effPri s e f)
  match (cs.map Prod.snd).max? with
  | none => none
  | some top =>
    let cs := cs.filter fun (_, p) => p == top
    match pickCtx (x.rr.getD top 7) (cs.map fun (f, _) => f.ctx) with
    | none => none
    | some ctx =>
      let cs := cs.filter fun (f, _) => f.ctx == ctx
      match (cs.map fun (f, _) => f.order).min? with
      | none => none
      | some o =>
        let cs := cs.filter fun (f, _) => f.order == o
        match (cs.map fun (f, _) => f.ms).min? with
        | none => none
        | some m => cs.find? fun (f, _) => f.ms == m

/-- The lowest operand-buffer slot of a frame that meets an uncorrectable error, and the state with the corrected ones counted (R219,
R415). -/
def obufErrors (s : State) (e : Nat) (f : Frame) : State × Option Nat :=
  let mine := s.soft.filter fun x => match x with
    | .obuf el ms _ _ => el == e && ms == f.ms && f.tokens.any tokWide
    | .slot _ _ _ | .scr _ _ _ | .l1 _ _ _ _ | .l2 _ _ _ _ | .store _ _ _ | .cellar _ _ _ | .hbm _ _ => false
  let hard := mine.filterMap fun x => match x with
    | .obuf _ _ slot true => some slot
    | _ => none
  let soft := mine.length - hard.length
  let c := s.core (coreOf e)
  let s := s.setCore (coreOf e) { c with eccObuf := min (c.eccObuf + soft) 65535 }
  let d := s.die (dieOf (coreOf e))
  let s := s.setDie (dieOf (coreOf e)) { d with corrected := d.corrected + soft }
  ({ s with soft := s.soft.filter fun x => !mine.contains x }, hard.min?)

/-- The check before a merge fires: both data slots hold a token (R92). -/
def mergeExtra (s : State) (e : Nat) (f : Frame) : Option Why :=
  if bits (entryWord s e f.ctx f.ent) 54 53 = 1 ∧ f.l.isSome ∧ f.r.isSome then
    some (Cause.mergextra, word (low 64 ((f.p.map fun t => t.payload.toNat).getD 0)))
  else none

/-- A chosen frame that passes its checks starts to fire, its temporaries free (R96 to R98; log 4); a milestone or start token carries no
channel (R82). Its rank is now that of the choice. -/
def startFiring (s : State) (e : Nat) (f : Frame) (pri : Nat) : State :=
  let c := coreOf e
  let ew := entryWord s e f.ctx f.ent
  let merge := bits ew 54 53 == 1
  let l := if merge then (if f.p.any truth then f.r else f.l) else f.l
  let r := if merge then none else f.r
  let ch := fun (t : Option Token) => if 2 ≤ bits ew 54 53 then 0 else (t.map (channelOf s c)).getD 0
  let firing : Firing :=
    { frame := { f with order := s.fresh }, slot := bits ew 62 58, t := (List.range 8).map fun i => Config.freeWord (s.free * 8 + i),
      v := (List.range 8).map fun i => Config.freeVec (s.free * 8 + i), items := [], nsend := 0, nreq := 0, scr := [],
      chL := ch l, chR := ch r, chP := ch f.p, prio := pri, fed := none, ended := false }
  let s := { s with free := s.free + 1, fresh := s.fresh + 1 }
  s.setElem e { s.elem e with firing := some firing }

/-- Whether a frame is a gated one whose predicate is false (R91). -/
def gatedOff (s : State) (e : Nat) (f : Frame) : Bool :=
  let ew := entryWord s e f.ctx f.ent
  bits ew 54 53 == 0 && bitOf ew 55 && f.p.any fun t => !truth t

/-- A frame has been chosen: the checks before issue, in the order parity, operand buffer, merge, channels; then it fires, commits at once, or
is parked. A context whose chosen frame is parked counts as the one that last fired (R93, R106; log 71). -/
def chosen (s : State) (e : Nat) (f : Frame) (pri : Nat) : State :=
  let (tag, other) := parity s e f.ms
  if tag then loseTag s e f
  else
    let x := s.elem e
    let s := s.setElem e { x with rr := setAt x.rr pri f.ctx }
    let s := takeFrame s e f
    if other then parkBefore { s with soft := s.soft.erase (.store e f.ms false) } e f Cause.msparity (word f.ms) true
    else match obufErrors s e f with
      | (s, some slot) => parkBefore s e f Cause.obufecc (word slot) true
      | (s, none) => match mergeExtra s e f with
        | some w => parkBefore s e f w.1 w.2
        | none => match channelCheck s e f with
          | some w => parkBefore s e f w.1 w.2
          | none =>
            let s := startFiring s e f pri
            if gatedOff s e f then commitFiring s e true else s

/-- FRAME_CHOICE: an element without a firing chooses a frame; not while it is stopped (R473), while both its trap records wait
(R108), or in a core clock that its die's fast throttle takes (R418). -/
def execFrameChoice (s : State) : Host.Outcome State Fault Refusal :=
  let e := s.event.unit
  let x := s.elem e
  .next (if x.firing.isSome || x.stopped || 2 ≤ x.traps.length || throttled s (dieOf (coreOf e)) then s
    else match pickFrame s e with
      | some (f, p) => chosen s e f p
      | none => s)

/-- COMMIT_POINT: a firing whose END has completed commits (R101). -/
def execCommitPoint (s : State) : Host.Outcome State Fault Refusal :=
  let e := s.event.unit
  .next (match (s.elem e).firing with
    | some f => if f.ended then commitFiring s e false else s
    | none => s)

/-! ## Trap records and PARKWAIT (R108, R110) -/

/-- TRAP_RECORD_LEAVE: the oldest waiting trap record of an element leaves, on its fault route, to the trap queue, or to the reeve;
it waits for a free place. It goes by the route word and the fork that the context holds as it leaves, which the spec does not settle where
CFGW has changed them since the park (the model's choice, log 109). -/
def execTrapRecordLeave (s : State) : Host.Outcome State Fault Refusal :=
  let e := s.event.unit
  let x := s.elem e
  let cl := clusterOf (coreOf e)
  .next (match x.traps with
    | [] => s
    | t :: rest =>
      let w := ctxWord s e t.ctx
      let r := t.record
      let gone := chargeUnits (s.setElem e { x with traps := rest }) cl (some (ctxImage s e t.ctx))
      if bits w 36 32 < 16 then
        let fr := bits w 36 32
        let rw := routeWord s e t.ctx fr
        let pay := BitVec.ofNat 2048 (r.w0.toNat + r.w1.toNat * 2 ^ 64 + r.w2.toNat * 2 ^ 128 + r.w3.toNat * 2 ^ 192)
        let toks := branches s (routeToken s rw (tsTo r.w1 0) {} pay (ctxImage s e t.ctx)) (routeCores s e t.ctx fr rw)
        if unitRoom s cl (toks.map tokStamp) then leaveCounted gone e fr (routeNet rw) toks else s
      else if bits w 55 53 = 7 then
        (if s.pkg.rq.length < 64 then { gone with pkg := { gone.pkg with rq := gone.pkg.rq ++ [r] } } else s)
      else
        let c := gone.cluster cl
        if c.tq.length < 62 then gone.setCluster cl { c with tq := c.tq ++ [r] } else s)

/-- PARKWAIT_RELEASE: the oldest PARKWAIT frame of a region with a free fault record is parked. -/
def execParkwaitRelease (s : State) : Host.Outcome State Fault Refusal :=
  let e := s.event.unit
  let waiting := (s.elem e).frames.filter fun f => f.state == .parkwait && (freeRecord s (ctxImage s e f.ctx) e 64 64).isSome
  .next (match (waiting.map Frame.order).min?.bind fun o => waiting.find? fun f => f.order == o with
    | none => s
    | some f => releaseParkwait s e (ctxImage s e f.ctx))

/-! ## Claims (R165, R198, R267, R285) -/

/-- VSEQACC_RETRY: a firing that waits at a VSEQACC performs it afresh (R163, R165). -/
def execVseqaccRetry (s : State) : Host.Outcome State Fault Refusal :=
  match nextInstr s s.event.unit with
  | some (.vseqacc o) => execVseqacc o { chargeEnergy s (.element s.event.unit) (Config.energyWeight s.stepNo) with actor := .element s.event.unit }
  | _ => .next s

/-- CLAIM_HANDOVER: a free array or cutter is claimed by the waiting firing that R198 serves first, of both cores of a chained pair (R267,
R285). -/
def execClaimHandover (s : State) : Host.Outcome State Fault Refusal :=
  let core := s.event.unit
  let cores := if s.event.flag then claimCores s core else [core]
  .next (match firstServed s ((cores.flatMap elemsOf).filter (wants s s.event.flag)) with
    | none => s
    | some e =>
      if s.event.flag then (claimArray s e).getD s
      else match (s.elem e).firing with
        | some f => (claimCutter s e f.frame.ctx).getD s
        | none => s)

/-! ## Emission by chains and by the SPHDR emitter (R201, R202, R296) -/

/-- One token of an emission to the cores of a route: through the gate on an ingress route, to its queue on a host egress route, else as R168
sends it, with how many gate places it takes; none while it must wait, a full egress queue counted. `chain` is the chain, or 4 for the
emitter. Where the route's transform overflows, for which R168 gives a fault to instructions alone, it sends nothing and goes on, the
model's choice (log 136). -/
def emit (s : State) (e ctx route : Nat) (rw : W64) (cores : List Nat) (ts : W64) (n : Nat) (fl : Flags) (payload : Nat) (chain : Nat) :
    State × Option Nat :=
  let k := routeKind rw
  match tsOnRoute k ts n with
  | .error _ => (s, some 0)
  | .ok t =>
    let tok := routeToken s rw t fl (BitVec.ofNat 2048 payload) (ctxImage s e ctx)
    let toks := branches s tok cores
    if k = 0 || k = 6 || k = 7 || toks.isEmpty then (s, some 0)
    else if k = 8 then match leaveHost s (routeMid rw) tok with
      | (s, true) => (s, some 0)
      | (s, false) => (s, none)
    else if k = 2 then match enterGate s (gateEntry s e toks route (routeNet rw) none (some chain)) with
      | some s => (s, some 1)
      | none => (s, none)
    else if !unitRoom s (clusterOf (coreOf e)) (toks.map tokStamp) then (s, none)
    else (leaveCounted s e route (routeNet rw) toks, some 0)

/-- The levels of a chain in use: START, STEP, COUNT. -/
def chainLevels (c : Core) (ch : Nat) : List (Nat × Nat × Nat) :=
  (List.range (bits (Tab.get 0 c.cfg1 (0x20 + 4 * ch)) 49 48)).map fun j =>
    let w := Tab.get 0 c.cfg1 (0x21 + 4 * ch + j)
    (bits w 63 48, bits w 47 32, bits w 31 20)

/-- The number of tokens of an activation. -/
def chainCount (c : Core) (ch : Nat) : Nat := (chainLevels c ch).foldl (fun a (_, _, n) => a * n) 1

/-- The counters of the levels for token n, level 0 fastest. -/
def odometer : List (Nat × Nat × Nat) → Nat → List Nat
  | [], _ => []
  | (_, _, c) :: rest, n => n % c :: odometer rest (n / c)

/-- The payload of token n of a chain (R201). -/
def chainPayload (c : Core) (ch n : Nat) : Nat :=
  let ls := chainLevels c ch
  let ms := odometer ls n
  let ix := (ls.zip ms).map fun ((st, step, _), m) => (st + m * step) % 65536
  let fin := fun (j : Nat) => match ls[j]?, ms[j]? with
    | some (_, _, cnt), some m => m + 1 == cnt
    | _, _ => true
  packNum 16 ix + ofBool (fin 0) * 2 ^ 48 + ofBool (fin 0 && fin 1) * 2 ^ 49 + ofBool (fin 0 && fin 1 && fin 2) * 2 ^ 50

/-- Replaces a chain's activation. -/
def setChain (s : State) (core ch : Nat) (a : Option Activation) : State :=
  s.setCore core { s.core core with chains := setAt (s.core core).chains ch a }

/-- CHAIN_TRIGGER: an enabled chain without an activation takes the earliest complete frame of its bound entry (R201). -/
def execChainTrigger (s : State) : Host.Outcome State Fault Refusal :=
  let core := s.event.unit
  let ch := s.event.index % 4
  let c := s.core core
  let w := Tab.get 0 c.cfg1 (0x20 + 4 * ch)
  let e := core * 4 + bits w 62 61
  let ctx := bits w 60 58
  let fs := (s.elem e).frames.filter fun f => f.state == .complete && f.ctx == ctx && f.ent == bits w 57 55
  .next (if !bitOf w 63 || (c.chains.getD ch none).isSome || ctxPri s e ctx == 0 || isLean s core (ctxImage s e ctx) then s
    else match (fs.map Frame.order).min? with
      | none => s
      | some o => match fs.find? fun f => f.order == o with
        | none => s
        | some f =>
          let s' := takeFrame s e f
          match channelCheck s e f with
          | some w => if trapRoom s e then parkBefore s' e f w.1 w.2 else s
          | none => setChain s' core ch (some { trigger := f, next := 0, gated := 0 }))

/-- CHAIN_EMIT: a chain emits its next token; after the last, with its +1 recorded, the trigger's tokens are counted off and consumed, those with
EOS for R320 too (R202). -/
def execChainEmit (s : State) : Host.Outcome State Fault Refusal :=
  let core := s.event.unit
  let ch := s.event.index % 4
  let c := s.core core
  let w := Tab.get 0 c.cfg1 (0x20 + 4 * ch)
  let e := core * 4 + bits w 62 61
  .next (match c.chains.getD ch none with
    | none => s
    | some a =>
      if a.next < chainCount c ch then
        let fin := (chainLevels c ch).head?.any fun (_, _, cnt) => a.next % cnt + 1 == cnt
        let r := bits w 54 50
        let rw := routeWord s e a.trigger.ctx r
        match emit s e a.trigger.ctx r rw (routeCores s e a.trigger.ctx r rw) a.trigger.ts a.next { last := fin, seq := a.next } (chainPayload c ch a.next) ch with
        | (s, none) => s
        | (s, some g) => setChain (chargeUnits s (clusterOf core) (some (ctxImage s e a.trigger.ctx))) core ch (some { a with next := a.next + 1, gated := a.gated + g })
      else if a.gated != 0 || !decRoom s (clusterOf core) (a.trigger.tokens.map tokDec) then s
      else
        let toks := a.trigger.tokens
        let taint := toks.any tokTaint
        let s := toks.foldl (fun s t => recordDec s (clusterOf core) (tokDec t) taint) s
        let s := watchConsumed s toks
        let c := s.core core
        setChain (s.setCore core { c with eosSeen := (c.eosSeen ++ eosSides s e a.trigger).eraseDups }) core ch none)

/-- Whether the release of an emission has performed the stores before its SPHDR: its tokens may leave (R213). -/
def emissionFree (s : State) (m : Emission) : Bool := match findRelease (s.elem m.elem) m.rel with
  | none => true
  | some r => decide (m.after ≤ r.popped) && r.out.all fun o => !(o.write && decide (o.place < m.after))

/-- SPHDR_EMIT: the emitter sends the next token of a committed emission; after the last, with its +1 recorded, the release may
record its decrements (R296). -/
def execSphdrEmit (s : State) : Host.Outcome State Fault Refusal :=
  let core := s.event.unit
  let c := s.core core
  .next (match c.emission with
    | none => s
    | some m =>
      let n := max 1 m.bits.length
      if !m.live || !emissionFree s m then s
      else if m.next < n then
        let (fl, pay) : Flags × Nat := match m.bits[m.next]? with
          | some p => ({ last := m.next + 1 == n, seq := m.next }, p + m.next * 2 ^ 16)
          | none => ({ last := true, esheaf := true }, 0)
        match emit s m.elem m.ctx m.route m.word m.cores m.ts m.next fl pay 4 with
        | (s, none) => s
        | (s, some g) =>
          let s := chargeUnits s (clusterOf core) (some (ctxImage s m.elem m.ctx))
          s.setCore core { s.core core with emission := some { m with next := m.next + 1, gated := m.gated + g } }
      else if m.gated != 0 then s
      else
        let s := mapRelease s m.elem m.rel fun r => { r with gated := r.gated - 1 }
        s.setCore core { s.core core with emission := none })

/-! ## Admission at the gate (R175) -/

/-- W(l) of a loop. -/
def loopWindow (s : State) (image l : Nat) : Nat := (loopRow s image l).2.1

/-- Whether the home aggregator admits an activation of a loop now; where it is on another device, its grant comes with the event's flag (log 9). -/
def admits (s : State) (image l : Nat) (p : W64) : Bool :=
  let h := s.home image
  if homedAway s image then l == 0 || s.event.flag
  else l == 0 || h.acts.any (fun a => a.loop == l && a.pfx == p) || decide (h.acts.countP (fun a => a.loop == l) < loopWindow s image l)

/-- The context of what waits for a gated token, whose image pays for its way (R389). -/
def gatedCtx (s : State) (g : Gated) : Nat :=
  let c := s.core (coreOf g.elem)
  match g.rel, g.chain with
  | some id, _ => ((findRelease (s.elem g.elem) id).map Release.ctx).getD 0
  | none, some 4 => (c.emission.map Emission.ctx).getD 0
  | none, some ch => ((c.chains.getD ch none).map fun a => a.trigger.ctx).getD 0
  | none, none => 0

/-- A gated token has left: what waits for it counts one less. -/
def ungate (s : State) (g : Gated) : State :=
  let core := coreOf g.elem
  match g.rel, g.chain with
  | some id, _ => mapRelease s g.elem id fun r => { r with gated := r.gated - 1 }
  | none, some 4 =>
    s.setCore core { s.core core with emission := (s.core core).emission.map fun m => { m with gated := m.gated - 1 } }
  | none, some ch => match (s.core core).chains.getD ch none with
    | some a => setChain s core ch (some { a with gated := a.gated - 1 })
    | none => s
  | none, none => s

/-- An activation of a loop is in flight in a region, from its admission on (R175). -/
def takeAct (s : State) (image l : Nat) (p : W64) : State :=
  let h := s.home image
  if l == 0 || homedAway s image || h.acts.any (fun a => a.loop == l && a.pfx == p) then s
  else s.setHome image { h with acts := h.acts ++ [{ loop := l, pfx := p, applied := false }] }

/-- GATE_ADMISSION_GRANT: the home aggregator admits the activation of a send in a gate queue; the +1 of every copy is recorded, and the copies
leave together, sent by the frontier unit (R175, R312, R313, R326). Sends of one route and one prefix leave in their order. Kind 1: the home of
the region `addr` here admits the activation of the loop `index` that another device's gate asks for. -/
def execGateAdmissionGrant (s : State) : Host.Outcome State Fault Refusal :=
  let cl := s.event.unit
  let k := s.event.index
  let c := s.cluster cl
  .next (if s.event.kind = 1 then
      let image := s.event.addr
      let t := takeAct s image k s.event.w0
      if !homedAway s image && admits s image k s.event.w0 then { t with out := .admission image k s.event.w0 true :: t.out } else s
    else match c.gate[k]? with
    | none => s
    | some g =>
      let images := (g.toks.map Token.region).eraseDups
      let first := !((c.gate.take k).any fun h => h.src == g.src && h.prefixTs == g.prefixTs)
      if !first || !(images.all fun i => admits s i g.loop g.prefixTs) || !unitRoom s cl (g.toks.map tokStamp) then s
      else
        let s := images.foldl (fun s i => takeAct s i g.loop g.prefixTs) s
        let s := s.setCluster cl { s.cluster cl with gate := (s.cluster cl).gate.eraseIdx k }
        let (s, toks) := countAll (chargeUnits s cl (some (ctxImage s g.elem (gatedCtx s g)))) cl g.toks true
        ungate (toks.foldl (fun s t => launch s t (some g.src) g.net none) s) g)

end Sys2Proof.Machine
end

