-- ==== Sys2Proof/Machine/Hash.lean ====
section
/-! DEFINITION. SHAKE256 (FIPS 202) and Ed448 (RFC 8032, section 5.2), as SIGCHK, the starts and the attestation reports use them (R363,
R412, R414; log 31). -/

namespace Sys2Proof.Machine

/-! ## SHAKE256 -/

/-- Rotation of a 64-bit lane to the left. -/
def rotLane (a n : Nat) : Nat := (a <<< (n % 64)) % 2 ^ 64 ||| a >>> (64 - n % 64)

/-- The lane of a Keccak state that stands at (x, y), both taken modulo 5. -/
def laneAt (a : List Nat) (x y : Nat) : Nat := a.getD (5 * (y % 5) + x % 5) 0

/-- The Keccak state whose lane at (x, y) is `f x y`. -/
def stateBy (f : Nat → Nat → Nat) : List Nat :=
  [0, 1, 2, 3, 4].flatMap fun y => [0, 1, 2, 3, 4].map fun x => f x y

/-- Step theta: every lane takes in the parities of the columns on both sides, the right one rotated. -/
def keccakTheta (a : List Nat) : List Nat :=
  let column := fun (x : Nat) => [0, 1, 2, 3, 4].foldl (fun s y => s ^^^ laneAt a x y) 0
  let parity := [column 0, column 1, column 2, column 3, column 4]
  stateBy fun x y => laneAt a x y ^^^ parity.getD ((x + 4) % 5) 0 ^^^ rotLane (parity.getD ((x + 1) % 5) 0) 1

/-- The walk of step rho: the lanes that are rotated, each with its amount, the triangular numbers in the order of the walk that goes
from (x, y) to (y, 2x + 3y). -/
def rhoWalk : Nat → Nat → Nat → Nat → List (Nat × Nat)
  | 0, _, _, _ => []
  | n + 1, k, x, y => (5 * y + x, k * (k + 1) / 2) :: rhoWalk n (k + 1) y ((2 * x + 3 * y) % 5)

/-- The amounts of step rho, by lane. -/
def rhoAmounts : List Nat := (List.range 25).map fun i => ((rhoWalk 24 1 1 0).lookup i).getD 0

/-- Steps rho and pi: each lane is rotated and moves to its place. -/
def keccakRhoPi (a : List Nat) : List Nat :=
  let turned := (a.zip rhoAmounts).map fun (v, r) => rotLane v r
  stateBy fun x y => laneAt turned (x + 3 * y) x

/-- Step chi on every row. -/
def keccakChi (a : List Nat) : List Nat :=
  stateBy fun x y => laneAt a x y ^^^ (laneAt a (x + 2) y &&& (laneAt a (x + 1) y ^^^ (2 ^ 64 - 1)))

/-- One step of the register whose bit 0 gives the bits of the round constants: x times its content modulo x^8 + x^6 + x^5 + x^4 + 1. -/
def iotaStep (r : Nat) : Nat := if r < 128 then 2 * r else 2 * r ^^^ 0x171

/-- The constant of a round, of which only the bits at 2^j - 1 for j from 0 to 6 may be set, and the register after it. -/
def iotaWord (r : Nat) : Nat × Nat :=
  (List.range 7).foldl (fun (c, r) j => (c + r % 2 * 2 ^ (2 ^ j - 1), iotaStep r)) (0, r)

/-- Keccak-f[1600]: `n` rounds from the register at `r`. -/
def keccakRounds : Nat → Nat → List Nat → List Nat
  | 0, _, a => a
  | n + 1, r, a =>
    let (c, r') := iotaWord r
    let b := keccakChi (keccakRhoPi (keccakTheta a))
    keccakRounds n r' (stateBy fun x y => if x + y = 0 then laneAt b 0 0 ^^^ c else laneAt b x y)

/-- Bytes that SHAKE256 takes in or gives at a time. -/
def shakeRate : Nat := 136

/-- The padding of a message of `k` bytes: the suffix 1111 of SHAKE, then pad10*1. -/
def shakePadding (k : Nat) : List Byte := match shakeRate - 1 - k % shakeRate with
  | 0 => [0x9F]
  | n + 1 => 0x1F :: (List.replicate n 0 ++ [0x80])

/-- Takes `n` blocks of bytes into a state. -/
def shakeAbsorb : Nat → List Nat → List Byte → List Nat
  | 0, a, _ => a
  | n + 1, a, bs =>
    let block := numOfBytes (bs.take shakeRate)
    shakeAbsorb n (keccakRounds 24 1 (a.zipIdx.map fun (v, i) => v ^^^ low 64 (block >>> (64 * i)))) (bs.drop shakeRate)

/-- SHAKE256 of a message, at most 136 bytes of output. -/
def shake256 (msg : List Byte) (n : Nat) : List Byte :=
  let a := shakeAbsorb (msg.length / shakeRate + 1) (List.replicate 25 0) (msg ++ shakePadding msg.length)
  (bytesOfNum shakeRate (packNum 64 (a.take 17))).take n

/-! ## Ed448 -/

namespace Ed448

/-- The field's prime. -/
def p : Nat := 2 ^ 448 - 2 ^ 224 - 1
/-- The curve's d, -39081. -/
def d : Nat := p - 39081
/-- The order of the base point. -/
def l : Nat := 2 ^ 446 - 13818066809895115352007386748515426880336692474882178609894547503885
/-- The base point. -/
def base : Nat × Nat × Nat :=
  (224580040295924300187604334099896036246789641632564134246125461686950415467406032909029192869357953282578032075146446173674602635247710,
   298819210078481492676017930443930673437544040154080242095928241372331506189835876003536878655418784733982303233503462500531545062832660,
   1)

/-- Power modulo the prime, over the low `n` bits of the exponent. -/
def pow (b e : Nat) : Nat → Nat → Nat
  | 0, acc => acc
  | n + 1, acc =>
    let acc := acc * acc % p
    pow b e n (if e.testBit n then acc * b % p else acc)

/-- Difference modulo the prime of two residues. -/
def sub (a b : Nat) : Nat := (a + p - b % p) % p

/-- Sum of two points in projective coordinates. -/
def add (x y : Nat × Nat × Nat) : Nat × Nat × Nat :=
  let (x1, y1, z1) := x
  let (x2, y2, z2) := y
  let a := z1 * z2 % p
  let b := a * a % p
  let c := x1 * x2 % p
  let dd := y1 * y2 % p
  let e := d * c % p * dd % p
  let f := sub b e
  let g := (b + e) % p
  let h := (x1 + y1) * (x2 + y2) % p
  (a * f % p * sub (sub h c) dd % p, a * g % p * sub dd c % p, f * g % p)

/-- A multiple of a point, over the low `n` bits of the factor. -/
def mul (k : Nat) (x : Nat × Nat × Nat) : Nat → Nat × Nat × Nat → Nat × Nat × Nat
  | 0, acc => acc
  | n + 1, acc =>
    let acc := add acc acc
    mul k x n (if k.testBit n then add acc x else acc)

/-- The neutral point. -/
def zero : Nat × Nat × Nat := (0, 1, 1)

/-- Whether two points are equal. -/
def same (x y : Nat × Nat × Nat) : Bool :=
  x.1 * y.2.2 % p == y.1 * x.2.2 % p && x.2.1 * y.2.2 % p == y.2.1 * x.2.2 % p

/-- The point that a 57-byte number encodes. -/
def decodePoint (n : Nat) : Option (Nat × Nat × Nat) :=
  let sign := n / 2 ^ 455 % 2
  let y := n % 2 ^ 455
  if p ≤ y then none
  else
    let u := sub (y * y % p) 1
    let v := sub (d * (y * y % p) % p) 1
    let u3v := u * u % p * u % p * v % p
    let x := u3v * pow (u3v * (u * u % p) % p * (v * v % p) % p) ((p - 3) / 4) 448 1 % p
    if v * (x * x % p) % p != u then none
    else if x = 0 ∧ sign = 1 then none
    else some (if x % 2 = sign then x else p - x, y, 1)

/-- dom4(0, "") of RFC 8032. -/
def dom : List Byte := [0x53, 0x69, 0x67, 0x45, 0x64, 0x34, 0x34, 0x38, 0, 0]

/-- Whether a 114-byte signature of a message verifies under a 57-byte key, the context string empty. -/
def verify (key : Nat) (msg sig : List Byte) : Bool :=
  let s := numOfBytes (sig.drop 57)
  match decodePoint (numOfBytes (sig.take 57)), decodePoint key with
  | some r, some a =>
    let k := numOfBytes (shake256 (dom ++ sig.take 57 ++ bytesOfNum 57 key ++ msg) 114) % l
    decide (s < l) && same (mul (4 * s) base 448 zero) (add (mul 4 r 3 zero) (mul 4 (mul k a 446 zero) 3 zero))
  | _, _ => false

/-- The 57 bytes of a point, as a number. -/
def encodePoint (x : Nat × Nat × Nat) : Nat :=
  let zi := pow x.2.2 (p - 2) 448 1
  x.2.1 * zi % p + 2 ^ 455 * (x.1 * zi % p % 2)

/-- The secret scalar of a 57-byte secret, and the bytes that prefix its messages. -/
def expandSecret (secret : Nat) : Nat × List Byte :=
  let h := shake256 (bytesOfNum 57 secret) 114
  (numOfBytes (h.take 56) % 2 ^ 447 / 4 * 4 + 2 ^ 447, h.drop 57)

/-- The public key of a 57-byte secret. -/
def publicKey (secret : Nat) : Nat := encodePoint (mul (expandSecret secret).1 base 448 zero)

/-- The 114-byte signature of a message by a 57-byte secret, the context string empty. -/
def sign (secret : Nat) (msg : List Byte) : List Byte :=
  let (s, pre) := expandSecret secret
  let r := numOfBytes (shake256 (dom ++ pre ++ msg) 114) % l
  let rb := bytesOfNum 57 (encodePoint (mul r base 446 zero))
  let k := numOfBytes (shake256 (dom ++ rb ++ bytesOfNum 57 (publicKey secret) ++ msg) 114) % l
  rb ++ bytesOfNum 57 ((r + k * s) % l)

end Ed448

end Sys2Proof.Machine
end

