-- ==== Sys2Proof/Machine/Homes.lean ====
section
/-! DEFINITION. The waymark protocol beyond the frontier units' open batches (R186, R187), the home aggregators (R175, R179 to R184), and
milestones. -/

namespace Sys2Proof.Machine

/-! ## Region slots (R315) -/

/-- Whether a unit's allocation of a region slot is announced, but its first batch not yet applied: what was applied of it before is of an
earlier allocation (R315). -/
def restarts (s : State) (image u : Nat) : Bool :=
  ((Tab.get [] (s.home image).received u).any Batch.first) ||
    (u / 64 == s.devId && (findSlot s (u % 64) image).any Slot.announce)

/-- A unit's numbers restart: no other unit of this device takes a batch of its earlier allocation for one of the new (R186, R315; log 10). -/
def forgetUnit (s : State) (image u : Nat) : State :=
  let h := s.home image
  let s := s.setHome image { h with acks := h.acks.map fun (k, v) => (k, v.filter fun (w, _) => w != u) }
  (List.range 16).foldl (fun s cl => match findSlot s cl image with
    | none => s
    | some x => putSlot s cl { x with acked := Tab.set 0 x.acked u 0 }) s

/-- Allocates a slot for each image of a cluster's valid contexts that has none, while slots are free. Its first batch announces it to the
home aggregator, whose acknowledgements of the other units it starts from; those of its own earlier allocation are forgotten. -/
def allocSlots (s : State) (cl : Nat) : State :=
  (clusterImages s cl).foldl (fun s i =>
    let c := s.cluster cl
    if (findSlot s cl i).isSome || 64 ≤ c.slots.length then s
    else
      let h := s.home i
      let s := forgetUnit s i (unitId s cl)
      s.setCluster cl { c with slots := c.slots ++ [{ image := i, batch := none, next := 0, acked := h.applied.filter fun (u, _) => u != unitId s cl && !restarts s i u, unacked := [],
                                                      announce := true }] }) s

/-- A context becomes invalid: its watches are cancelled, its V is 0, and its sheaf set is empty (R243, R284). -/
def invalidateContext (s : State) (e ctx : Nat) : State :=
  let s := cancelWatches s (coreOf e) fun w => w.elem == e && w.ctx == ctx
  let c := s.core (coreOf e)
  let k := e % 4 * 8 + ctx
  let cl := clusterOf (coreOf e)
  let c := c.setCtxWord (e % 4) ctx 0 (setBits (c.ctxWord (e % 4) ctx 0) 63 63 0)
  let s := s.setCore (coreOf e) { c with sheaf := Tab.set Sheaf.init c.sheaf k Sheaf.init, heldCtx := c.heldCtx.filter fun x => x != k }
  freeEmptySlots (s.setCluster cl { s.cluster cl with placed := none }) cl

/-! ## Batches and acknowledgements (R186, R187) -/

/-- BATCH_CLOSE: the open batch of a cluster's region slot closes, 256 clocks after it opened or with 32 pointstamps, once the unit's
unacknowledged batches are below their limit. -/
def execBatchClose (s : State) : Host.Outcome State Fault Refusal :=
  let cl := s.event.unit
  .next (match (s.cluster cl).slots[s.event.index]? with
    | none => s
    | some x => match x.batch with
      | none => s
      | some b => if (b.opened + 256 ≤ s.clock ∨ 32 ≤ stamps b) ∧ x.mayForward then closeBatch s cl x else s)

/-- Whether a location lies inside a loop, or in one nested in it. -/
def insideLoop (s : State) (image loc l : Nat) : Bool := (locLoops s image loc).contains l

/-- Whether a pointstamp stands under an activation (R175). -/
def underAct (s : State) (image : Nat) (a : Act) (loc : Nat) (t : W64) : Bool :=
  insideLoop s image loc a.loop && tsTo t (tsDepth a.pfx) == a.pfx

/-- Adds to the count of a pointstamp; a count of zero is not kept. -/
def addCount (l : List Count) (loc : Nat) (t : W64) (k : Int) : List Count :=
  match l.find? (fun c => c.loc == loc && c.ts == t) with
  | none => if k = 0 then l else l ++ [{ loc := loc, ts := t, n := k }]
  | some c =>
    if c.n + k = 0 then l.filter fun d => !(d.loc == loc && d.ts == t)
    else l.map fun d => if d.loc = loc ∧ d.ts = t then { d with n := d.n + k } else d

/-- Whether the summary of a pointstamp to a location is no later than a time (R178). -/
def reaches (s : State) (image l : Nat) (t : W64) (n : Nat) (time : W64) : Bool :=
  (summary s image l n t).any fun u => !tsEarlier time u

/-- Whether a gated token's +1 is that of a token admitted under an activation: an ingress to its loop with its prefix (R175). -/
def admittedUnder (s : State) (a : Act) (m : Mark) : Bool :=
  m.gate && a.loop == bits (locEntry s m.loc) 40 34 && a.pfx == tsTo m.ts (tsDepth m.ts - 1)

/-- Applies one mark of a unit's batch (R180, R184). -/
def applyMark (s : State) (image u seq : Nat) (h : Home) (m : Mark) : Home :=
  if m.isReq then
    (if h.pending.any (fun p => p.loc == m.loc && p.s == m.ts) then h
     else { h with pending := h.pending ++ [{ loc := m.loc, s := m.ts, bcl := u, bseq := seq, taint := false, delivered := false }] })
  else if m.plus then
    { h with counts := addCount h.counts m.loc m.ts 1,
             acts := h.acts.map (fun a => if admittedUnder s a m then { a with applied := true } else a) }
  else
    let h := if m.taint then { h with pending := h.pending.map (fun p =>
        if !p.delivered && reaches s image m.loc m.ts p.loc p.s then { p with taint := true } else p) } else h
    match h.pending.find? (fun p => p.loc == m.loc && p.s == m.ts && p.delivered) with
    | some p => { h with pending := h.pending.erase p }
    | none => { h with counts := addCount h.counts m.loc m.ts (-1) }

/-- Closes the activations under which nothing is outstanding (R175). -/
def closeActs (s : State) (image : Nat) (h : Home) : Home :=
  { h with acts := h.acts.filter (fun a => !a.applied || h.counts.any (fun c => underAct s image a c.loc c.ts) ||
      h.pending.any (fun p => underAct s image a p.loc p.s)) }

/-- The waymarks that a home aggregator holds for a region (R189). -/
def Home.waymarks (h : Home) : Nat := h.counts.length + h.pending.length

/-- A mark of another device's batch, as an event brings it: time, location with flags, and the tag. -/
def outsideMarkOf (ev : Event) : Mark :=
  { loc := bits ev.w1 30 0, ts := ev.w0, plus := bitOf ev.w1 32, isReq := bitOf ev.w1 33, taint := bitOf ev.w1 34,
    tag := if bitOf ev.w1 35 then some (bits ev.w2 63 16, bits ev.w2 15 0) else none, gate := bitOf ev.w1 36 }

/-- BATCH_APPLY: the home aggregator applies the oldest batch of a unit whole, in sequence order; the first of an allocation restarts its
numbers (R315). A batch whose increments find no room waits (R189). From other devices, kind 1: a mark of a unit's batch, with a flag one of a
first batch; kind 2: that batch is whole; kind 3: a unit announces an allocation; kind 4: the term of window `addr` at the floor `size`, or,
with a flag, unbound (R170, R448). -/
def execBatchApply (s : State) : Host.Outcome State Fault Refusal :=
  let image := s.event.unit
  let u := s.event.index
  let h := s.home image
  let near := 2 ^ 24 + u
  .next (if s.event.kind = 1 then
      let b : Batch := (Tab.get [] h.received near).headD { seq := s.event.size % 65536, opened := s.clock, marks := [], first := s.event.flag }
      s.setHome image { h with received := Tab.set [] h.received near [{ b with marks := b.marks ++ [outsideMarkOf s.event] }] }
    else if s.event.kind = 2 then
      s.setHome image { h with
        received := Tab.set [] (Tab.set [] h.received u (Tab.get [] h.received u ++ Tab.get [] h.received near)) near [],
        fresh := (h.fresh ++ [u]).eraseDups }
    else if s.event.kind = 3 then
      if !(Tab.get [] h.received u).isEmpty then s else forgetUnit (s.setHome image { h with applied := Tab.set 0 h.applied u 0 }) image u
    else if s.event.kind = 4 then
      s.setHome image { h with terms := Tab.set 0 h.terms s.event.addr (if s.event.flag then 0 else s.event.size % 2 ^ 25 + 1) }
    else match Tab.get [] h.received u with
      | [] => s
      | b :: rest =>
        if !b.first && b.seq != Tab.get 0 h.applied u % 65536 then s
        else
          let new := b.marks.foldl (applyMark s image u b.seq)
            { h with received := Tab.set [] h.received u rest, applied := Tab.set 0 h.applied u (b.seq + 1) }
          if homeCapacity s image < new.waymarks && decide (h.waymarks < new.waymarks) then s else s.setHome image (closeActs s image new))

/-- ACK_BROADCAST: the acknowledgement vector of the units that forwarded a batch since the last one goes to every unit of the region, on
every device; a unit whose batches are not all applied stands in the next one too. -/
def execAckBroadcast (s : State) : Host.Outcome State Fault Refusal :=
  let image := s.event.unit
  let h := s.home image
  let vec := (h.fresh.filter fun u => Tab.get 0 h.applied u != 0 && !restarts s image u).map fun u => (u, Tab.get 0 h.applied u - 1)
  let outs := if spansDevices s image then vec.map fun (u, q) => Sent.batch image u { seq := q, opened := u, marks := [] } else []
  let units := (List.range 16).filter fun cl => (findSlot s cl image).isSome
  .next { s.setHome image { h with fresh := h.fresh.filter fun u => !(Tab.get [] h.received u).isEmpty, acks := h.acks ++ units.map fun cl => (cl, vec) } with out := outs ++ s.out }

/-- A frontier unit takes an acknowledgement (R186). -/
def takeAck (s : State) (cl : Nat) (x : Slot) (vec : List (Nat × Nat)) : Slot :=
  vec.foldl (fun x (u, q) =>
    { x with acked := Tab.set 0 x.acked u (q + 1),
             unacked := if u = unitId s cl then x.unacked.filter fun n => !seqLe n q else x.unacked }) x

/-- ACK_RECEIVE: a cluster's frontier unit takes the oldest acknowledgement vector for a region; with a flag, one that another device's
aggregator sent. -/
def execAckReceive (s : State) : Host.Outcome State Fault Refusal :=
  let cl := s.event.unit
  let image := s.event.index
  .next (match findSlot s cl image with
    | none => s
    | some x =>
      if s.event.flag then putSlot s cl (takeAck s cl x [(s.event.addr, s.event.size % 65536)])
      else
        let h := s.home image
        match h.acks.find? fun (c, _) => c == cl with
        | none => s
        | some a => putSlot (s.setHome image { h with acks := h.acks.erase a }) cl (takeAck s cl x a.2))

/-! ## Milestones (R179 to R184) -/

/-- The ingress terms of a region, as floors: of the windows of this device that are bound to it, and of other devices' (R170; log 9). -/
def boundFloors (s : State) (image : Nat) : List Nat :=
  ((List.range 64).filterMap fun i =>
    let w := Tab.get 0 s.pkg.fabric (0x440 + i)
    if bitOf w 63 && bits w 52 37 == image then some (bits w 24 0) else none) ++ (s.home image).terms.map fun (_, f) => f - 1

/-- The earliest time at a depth that an ingress term lets through. -/
def floorTime (d f : Nat) : W64 := tsSet (word (d * 2 ^ 62)) 0 f

/-- Whether the milestone of a pending request may be delivered (R181). -/
def deliverable (s : State) (image : Nat) (p : Pending) : Bool :=
  let h := s.home image
  !p.delivered && !h.hold && !h.lost &&
    (h.counts.all fun c => decide (c.n ≤ 0) || !reaches s image c.loc c.ts p.loc p.s) &&
    (h.pending.all fun q => q == p || !reaches s image q.loc q.s p.loc p.s) &&
    (h.pending.all fun q => q.loc != p.loc || q.delivered || !tsEarlier q.s p.s) &&
    (boundFloors s image).all fun f => tsEarlier p.s (floorTime (tsDepth p.s) f)

/-- The milestone token of a request (R181). -/
def milestoneToken (image : Nat) (p : Pending) : Token :=
  { ts := p.s, h1 := word (p.loc * 2 ^ 33 + 3 * 2 ^ 31 + ofBool p.taint * 2 ^ 21), h2 := word (p.bcl * 2 ^ 46 + p.bseq * 2 ^ 30),
    payload := 0, region := image }

/-- MILESTONE_DELIVERY: a milestone leaves for its location; no count changes. -/
def execMilestoneDelivery (s : State) : Host.Outcome State Fault Refusal :=
  let image := s.event.unit
  let h := s.home image
  .next (match h.pending[s.event.index]? with
    | none => s
    | some p =>
      if deliverable s image p then
        let s := s.setHome image { h with pending := h.pending.map fun q => if q = p then { q with delivered := true } else q }
        launch s (milestoneToken image p) none 2
      else s)

/-- Whether a region is quiescent: its home aggregator holds no nonzero waymark and no pending request; a home on another device is asked (R171;
log 9). -/
def quiescent (s : State) (image : Nat) : Bool :=
  if homedAway s image then bitOf (Config.openWord s.stepNo) 1
  else ((s.home image).counts.all fun c => c.n == 0) && (s.home image).pending.isEmpty

end Sys2Proof.Machine
end

