-- ==== Sys2Proof/Machine/Ingress.lean ====
section
/-! DEFINITION. What hosts do: ingress windows (R61, R170, R317, R431 to R433), host egress queues (R434), and attestation requests
(R414, R436). -/

namespace Sys2Proof.Machine

/-! ## Windows (R431 to R433) -/

/-- INGB of an ingress window. -/
def ingb (s : State) (i : Nat) : W64 := Tab.get 0 s.pkg.fabric (0x440 + i)
/-- Writes a word of the fabric's range of D0's die space. -/
def setFabric (s : State) (off : Nat) (v : W64) : State :=
  { s with pkg := { s.pkg with fabric := Tab.set 0 s.pkg.fabric off v } }
/-- An ingress window. -/
def windowOf (s : State) (i : Nat) : Window := Tab.get Window.init s.pkg.windows i
/-- Replaces an ingress window. -/
def setWindow (s : State) (i : Nat) (w : Window) : State :=
  { s with pkg := { s.pkg with windows := Tab.set Window.init s.pkg.windows i w } }
/-- The cluster, 0 to 15, that an INGB word names. -/
def ingbCluster (w : W64) : Nat := bits w 62 61 * 4 + bits w 60 59

/-- One more dropped packet or discarded write of a window, saturating (R433). -/
def countDrop (s : State) (i : Nat) : State :=
  let w := windowOf s i
  setWindow s i { w with dropped := min (w.dropped + 1) 0xFFFFFFFF }

/-- The window status (R433). -/
def windowStatus (s : State) (i : Nat) : W64 := word ((windowOf s i).packets.length * 2 ^ 32 + (windowOf s i).dropped)

/-- The STATE of the waiting-table entry that an INGB word names, where that entry holds its image; a region that is being evicted or
reloaded holds its packets as an EVICTED one (R317, R323, R324). -/
def registered (s : State) (w : W64) : Option Nat :=
  let a := Tab.get 0 (s.cluster (ingbCluster w)).wta (bits w 58 53)
  if bitOf a 63 && bits a 47 32 == bits w 52 37 then
    some (if frozenRegion s (ingbCluster w) (bits w 52 37) && bits a 62 61 = 2 then 3 else bits a 62 61)
  else none

/-- A packet of a window is dropped whole, counted, and reported with INGDROP: to the steward of the bound cluster, or to the reeve
for an unbound window (R432). -/
def dropPacket (s : State) (i reason : Nat) : State :=
  let s := countDrop s i
  let w := ingb s i
  let die := if bitOf w 63 then bits w 62 61 else 0
  let cl := if bitOf w 63 then bits w 60 59 else 0
  let r : TrapRec := { w0 := recWord0 Cause.ingdrop 0 0 false true 0 s.devId die cl 0 0 0 0 0, w1 := 0, w2 := 0, w3 := word reason }
  if bitOf w 63 then queueAsync s (die * 4 + cl) r else queueReeve s r

/-- The home of a window's region, where it is on another device, is told the window's term (R170; log 9). -/
def tellTerm (s : State) (i : Nat) : State :=
  let w := ingb s i
  if homedAway s (bits w 52 37) then { s with out := .term (bits w 52 37) i (if bitOf w 63 then some (bits w 24 0) else none) :: s.out } else s

/-- The packets ahead of each pending floor are one fewer; floors with none ahead are applied (R433). -/
def advanceFloors (s : State) (i gone : Nat) : State :=
  let w := windowOf s i
  let fs := w.floors.map fun (n, f) => (n - gone, f)
  let due := fs.filter fun (n, _) => n == 0
  let s := setWindow s i { w with floors := fs.filter fun (n, _) => n != 0 }
  due.foldl (fun s (_, f) => tellTerm (setFabric s (0x440 + i) (setBits (ingb s i) 24 0 (max (bits (ingb s i) 24 0) f))) i) s

/-- The lowest floor that a packet must reach: FLOOR, or a floor that its host has already written (R433). -/
def floorOf (s : State) (i : Nat) : Nat := ((windowOf s i).floors.map Prod.snd).foldl max (bits (ingb s i) 24 0)

/-- Whether a header breaks the layout of R61. -/
def headerBad (s : State) (w0 w1 w2 w3 : W64) : Bool :=
  w2 != 0 || w3 != 0 || bitOf w1 22 || bitOf w1 21 || !(bits w1 63 52 == s.devId || bits w1 63 52 == 0xFFF) ||
    decide (1 < bits w1 14 12) || bits w1 11 0 != 0 || !tsWf w0

/-- The token of a packet: the sender writes this device's id, and word 2 is filled when it is counted (R60, R61). -/
def packetToken (s : State) (image : Nat) (p : Packet) : Token :=
  let t : Token := { ts := p.w0, h1 := setBits p.w1 63 52 s.devId, h2 := 0,
                     payload := if bits p.w1 14 12 = 1 then p.payload else BitVec.ofNat 2048 (low 64 p.payload.toNat), region := 0 }
  let loc := tokLoc t
  let e := locCore loc * 4 + locEl loc
  { t with region := if ctxValid s e (locCtx loc) then ctxImage s e (locCtx loc) else image }

/-- The reason for which a port drops a packet that is written to a window (R432). Its location's depth is that of the entry word which
stands there as the packet arrives (R170; log 121). -/
def dropReason (s : State) (i off dev len : Nat) (w0 w1 w2 w3 : W64) : Option Nat :=
  let w := ingb s i
  let need := if bits w1 14 12 = 1 then 288 else 40
  let t := packetToken s (bits w 52 37) { w0 := w0, w1 := w1, payload := 0 }
  if !bitOf w 63 || (registered s w).isNone then some 5
  else if off % 32 != 0 || headerBad s w0 w1 w2 w3 then some 1
  else if len != need || decide (0xFF00 < off + need) then some 2
  else if tsDepth w0 != 0 || decide (tsCoord w0 0 < floorOf s i) || !(locLoops s t.region (tokLoc t)).isEmpty then some 3
  else if dev != bits w 36 25 then some 4
  else none

/-- INGRESS_PACKET: device `addr` writes `size` bytes at offset `index` of a window's packet area. A full port refuses the write at the
link, and the host waits. A packet for an image that is not RESIDENT is held and counted in WAITN (R317). -/
def execIngressPacket (s : State) : Host.Outcome State Fault Refusal :=
  let ev := s.event
  let i := ev.unit % 64
  let win := windowOf s i
  .next (if 0xFF00 ≤ ev.index ∨ 32 ≤ win.packets.length then s
    else match dropReason s i ev.index ev.addr ev.size ev.w0 ev.w1 ev.w2 ev.w3 with
      | some r => dropPacket s i r
      | none =>
        let w := ingb s i
        let s := setWindow s i { win with packets := win.packets ++ [{ w0 := ev.w0, w1 := ev.w1, payload := ev.payload }] }
        if registered s w = some 2 then s
        else
          let c := s.cluster (ingbCluster w)
          let a := Tab.get 0 c.wta (bits w 58 53)
          s.setCluster (ingbCluster w)
            { c with wta := Tab.set 0 c.wta (bits w 58 53) (setBits a 19 0 (min (bits a 19 0 + 1) 0xFFFFF)) })

/-- INGRESS_DELIVERY: the oldest packet of a window is delivered once its image is RESIDENT, its +1 recorded first; where a die reset has taken the
image's registration, it is dropped for reason 5 (R317, R432; log 144). -/
def execIngressDelivery (s : State) : Host.Outcome State Fault Refusal :=
  let i := s.event.unit % 64
  let win := windowOf s i
  let w := ingb s i
  .next (match win.packets with
    | [] => s
    | p :: rest =>
      let gone := fun (s : State) => advanceFloors (setWindow s i { windowOf s i with packets := rest }) i 1
      if !bitOf w 63 || (registered s w).isNone then dropPacket (gone s) i 5
      else if registered s w != some 2 then s
      else
        let t := packetToken s (bits w 52 37) p
        let cl := clusterOf (locCore (tokLoc t))
        if !unitRoom s cl [tokStamp t] then s
        else
          let (s, t) := countToken s cl (tokLoc t) t
          launch (gone s) t (some (2 ^ 21 + 4 * i, 0)) (if tokWide t then 1 else 2))

/-- ROUND_REGISTER_WRITE: a write of `size` bytes at offset `addr` of a window by device `index`: the round register takes an aligned
write of 8 bytes by the window's device; every other one is discarded and counted (R431, R433). -/
def execRoundRegisterWrite (s : State) : Host.Outcome State Fault Refusal :=
  let ev := s.event
  let i := ev.unit % 64
  let win := windowOf s i
  .next (if ev.addr != 0xFF00 || ev.size != 8 || !bitOf (ingb s i) 63 || ev.index != bits (ingb s i) 36 25 then countDrop s i
    else advanceFloors (setWindow s i { win with floors := win.floors ++ [(win.packets.length, bits ev.w0 24 0)] }) i 0)

/-- DISCARDED_HOST_WRITE: an access of a host to the address `index` of the device's Utern space that no other event takes: a write is
discarded and counted; a read, with a flag, gets the window status or an error (R431). -/
def execDiscardedHostWrite (s : State) : Host.Outcome State Fault Refusal :=
  let a := s.event.index
  .next (if s.event.flag then
      let v := if a < 0x400000 ∧ a % 65536 = 0xFF08 then some (windowStatus s (a / 65536)) else none
      { s with out := .hostRead v :: s.out }
    else if 0x400000 ≤ a then countDrop s 0
    else if a % 65536 < 0xFF00 then s
    else countDrop s (a / 65536))

/-- The packets that a window holds are dropped, oldest first (R317). -/
def dropWindow (s : State) (i : Nat) : State :=
  (windowOf s i).packets.foldl (fun s _ =>
    dropPacket (advanceFloors (setWindow s i { windowOf s i with packets := (windowOf s i).packets.drop 1 }) i 1) i 5) s

/-- The windows of a cluster drop what they hold for images that are registered no longer (R317). -/
def dropUnregistered (s : State) (cl : Nat) : State :=
  (List.range 64).foldl (fun s i =>
    if bitOf (ingb s i) 63 && ingbCluster (ingb s i) == cl && (registered s (ingb s i)).isNone then dropWindow s i else s) s

/-- A write of INGB by the reeve (R171, R317, R433): a FLOOR lowered while the image's region is not quiescent is refused with CFGSTATE; the image
is the old word's and the old word is bound, the model's choice (log 135).
Unbinding, binding and rebinding show in the ingress terms of the region, which are read from these words. What the window holds is dropped as it is
unbound, be it to be bound to another image, and where the image is not registered (log 144). -/
def writeIngb (s : State) (i : Nat) (v : W64) : Except Nat State :=
  let w := ingb s i
  if bitOf w 63 && decide (bits v 24 0 < bits w 24 0) && !quiescent s (bits w 52 37) then .error Cause.cfgstate
  else
    let unbound := tellTerm (setFabric s (0x440 + i) (setBits w 63 63 0)) i
    let s := if bits v 52 37 != bits w 52 37 then dropWindow unbound i else s
    let s := tellTerm (setFabric s (0x440 + i) v) i
    .ok (if !bitOf v 63 || (registered s v).isNone then dropWindow s i else s)

/-! ## Host egress (R434) -/

/-- The tokens of a host egress queue. -/
def egressOf (s : State) (q : Nat) : List Token := Tab.get [] s.pkg.egress q
/-- Replaces a host egress queue. -/
def setEgress (s : State) (q : Nat) (l : List Token) : State := { s with pkg := { s.pkg with egress := Tab.set [] s.pkg.egress q l } }
/-- EGQ of a queue. -/
def egq (s : State) (q : Nat) : W64 := Tab.get 0 s.pkg.fabric (0x480 + q)

/-- Whether queue 63, the reeve's, is bound and has room for `n` tokens. -/
def reeveQueueRoom (s : State) (n : Nat) : Bool := bitOf (egq s 63) 63 && decide ((egressOf s 63).length + n ≤ 64)

/-- The reeve's waiting reports go to queue 63 as far as it is bound and has room (R435). -/
def sendReports (s : State) : State :=
  let room := if bitOf (egq s 63) 63 then 64 - (egressOf s 63).length else 0
  let s' := setEgress s 63 (egressOf s 63 ++ s.pkg.reports.take room)
  { s' with pkg := { s'.pkg with reports := s.pkg.reports.drop room } }

/-- The reeve reports by a token (R435). -/
def addReport (s : State) (t : Token) : State := sendReports { s with pkg := { s.pkg with reports := s.pkg.reports ++ [t] } }

/-- HOST_EGRESS: the oldest token of a bound queue is written to the host. Reports that wait for queue 63 then find room there. -/
def execHostEgress (s : State) : Host.Outcome State Fault Refusal :=
  let q := s.event.unit % 64
  let w := egq s q
  let s := if q = 63 then sendReports s else s
  .next (match egressOf s q with
    | [] => s
    | t :: rest =>
      if bitOf w 63 then { setEgress s q rest with out := .hostWrite q t (bits w 62 51) (bits w 47 8 * 256) :: s.out } else s)

/-- A token of the reeve on queue 63: timestamp 0, a SEQ and a payload (R435, R436). Its other header fields are 0 (log 117). -/
def reeveToken (seq : Nat) (wide : Bool) (payload : Vec) : Token :=
  { ts := 0, h1 := word (seq * 2 ^ 15 + ofBool wide * 2 ^ 12), h2 := 0, payload := payload, region := 0 }

/-- The token with which the reeve reports a lost region (R435). -/
def reglostToken (image : Nat) : Token := reeveToken 0 false (BitVec.ofNat 2048 (0x0066 + image * 65536))
/-- The token with which the reeve reports an image that a loader refused, and the reason (R435, R480). -/
def imgrefToken (image reason : Nat) : Token :=
  reeveToken 0 false (BitVec.ofNat 2048 (0x0067 + image % 65536 * 65536 + reason % 256 * 2 ^ 32))

/-! ## Attestation (R414, R436) -/

/-- The fuse maps of the clusters, XORed together (R414). -/
def fuseXor (s : State) : Nat := s.fused.foldl (fun a m => a ^^^ (m.toNat % 2 ^ 64) ^^^ (m.toNat / 2 ^ 64)) 0

/-- The digest of key slots 1 to 7, in slot order; an empty slot counts as 57 zero bytes (R414; log 20). -/
def keyDigest (s : State) : List Byte :=
  shake256 (((s.die 0).keys.drop 1).flatMap fun k => bytesOfNum 57 (k.getD 0)) 64

/-- The signed part of an attestation report for a nonce (R414). -/
def reportBody (s : State) (nonce : BitVec 256) : List Byte :=
  bytesOfNum 32 nonce.toNat ++ bytesOfNum 8 (s.devId % 2 ^ 16) ++ bytesOfNum 64 s.pkg.measured.reeveImage.toNat ++
    bytesOfNum 64 s.pkg.measured.stewardFirmware.toNat ++ keyDigest s ++ bytesOfNum 8 s.pkg.starts ++ bytesOfNum 8 (fuseXor s) ++
    List.replicate 150 0

/-- An attestation report: its body, and the identity key's signature of the body's digest (R414). -/
def report (s : State) (nonce : BitVec 256) : List Byte :=
  let body := reportBody s nonce
  body ++ Ed448.sign s.pkg.measured.identity.toNat (shake256 body 64)

/-- Half of a report as a payload. -/
def reportHalf (s : State) (nonce : BitVec 256) (half : Nat) : Vec :=
  BitVec.ofNat 2048 (numOfBytes (((report s nonce).drop (256 * half)).take 256))

/-- ATTESTATION_REQUEST: a host writes its nonce, discarded while four are pending. Kind 1: the reeve answers the oldest one. -/
def execAttestationRequest (s : State) : Host.Outcome State Fault Refusal :=
  .next (if s.event.kind = 1 then match s.pkg.attest with
      | [] => s
      | n :: rest =>
        if reeveQueueRoom s 2 then
          let s := { s with pkg := { s.pkg with attest := rest } }
          setEgress s 63 (egressOf s 63 ++ [reeveToken 0 true (reportHalf s n 0), reeveToken 1 true (reportHalf s n 1)])
        else s
    else if s.pkg.attest.length < 4 then
      { s with pkg := { s.pkg with attest := s.pkg.attest ++ [BitVec.ofNat 256 s.event.payload.toNat] } }
    else s)

end Sys2Proof.Machine
end

