-- ==== Sys2Proof/Machine/Migrations.lean ====
section
/-! DEFINITION. Redirects, migrations, signposts, relays and reclamation (R458 to R462), and MIGR, OWNQ, OWNINV and SGNRCL (R463 to R465). -/

namespace Sys2Proof.Machine

/-! ## Redirects (R461) -/

/-- The refused access of a CONSULT goes back to its place in its port, a lane or block of a larger access is looked up again, or a steward-mode core runs
its instruction again. -/
def reissue (s : State) (k : Nat) : State := match s.pkg.outstanding[k]? with
  | none => s
  | some r =>
    let s := { s with pkg := { s.pkg with outstanding := s.pkg.outstanding.eraseIdx k } }
    let part := match r.parent with
      | some .request => true
      | some (.engine _) | some (.coll _ _) | none => false
    if r.parent.isSome && !part then s
    else if part then
      let c := s.core (coreOf r.elem)
      let p := c.port r.port
      s.setCore (coreOf r.elem) (c.setPort r.port { p with reqs := p.reqs.map fun q =>
        if q.ord = r.ord then { q with stage := .walking, pas := setAt q.pas r.part unmapped } else q })
    else if stewMark ≤ r.elem then s.setStew (r.elem - stewMark) { s.stew (r.elem - stewMark) with waiting := none }
    else
      let c := s.core (coreOf r.elem)
      let p := c.port r.port
      let back := { r with stage := .walking, pas := [unmapped], dev := s.devId }
      let first := p.reqs.takeWhile fun q => decide (q.ord < r.ord)
      s.setCore (coreOf r.elem) (c.setPort r.port { p with reqs := first ++ back :: p.reqs.drop first.length })

/-- The owner-cache entry of a refused access is a fresh one that is CLOSED and awaits the home's answer (R461). -/
def consultEntry (s : State) (d ten page : Nat) : State :=
  let s := match ownerEntry s d ten page with
    | some _ => mapOwner s d ten page fun o => { closeEntry s d o with awaits := true }
    | none => (enterOwner s d { ten := ten, page := page, owner := s.devId, gen := 0, closed := true, awaits := true }).getD s
  startLookup s d ten page

/-- REDIRECT: a die takes a redirect with a younger generation, or a CONSULT of its access that `op` names (R461). -/
def execRedirect (s : State) : Host.Outcome State Fault Refusal :=
  let d := s.event.unit
  let page := s.event.index
  .next (if s.event.flag then
      match s.pkg.outstanding[s.event.op]? with
      | none => s
      | some r =>
        if r.space != 3 || pageOfVa r.ea != page || (accessOf s r).1 != d then s
        else reissue (consultEntry s d (accessOf s r).2 page) s.event.op
    else takeRedirect s d page s.event.addr s.event.size)

/-- A CLOSED entry once the die's accesses to its page are answered: it lets the requests through that had hit it before, and is open with
none of them left (R461; log 131). -/
def reopenEntry (s : State) (d : Nat) (o : OwnerEntry) : OwnerEntry :=
  let left := earlyLeft s d o
  if left.isEmpty then { o with closed := false, ajar := false, early := [], reopened := s.fresh } else { o with ajar := true, early := left }

/-- OWNER_CACHE_REOPEN: a CLOSED entry reopens once the die's earlier accesses to the page are answered; those that waited leave in their
order (R461). -/
def execOwnerCacheReopen (s : State) : Host.Outcome State Fault Refusal :=
  let d := s.event.unit
  let page := s.event.index
  let x := s.die d
  .next (if (awaited s d page).isEmpty then
      s.setDie d { x with owner := x.owner.map fun o => if o.page = page ∧ o.closed ∧ !o.awaits then reopenEntry s d o else o }
    else s)

/-! ## Migrations (R458, R459) -/

/-- Drops the signpost of a page. -/
def dropSignpost (s : State) (page : Nat) : State :=
  { s with pkg := { s.pkg with signposts := s.pkg.signposts.filter fun x => x.page != page } }
/-- The migration of a page out of this device. -/
def migrationOf (s : State) (page : Nat) : Option Migration := s.pkg.migrations.find? fun m => m.page == page
/-- Changes the migration of a page. -/
def mapMigration (s : State) (page : Nat) (f : Migration → Migration) : State :=
  { s with pkg := { s.pkg with migrations := s.pkg.migrations.map fun m => if m.page = page then f m else m } }

/-- Starts a migration of a page that this device owns: the signpost entry, which keeps what an earlier one still queues, and the writable leaf
under the tenant, walked on D0 (log 17). Answers 0, or the RESULT that refuses it; none while the walk waits. -/
def startMove (s : State) (page target ten : Nat) : Option (State × Nat) :=
  if 65536 ≤ (dropSignpost s page).pkg.signposts.length then some (s, 3)
  else match translate s 0 ten (page * 2 ^ 16) .write with
    | (_, .wait) => none
    | (s, .fail _) => some (s, 5)
    | (s, .at a) =>
      let sp : Signpost := { page := page, owner := s.devId, gen := 0, queue := ((signpostOf s page).map Signpost.queue).getD [] }
      let m : Migration := { page := page, pa := a, target := target, ten := ten, phase := .copying, passes := 0,
                             dirty := List.range 4096 }
      some ({ dropSignpost s page with pkg := { (dropSignpost s page).pkg with
          signposts := (dropSignpost s page).pkg.signposts ++ [sp], migrations := s.pkg.migrations ++ [m] } }, 0)

/-- Sends the dirty sectors of a moving page to its target, which translates them under the migration's tenant: `port` names it, as in a request that arrives
(R458). -/
def copyDirty (s : State) (m : Migration) : State :=
  m.dirty.foldl (fun s i =>
    let r := { stewReq 20 .rst with space := 3, ea := m.page * 2 ^ 16 + 16 * i, size := 16, dev := m.target, port := m.ten,
                                     data := BitVec.ofNat 2048 (s.readNum (m.pa + 16 * i) 16) }
    { s with out := .request ((devicePort s m.target).getD 0) m.target r :: s.out }) s

/-- Whether a request of this device is a whole request of a firing's port, or a lane or granule of one. -/
def Req.ofPort (r : Req) : Bool := decide (r.elem < stewMark) && (r.parent.isNone || r.parent == some .request)

/-- A line operation on a page held here (R242); none while it must wait. -/
def lineHere (s : State) (d ten : Nat) (r : Req) : Option (State × Except Why Vec) :=
  match translate s d ten r.ea r.kind.need with
  | (_, .wait) => none
  | (s, .fail w) => some (s, if r.kind = .pref then .ok 0 else .error w)
  | (s, .at a) =>
    if r.kind = .pref ∨ !inHbm a 128 then some (s, .ok 0)
    else if cleanHolds s (a / 128) (some d) then none
    else some (if r.kind = .clean then cleanLine s (a / 128) else invalLine s (a / 128), .ok 0)

/-- An access of this device in a page's relay queue is performed here: its value or its failure; none while it must wait. -/
def ownHere (s : State) (r : Req) : Option (State × Except Why Vec) :=
  let (d, ten) := accessOf s r
  let who := if !r.ofPort then (if stewMark ≤ r.elem then Issuer.stew (r.elem - stewMark) else .engine)
    else .firing (coreOf r.elem) (ctxImage s r.elem r.ctx)
  if r.kind = .pref ∨ r.kind = .clean ∨ r.kind = .inval then lineHere s d ten r
  else match remoteAt s who d ten r with
    | (s, .error w) => some (s, .error w)
    | (s, .ok (some v)) => some (s, .ok (BitVec.ofNat 2048 v))
    | (_, .ok none) => none

/-- A WATCH that leaves a page's relay queue is performed at its memory node, on the granule at an address; while the table is full it waits in
its port again (R207, R458). -/
def watchQueued (s : State) (r : Req) (a : Nat) : State :=
  let k := s.pkg.outstanding.findIdx fun q => q == r
  let core := coreOf r.elem
  if r.cmp != 0 && decide (16 ≤ (s.core core).watches.length) then reissue s k
  else match performWatch { s with pkg := { s.pkg with outstanding := s.pkg.outstanding.eraseIdx k } } core r a with
    | (s, .done v taint) => completeReq s r v taint
    | (s, .fail w) => failReq s r w
    | (s, .taken) | (s, .stay) => s

/-- Performs here the oldest access that a page's relay queue holds; none while it must wait. Another device's is counted (R456); a port's own that
meets a page fault goes back to its port, which is HELD (R212, R459). -/
def performHead (s : State) (page : Nat) (r : Req) : Option State :=
  if outsideMark ≤ r.elem then match remoteAt s .engine r.home r.port r with
    | (s, .error w) => some (countRemote (failReq s r w) page r.dev r.port)
    | (s, .ok (some v)) => some (countRemote (completeReq s r (BitVec.ofNat 2048 v)) page r.dev r.port)
    | (_, .ok none) => none
  else
    let core := coreOf r.elem
    let k := s.pkg.outstanding.findIdx fun q => q == r
    if r.kind = .watch then match translate s (accessOf s r).1 (accessOf s r).2 r.ea .read with
      | (_, .wait) => none
      | (s, .at a) => some (watchQueued s r a)
      | (s, .fail w) => some (failHere s core k r w)
    else (ownHere s r).map fun (s, x) => match x with
      | .error w => failHere s core k r w
      | .ok v => answered { s with pkg := { s.pkg with outstanding := s.pkg.outstanding.eraseIdx k } } r (.ok v) 0 0

where
  /-- The outstanding access `k` fails here. -/
  failHere (s : State) (core k : Nat) (r : Req) (w : Why) : State :=
    if w.1 = Cause.pageflt && r.ofPort && r.kind != .pref then
      let s := reissue s k
      match ((s.core core).port r.port).reqs.find? fun q => q.ord == r.ord with
      | some q => holdPort s core r.port q w
      | none => s
    else answered { s with pkg := { s.pkg with outstanding := s.pkg.outstanding.eraseIdx k } } r (.error w) 0 0

/-- Performs here, in order, the accesses queued while a migration that aborts was frozen, as far as they need not wait; with none left, the
signpost goes. -/
def performQueued (page : Nat) : Nat → State → State
  | 0, s => s
  | n + 1, s => match signpostOf s page with
    | none => s
    | some sp => match sp.queue with
      | [] => dropSignpost s page
      | r :: rest => match performHead s page r with
        | none => s
        | some s => performQueued page n (mapSignpost s page fun x => { x with queue := rest })

/-- Whether a migration may abort for a RESULT: 4 the target is dead, 7 an uncorrectable error here, in memory or in a cache, 5 a failed
translation (R459). -/
def abortHolds (s : State) (m : Migration) (reason : Nat) : Bool :=
  (reason == 4 && isDead s m.target) || (reason == 7 && (hasHardError s m.pa 65536 || cacheErrors s m.pa 65536)) || reason == 5

/-- The home returns a page to OWNED after a migration that ended with a RESULT. -/
def homeAbort (s : State) (page result : Nat) : State :=
  let p := pageEntry s page
  reeveDone (setPage s page { p with state := .owned }) 1 page (moveResult p.owner result)

/-- A migration aborts with a RESULT: the old owner keeps the page and performs its queue (R459). -/
def abortMove (s : State) (page reason : Nat) : State :=
  let s := { s with pkg := { s.pkg with migrations := s.pkg.migrations.filter fun x => x.page != page } }
  let s := performQueued page 257 s
  if homesPage s page then homeAbort s page reason else sendMessage s 7 (homeDevice s page) page s.devId reason

/-- The RESULT with which a migration must abort before it goes on: its target is dead, or an uncorrectable error stands here (R459). -/
def mustAbort (s : State) (m : Migration) : Option Nat := [4, 7].find? (abortHolds s m)

/-- MIGRATION_COPY_PASS: a pass over the dirty sectors, the first over all; with a flag, another home starts the migration of a page
owned here to `index` under the tenant `addr`. -/
def execMigrationCopyPass (s : State) : Host.Outcome State Fault Refusal :=
  let page := s.event.unit
  .next (if s.event.flag then
      if ownsPage s page && !homesPage s page && (migrationOf s page).isNone then
        match startMove s page (s.event.index % 4096) (s.event.addr % 256) with
        | none => s
        | some (s', k) => if k = 0 then s' else sendMessage s' 7 (homeDevice s page) page s.devId k
      else s
    else match migrationOf s page with
      | none => s
      | some m =>
        if let some k := mustAbort s m then abortMove s page k
        else if m.phase != .copying || (m.dirty.length ≤ 256 || 9 ≤ m.passes) then s
        else mapMigration (copyDirty s m) page fun m => { m with passes := m.passes + 1, dirty := [] })

/-- MIGRATION_FREEZE: at most 256 dirty sectors remain, or eight passes over them have run; what an earlier freeze has queued is performed
first. -/
def execMigrationFreeze (s : State) : Host.Outcome State Fault Refusal :=
  let page := s.event.unit
  .next (match migrationOf s page with
    | none => s
    | some m =>
      if m.phase = .copying && ((signpostOf s page).all fun x => x.queue.isEmpty) && (m.dirty.length ≤ 256 || 9 ≤ m.passes) then mapMigration s page fun m => { m with phase := .frozen } else s)

/-- Whether an access to a page that was admitted here has not been performed: its turn has come in its port (R208, R458; log 131). -/
def admitted (s : State) (m : Migration) : Bool := s.cores.any fun (c, x) => x.ports.zipIdx.any fun (p, i) => p.reqs.zipIdx.any fun (r, k) =>
  r.stage == .ready && mayGo p k && ownerMapped s c r m.page && (r.places.any fun (a, ea) => !isRemote a && pageOfVa ea == m.page) &&
    inOrder s c i k r && !waitsInPort s c r

/-- A request of a core's port whose addresses in a page that were mapped here are to be looked up again. -/
def unmapPage (s : State) (core page : Nat) (r : Req) : Req :=
  if ownerMapped s core r page then
    let pas := (r.pas.zip (r.places.map Prod.snd)).map fun (a, ea) =>
      if a < remoteBase ∧ fabricGlobal ea ∧ pageOfVa ea = page then unmapped else a
    { r with pas := pas, stage := if pas.contains unmapped then .walking else r.stage }
  else r

/-- What was mapped here to a page that moves and is not performed, of requests whose turn has not come or that still walk, is looked up again. -/
def unmapLanes (s : State) (m : Migration) : State :=
  let core := fun c (x : Core) => { x with ports := x.ports.map fun p => { p with reqs := p.reqs.map (unmapPage s c m.page) } }
  { s with cores := s.cores.mapVals Core.init core }

/-- The home records the switch of a page to an owner; the old owner holds a signpost (R458 step 4). -/
def homeSwitch (s : State) (page owner old : Nat) : State :=
  let p := pageEntry s page
  setPage s page { p with owner := owner, state := .owned, gen := (p.gen + 1) % 65536, relaying := true,
                          posts := (p.posts.filter fun d => d != owner && d != old) ++ [old] }

/-- This device becomes the owner of a page: a signpost of it goes, once what its queue still holds has been performed here. -/
def becomeOwner (s : State) (page : Nat) : State :=
  let s := if (signpostOf s page).any fun x => !x.queue.isEmpty then mapSignpost s page fun x => { x with owner := s.devId } else dropSignpost s page
  if homesPage s page then s else { s with pkg := { s.pkg with owned := (s.pkg.owned ++ [page]).eraseDups } }

/-- The old owner's signpost names the new one from the switch on, whatever it queues (R458 step 4). -/
def installSignpost (s : State) (page owner gen : Nat) : State :=
  if (signpostOf s page).isSome then mapSignpost s page fun x => { x with owner := owner, gen := gen, draining := true }
  else { s with pkg := { s.pkg with signposts := s.pkg.signposts ++ [{ page := page, owner := owner, gen := gen, queue := [], draining := true }] } }

/-- The home ends the MIGR of a page once the old owner has relayed what its queue held (R458 step 5, R464). -/
def homeMoved (s : State) (page : Nat) : State :=
  let p := pageEntry s page
  if p.relaying then reeveDone (setPage s page { p with relaying := false }) 1 page (moveResult p.owner 0) else s

/-- The old owner tells the home that the move has ended once its relay queue is empty (R458 step 5). -/
def endRelay (s : State) (page : Nat) : State :=
  if (signpostOf s page).any fun x => x.draining && x.owner != s.devId && x.queue.isEmpty then
    let s := mapSignpost s page fun x => { x with draining := false }
    if homesPage s page then homeMoved s page else sendMessage s 18 (homeDevice s page) page s.devId 0
  else s

/-- MIGRATION_GO: the old owner switches, once the accesses it admitted are performed; with a flag, GO reaches the new owner, or the
switch from `index` to `addr` is told to the home, or, for kind 1, that the old owner has relayed its queue, which ends the move. -/
def execMigrationGo (s : State) : Host.Outcome State Fault Refusal :=
  let page := s.event.unit
  .next (if s.event.flag && s.event.kind == 1 then (if homesPage s page then homeMoved s page else s)
    else if s.event.flag then
      let owner := s.event.addr % 4096
      let s := if owner = s.devId then becomeOwner s page else s
      if homesPage s page && (pageEntry s page).state == .moving then
        homeSwitch s page owner (s.event.index % 4096)
      else s
    else match migrationOf s page with
      | none => s
      | some m =>
        if let some k := mustAbort s m then abortMove s page k
        else if m.phase != .frozen || admitted s m then s
        else
          let hit := s
          let s := unmapLanes (copyDirty s m) m
          let gen := if homesPage s page then (pageEntry s page).gen + 1 else s.event.size
          let s := { s with pkg := { s.pkg with migrations := s.pkg.migrations.filter fun x => x.page != page,
                                                owned := s.pkg.owned.erase page } }
          let s := installSignpost s page m.target (gen % 65536)
          let s := (List.range 4).foldl (fun s d => s.setDie d { s.die d with owner := (s.die d).owner.map fun o =>
            if o.page = page then { closeEntry hit d o with owner := m.target, gen := gen % 65536 } else o }) s
          let s := sendMessage s 5 m.target page m.target gen
          endRelay (if homesPage s page then homeSwitch s page m.target s.devId else sendMessage s 6 (homeDevice s page) page m.target gen) page)

/-- MIGRATION_ABORT: the old owner keeps the page and performs its queue; with a flag, the old owner tells the home. -/
def execMigrationAbort (s : State) : Host.Outcome State Fault Refusal :=
  let page := s.event.unit
  let reason := s.event.index
  .next (if s.event.flag then (if homesPage s page && (pageEntry s page).state == .moving then homeAbort s page (reason % 9) else s)
    else match migrationOf s page with
      | none => s
      | some m =>
        if abortHolds s m reason then abortMove s page reason else s)

/-! ## Relays and reclamation (R460, R462) -/

/-- SIGNPOST_RELAY: the oldest queued access goes on to the signpost's owner; its requester becomes a sharer and is redirected. A
dead owner fails it with DEADPEER (R459), and a third hop is refused with CONSULT. This device's own access goes there as any other, and its die is
redirected (R458); with the queue empty the move ends. What
its queue still holds is performed here after a migration that aborted, or once the page has come back. With a flag, the reply of a relayed
access has left its owner (R462). -/
def execSignpostRelay (s : State) : Host.Outcome State Fault Refusal :=
  let page := s.event.unit
  .next (match signpostOf s page with
    | none => s
    | some sp => if s.event.flag then mapSignpost s page fun x => { x with relayed := x.relayed - 1 } else match sp.queue with
      | [] => s
      | r :: rest =>
        if sp.owner = s.devId then
          (if frozenHere s page then s
           else
             let s := performQueued page 1 s
             if (migrationOf s page).isNone && (signpostOf s page).any fun x => x.queue.isEmpty then dropSignpost s page else s)
        else
          let s := mapSignpost s page fun x => { x with queue := rest }
          endRelay (if r.elem < outsideMark then
            let k := s.pkg.outstanding.findIdx fun q => q == r
            let gone := { s with pkg := { s.pkg with outstanding := s.pkg.outstanding.eraseIdx k } }
            if deadPeer s sp.owner then answered gone r (.error (Cause.deadpeer, word sp.owner)) 0 0
            else if r.kind = .pref ∨ r.kind = .clean ∨ r.kind = .inval then answered gone r (.ok 0) 0 0
            else if r.kind = .watch then watchQueued s r (farGranule r)
            else
              let told := takeRedirect (addSharer gone page s.devId) (accessOf s r).1 page sp.owner sp.gen
              sendAway told { r with dev := sp.owner, done := r.done + 1 }
          else if deadPeer s sp.owner then failReq s r (Cause.deadpeer, word sp.owner)
          else if 2 ≤ r.done then sendMessage s 2 r.dev page 0 0
          else
            let s := mapSignpost (addSharer s page r.dev) page fun x => { x with relayed := x.relayed + 1 }
            let s := { s with out := .request ((devicePort s sp.owner).getD 0) sp.owner { r with done := r.done + 1 } :: s.out }
            sendMessage s 1 r.dev page sp.owner sp.gen) page)

/-- An ordinary access of another device reaches this one: its signpost queues it, its owner performs it, and a device that is neither
answers CONSULT, as it does at a third hop (R458, R460). Its `home` is the die at which it entered, its `port` the requester's
tenant, and its `done` the hops so far. -/
def arrivePageAccess (s : State) (r : Req) : State :=
  let page := pageOfVa r.ea
  match signpostOf s page with
  | some sp =>
    if sp.owner != s.devId && decide (2 ≤ r.done) then sendMessage s 2 r.dev page 0 0
    else if queues s page then
      (if sp.queue.length < 256 then mapSignpost s page fun x => { x with queue := x.queue ++ [r] } else s)
    else performHere s r page
  | none => if ownsPage s page then performHere s r page else sendMessage s 2 r.dev page 0 0
where
  /-- Performs the access at its owner and counts it. -/
  performHere (s : State) (r : Req) (page : Nat) : State :=
    match remoteAt s .engine r.home r.port r with
    | (s', .error w) => countRemote (failReq s' r w) page r.dev r.port
    | (s', .ok (some v)) => countRemote (completeReq s' r (BitVec.ofNat 2048 v)) page r.dev r.port
    | (_, .ok none) => s

/-- Changes the reclamation of a page. -/
def mapReclaim (s : State) (page : Nat) (f : Reclaim → Reclaim) : State :=
  { s with pkg := { s.pkg with reclaims := s.pkg.reclaims.map fun x => if x.page = page then f x else x } }

/-- Whether every access to a page that this device issued through an entry naming an old owner has been answered: one that went to
another device than the owner, one that a signpost here relayed, and one that its queue still holds (R462). What is resolved but still in its
port is resolved anew before it goes. -/
def oldAnswered (s : State) (page owner : Nat) : Bool :=
  (List.range 4).all fun d => (awaited s d page).all fun r => r.dev == owner && r.done == 0

/-- SIGNPOST_INVALIDATION: this device drops its owner-cache entries for the page, and answers once its accesses to an old owner are
answered; `addr` names the owner where the home is another device. For another sharer, its answer reaches the home (R462). -/
def execSignpostInvalidation (s : State) : Host.Outcome State Fault Refusal :=
  let dev := s.event.unit
  let page := s.event.index
  let gone := fun (s : State) => mapReclaim s page fun x => { x with left := x.left.erase dev }
  .next (if dev = s.devId then
      let owner := if homesPage s page then (pageEntry s page).owner else s.event.addr % 4096
      let s := dropOwners s fun o => o.page == page
      if oldAnswered s page owner then (if homesPage s page then gone s else sendMessage s 10 (homeDevice s page) page dev 0) else s
    else gone s)

/-- The home sends RECLAIM to every device that holds a signpost of a page, once its sharers have answered; a dead one counts as having
answered (R462). -/
def sendReclaim (s : State) (page : Nat) : State := match s.pkg.reclaims.find? fun x => x.page == page with
  | none => s
  | some x =>
    if x.posts.isSome || !(x.left.all fun d => isDead s d) then s
    else
      let p := pageEntry s page
      let s := (p.posts.filter fun d => d != s.devId).foldl (fun s d => sendMessage s 11 d page p.owner p.gen) s
      mapReclaim s page fun x => { x with posts := some p.posts }

/-- This device frees its signpost of a page: its queue is relayed, and the replies of what it relayed have left the owner (R462). -/
def freeSignpost (s : State) (page : Nat) : State := match signpostOf s page with
  | none => s
  | some sp =>
    if sp.owner = s.devId || !sp.queue.isEmpty || sp.relayed != 0 || !oldAnswered s page sp.owner then s
    else if homesPage s page then
      (if s.pkg.reclaims.any fun x => x.page == page && x.posts.isSome then
        mapReclaim (dropSignpost s page) page fun x => { x with posts := x.posts.map fun l => l.erase s.devId }
      else s)
    else sendMessage (dropSignpost s page) 17 (homeDevice s page) page s.devId 0

/-- A reclamation ends once every signpost of the page is freed, those of dead devices apart (R462; log 17). -/
def endReclaim (s : State) (page : Nat) : State := match s.pkg.reclaims.find? fun x => x.page == page with
  | none => s
  | some x =>
    if x.posts.any fun l => l.all fun d => isDead s d then
      let p := pageEntry s page
      let s := { s with pkg := { s.pkg with reclaims := s.pkg.reclaims.filter fun y => y.page != page } }
      reeveDone (setPage s page { p with posts := [] }) 2 page (moveResult p.owner 0)
    else s

/-- RECLAIM: the home sends it once every sharer has answered, a device frees its signpost, and the home ends the reclamation. With a flag,
device `index` tells the home that it has freed its own (R462). -/
def execReclaim (s : State) : Host.Outcome State Fault Refusal :=
  let page := s.event.unit
  let dev := s.event.index
  .next (endReclaim (if s.event.flag then mapReclaim s page fun x => { x with posts := x.posts.map fun l => l.erase dev }
    else freeSignpost (sendReclaim s page) page) page)

/-! ## The instructions (R463 to R465) -/

/-- OWNQ. -/
def execOwnq (o : Ops) (s : State) : Host.Outcome State Fault Refusal :=
  withAgent s fun x =>
    let ea := srcWord s x o o.a
    match x with
    | .firing e f =>
      let r := { newReq s e f .ownq (memReply o) with ea := ea, dev := homeDevice s (pageOfVa ea) }
      if bufferBusy s e f then s
      else match issueChecks s e f.frame.ctx [{ space := 3, ea := ea, len := 1, align := 1, rd := true, wr := false }] with
        | some w => raise s w.1 w.2
        | none =>
          if fabricGlobal ea && deadPeer s r.dev then raise s Cause.deadpeer (word r.dev)
          else finish s o (.firing e (f.addReq r (routeWord s e f.frame.ctx (memReply o))))
    | .stew n st =>
      let page := pageOfVa ea
      if !fabricGlobal ea then finish s o (x.setScalar o.d ownqNot)
      else if homesPage s page then finish s o (x.setScalar o.d (ownqWord s page))
      else if deadPeer s (homeDevice s page) then raise s Cause.deadpeer (word (homeDevice s page))
      else
        let r := { stewReq n .ownq with ea := ea, dev := homeDevice s page }
        sendAway (s.setStew n { st with waiting := some (.request r, Spec.code o.d) }) r

/-- Runs a reeve-only instruction; another core's traps with PRIV, DETAIL the word (R337). -/
def reeveOnly (op : Nat) (o : Ops) (s : State) (k : Stew → State) : Host.Outcome State Fault Refusal :=
  withStew s fun n st => if n = 20 then k st else raise s Cause.priv (encodeFields op o)

/-- The reeve waits for a MIGR (op 1) or SGNRCL (op 2) of a page. -/
def reeveWaits (s : State) (o : Ops) (r : Req) : State :=
  s.setStew 20 { s.stew 20 with waiting := some (.request r, Spec.code o.d) }

/-- A MIGR of a page at its home (R458, R464): the RESULT, or none while the move runs; no answer at all while a reclamation of the page
runs, the relays of an earlier move go on, or the owner's walk waits, when the MIGR waits. The home checks in the order of the RESULT codes where several hold, but refuses a full home map before
it asks the owner (log 17). -/
def homeMigr (s : State) (page dev ten : Nat) : Option (State × Option Nat) :=
  let p := pageEntry s page
  if p.relaying || s.pkg.reclaims.any fun x => x.page == page then none
  else if p.state = .moving then some (s, some 2)
  else if dev = p.owner then
    (if homeMapFull s page then some (s, some 1) else some (setPage s page { p with state := .owned, cnt := 0 }, some 1))
  else if deadPeer s dev || deadPeer s p.owner then some (s, some 4)
  else if homeMapFull s page then some (s, some 8)
  else
    let moving := fun (s : State) => setPage s page { p with state := .moving, cnt := 0 }
    if p.owner = s.devId then match startMove s page dev ten with
      | none => none
      | some (s, 0) => some (moving s, none)
      | some (s, k) => some (setPage s page { p with state := .owned, cnt := 0 }, some k)
    else some (sendMessage (moving s) 4 p.owner page dev ten, none)

/-- A SGNRCL of a page at its home (R462, R464), answered likewise; it waits while another one runs, or the relays of a move go on. The sharers that the home has when it starts are
told, and a device that becomes one from then on is told by the next. -/
def homeReclaim (s : State) (page : Nat) : Option (State × Option Nat) :=
  let p := pageEntry s page
  if p.relaying || s.pkg.reclaims.any fun x => x.page == page then none
  else if p.state = .moving then some (s, some 2)
  else if p.posts.isEmpty then some (s, some 1)
  else
    let l := if p.overflow then (List.range 4096).filter fun d => d == s.devId || !deadPeer s d else p.sharers
    let s := (l.filter fun d => d != s.devId).foldl (fun s d => sendMessage s 9 d page p.owner p.gen)
      (setPage s page { p with sharers := [], overflow := false })
    some ({ s with pkg := { s.pkg with reclaims := s.pkg.reclaims ++ [{ page := page, left := l, posts := none }] } }, none)

/-- A MIGR or SGNRCL of the reeve: at the home of the page, here or on another device. -/
def reeveMove (o : Ops) (s : State) (st : Stew) (r : Req) (home : Option (State × Option Nat)) : State :=
  let page := pageOfVa r.ea
  if !fabricGlobal r.ea then finish s o ((Agent.stew 20 st).setScalar o.d 6)
  else if !homesPage s page then
    (if deadPeer s r.dev then raise s Cause.deadpeer (word r.dev) else sendAway (reeveWaits s o r) r)
  else match home with
    | none => s
    | some (s, some k) => finish s o ((Agent.stew 20 (s.stew 20)).setScalar o.d (moveResult (pageEntry s page).owner k))
    | some (s, none) => reeveWaits s o r

/-- MIGR (R464): DEV 0xFFF names the device whose reeve issues it, and goes to another home as its id. -/
def execMigr (o : Ops) (s : State) : Host.Outcome State Fault Refusal :=
  reeveOnly 0xD8 o s fun st =>
    let x := Agent.stew 20 st
    let ea := srcWord s x o o.a
    let b := word (srcWord s x o o.b)
    let dev := deviceNamed s (bits b 11 0)
    let r := { stewReq 20 .ownq with op := 1, ea := ea, aux := setBits b 11 0 dev, dev := homeDevice s (pageOfVa ea) }
    reeveMove o s st r (homeMigr s (pageOfVa ea) dev (bits b 19 12))

/-- OWNINV (R464). -/
def execOwninv (o : Ops) (s : State) : Host.Outcome State Fault Refusal :=
  reeveOnly 0xDA o s fun st =>
    let x := Agent.stew 20 st
    let page := pageOfVa (srcWord s x o o.a)
    let all := xBit o.x 0
    let s := dropOwners s fun y => all || y.page == page
    finish s o (.stew 20 (s.stew 20))

/-- SGNRCL (R462, R464). -/
def execSgnrcl (o : Ops) (s : State) : Host.Outcome State Fault Refusal :=
  reeveOnly 0xDB o s fun st =>
    let ea := srcWord s (.stew 20 st) o o.a
    reeveMove o s st { stewReq 20 .ownq with op := 2, ea := ea, dev := homeDevice s (pageOfVa ea) } (homeReclaim s (pageOfVa ea))

end Sys2Proof.Machine
end

