-- ==== Sys2Proof/Machine/Utern.lean ====
section
/-! DEFINITION. What the fabric brings and loses: requests of other devices (R430, R438, R442, R444, R455, R464), dead peers (R430), the
route table (R427), the links (R395, R426), and the disposal of lost regions (R416, R435). -/

namespace Sys2Proof.Machine

/-! ## Requests of other devices (R438) -/

/-- The kind of request that another device sends, by number: 0 RLD, 1 RST, 2 RATOM; 3 to 5 an ordinary load, store and atomic of a
page; 6 JOIN, 7 LEAVE, 8 COLL, 9 and 10 a collective's read and write, 11 a multicast store; the others as the event that brings them says. -/
def arrivalKind (k : Nat) : ReqKind :=
  if k = 0 then .rld else if k = 1 ∨ k = 11 then .rst else if k = 2 then .ratom else if k = 3 ∨ k = 9 then .ld else if k = 4 ∨ k = 10 then .st
  else if k = 5 then .atomr else if k = 6 then .join else if k = 7 then .leave else if k = 8 then .coll else .ownq

/-- The type whose code an event carries. -/
def arrivalType (n : Nat) : Ty := (Ty.ofCode (n % 16)).getD .b64

/-- A request of device `unit` that enters by port `index` mod 16, after `index` / 16 relays: tenant or type in `addr`, size or set, kind,
operation or a load's reuse class, address w0, second address or descriptor w1, compare value w2, timestamp w3, and the data in the payload. -/
def arrival (ev : Event) : Req :=
  { stewReq 0 (arrivalKind ev.kind) with
    elem := outsideMark, space := 3, ea := ev.w0.toNat, aux := ev.w1, cmp := ev.w2, ts := ev.w3, data := ev.payload, size := ev.size,
    op := ev.op, m := ev.m, ty := arrivalType ev.addr, dev := ev.unit, home := ev.index % 16 / 4, port := ev.addr % 256,
    scope := fabricScope, done := ev.index / 16 % 4, rcls := if ev.kind = 3 then ev.op % 4 else 0 }

/-- What a unit of this device makes of a request of another device, by the outcome of performing it. -/
def arrived (r : Req) : State × Perf → State
  | (s, .stay) => s
  | (s, .done v taint) => completeReq s r v taint
  | (s, .fail w) => failReq s r w
  | (s, .taken) => s

/-- A keeper's collective engine on another device reads or writes a member's cellar buffer here, in the member's cellar space (R446, R447). -/
def memberCell (s : State) (r : Req) : State :=
  let loc := r.aux.toNat
  let e := locCore loc * 4 + locEl loc
  let ctx := locCtx loc
  if !(inSpace s e ctx 2 r.ea && inSpace s e ctx 2 (r.ea + r.size - 1)) then failReq s r (Cause.spaceoob, word r.ea)
  else
    let a := spaceAddr s e ctx 2 r.ea
    if r.kind = .ld then match readAt s .engine none a r.size r.ea with
      | (s, .ok v) => completeReq s r (BitVec.ofNat 2048 v)
      | (s, .error w) => failReq s r w
    else match writeAt s .engine none a (bytesOfNum r.size r.data.toNat) r.ea with
      | (s, .ok ()) => completeReq s r 0
      | (s, .error w) => failReq s r w

/-- A MIGR (op 1) or SGNRCL (op 2) of another device's reeve for a page homed here (R464): it waits as an outstanding request. -/
def arrivedMove (s : State) (r : Req) (home : Option (State × Option Nat)) : State :=
  let page := pageOfVa r.ea
  if !homesPage s page then s
  else match home with
    | none => s
    | some (s, some k) => completeReq s r (BitVec.ofNat 2048 (moveResult (pageEntry s page).owner k))
    | some (s, none) => { s with pkg := { s.pkg with outstanding := s.pkg.outstanding ++ [r] } }

/-- REMOTE_REQUEST_ARRIVAL: a request of another device is performed here (R438), or reaches the unit that serves it. Kind 12
is an owner lookup; 13 an OWNQ; an RLD, RST or RATOM at a page's owner counts as any remote access (R456); 14 a MIGR; 15 a SGNRCL; 16 device `index` as a sharer; 9 and 10 another keeper's read and write of the cellar
buffer of the member at the location in `aux` (R447). An ordinary access of this device may come back to it through relays (R460). -/
def execRemoteRequestArrival (s : State) : Host.Outcome State Fault Refusal :=
  let ev := s.event
  let r := arrival ev
  let mid := ev.op % 256
  let m := musterOf s mid
  .next (if (ev.unit = s.devId ∧ !(3 ≤ ev.kind ∧ ev.kind ≤ 5)) ∨ 4096 ≤ ev.unit then s
    else if ev.kind ≤ 2 then
      let page := pageOfVa r.ea
      let counted := fun (t : State) => if fabricGlobal r.ea && ownsPage s page then countRemote t page r.dev r.port else t
      match remoteAt s .engine r.home r.port r with
      | (t, .error w) => counted (failReq t r w)
      | (t, .ok (some v)) => counted (completeReq t r (BitVec.ofNat 2048 v))
      | (_, .ok none) => s
    else if ev.kind ≤ 5 then arrivePageAccess s r
    else if ev.kind ≤ 7 then setMuster s mid { m with queue := m.queue ++ [{ r with op := mid }] }
    else if ev.kind = 8 then arrived r (contribute s r)
    else if ev.kind = 9 ∨ ev.kind = 10 then memberCell s r
    else if ev.kind = 11 then arrived r (multicastStore s r)
    else if ev.kind = 12 then
      (if homesPage s (pageOfVa r.ea) then
        let page := pageOfVa r.ea
        let s := addSharer s page ev.unit
        sendMessage s 12 ev.unit page (pageEntry s page).owner (pageEntry s page).gen
      else s)
    else if ev.kind = 13 then
      (if homesPage s (pageOfVa r.ea) then completeReq s r (BitVec.ofNat 2048 (ownqWord s (pageOfVa r.ea))) else s)
    else if ev.kind = 14 then
      arrivedMove s { r with op := 1 } (homeMigr s (pageOfVa r.ea) (bits r.aux 11 0) (bits r.aux 19 12))
    else if ev.kind = 15 then arrivedMove s { r with op := 2 } (homeReclaim s (pageOfVa r.ea))
    else if ev.kind = 16 then (if homesPage s (pageOfVa r.ea) then addSharer s (pageOfVa r.ea) (ev.index % 4096) else s)
    else s)

/-! ## Dead peers (R430) -/

/-- Whether what has left stands at the port by which traffic to a device leaves now: after a change of the route, all before has been
delivered (R427). -/
def heldFor (s : State) (dev : Nat) : Sent → Bool
  | .token p d _ | .copy p d _ _ _ _ | .fork p d _ => d == dev && devicePort s dev == some p
  | .hostWrite _ _ _ _ | .dropped _ _ | .request _ _ _ | .message _ _ _ _ _ | .answer _ _ _ | .bootFailure | .hostRead _ | .batch _ _ _ | .term _ _ _ | .admission _ _ _ _ => false

/-- The copies of a SENDM that their port drops: one report for each fork, of the slots that are delivered (R444). -/
def reportCopies (s : State) (lost : List Sent) : State :=
  let copies := lost.filterMap fun x => match x with
    | .copy _ _ t sender all slot => some ((sender, t.ts, all), slot)
    | _ => none
  ((copies.map Prod.fst).eraseDups).foldl (fun s k =>
    let gone := copies.filter fun (j, _) => j == k
    reportFork s k.1 k.2.1 (gone.foldl (fun m (_, i) => if m.testBit i then m - 2 ^ i else m) k.2.2)) s

/-- Drops what a device's port still holds of tokens to it, the newest `n`, each with a tainted decrement (R430, R444). -/
def dropHeld (s : State) (dev n : Nat) : State :=
  let lost := (s.out.filter (heldFor s dev)).take n
  let s := lost.foldl (fun s x =>
    let s := { s with out := s.out.erase x }
    match x with
    | .token _ _ t | .copy _ _ t _ _ _ => dropCounted s t
    | .fork _ _ toks => toks.foldl dropCounted s
    | _ => s) s
  reportCopies s lost

/-- Every region homed here at the fabric level with a core on a dead device is lost (R430). -/
def losePeers (s : State) (dev : Nat) : State :=
  let seen := fun (i : Nat) => (s.home i).applied.any (fun (u, _) => u / 64 == dev) || (s.home i).received.any fun (u, _) => u % 2 ^ 24 / 64 == dev
  let gone := (s.homes.map Prod.fst ++ s.devices.map Prod.fst).eraseDups.filter fun i =>
    !homedAway s i && ((Tab.get [] s.devices i).contains dev || seen i)
  gone.foldl (fun s i => s.setHome i { s.home i with lost := true }) s

/-- UTERN_TIMEOUT: a device that has not answered within UTIME is marked dead: what awaits its answer fails with UTIMEOUT, the
tokens that its port still holds, `size` of them, are dropped with a tainted decrement, and its regions are lost. -/
def execUternTimeout (s : State) : Host.Outcome State Fault Refusal :=
  let dev := s.event.unit
  .next (if dev = s.devId ∨ 4096 ≤ dev then s
    else
      let off := 0x500 + dev / 64
      let s := setFabric s off (Tab.get 0 s.pkg.fabric off ||| word (2 ^ (dev % 64)))
      let gone := fun (r : Req) => r.dev == dev && (r.parent.isSome || decide (r.elem < outsideMark))
      let rs := s.pkg.outstanding.filter gone
      let s := { s with pkg := { s.pkg with outstanding := s.pkg.outstanding.filter fun r => !gone r } }
      let s := rs.foldl (fun s r => answered s r (.error (Cause.utimeout, word dev)) 0 0) s
      losePeers (dropHeld s dev s.event.size) dev)

/-- A write of a word of the dead-peer bitmap by the reeve clears the bits that are 1 in the value (R430). -/
def clearDead (s : State) (off : Nat) (v : W64) : State := setFabric s off (Tab.get 0 s.pkg.fabric off &&& ~~~v)

/-- The two devices whose entries a word of the route table holds. -/
def routeDevices (off : Nat) : List Nat := [2 * (off - 0x800), 2 * (off - 0x800) + 1]

/-- Whether a write of a route-table word waits: an earlier write of it does, or it changes the entry of a device towards which a token has
left on the old port (R427). -/
def routeWaits (s : State) (off : Nat) (v : W64) : Bool :=
  (s.pkg.reroutes.any fun (o, _) => o == off) || (routeDevices off).any fun d =>
    devicePort s d != devicePort (setFabric s off v) d && s.out.any (heldFor s d)

/-- A write of a word of the route table by the reeve (R427): it takes effect once the tokens sent on the old port have been delivered, and
until then the word stays (log 100). -/
def writeRoute (s : State) (off : Nat) (v : W64) : State :=
  if routeWaits s off v then { s with pkg := { s.pkg with reroutes := s.pkg.reroutes ++ [(off, v)] } } else setFabric s off v

/-- The oldest waiting write of the route table takes effect: the tokens on the old port have been delivered (R427). -/
def reroute (s : State) : State := match s.pkg.reroutes with
  | [] => s
  | (off, v) :: rest => setFabric { s with pkg := { s.pkg with reroutes := rest } } off v

/-! ## Links (R395, R426) -/

/-- LINK_FLIT_RETRY: a flit that its link retries is delivered once, in its place: nothing of the state changes (R426). -/
def execLinkFlitRetry (s : State) : Host.Outcome State Fault Refusal := .next s
/-- LINK_LEVEL_RETRY: a retry or a lane repair of a die-to-die link changes nothing of the state (R395). -/
def execLinkLevelRetry (s : State) : Host.Outcome State Fault Refusal := .next s
/-- UCIE_MODULE_FAIL: a module that fails training is disabled; its link runs on the remaining ones, and is down without any (R395). -/
def execUcieModuleFail (s : State) : Host.Outcome State Fault Refusal :=
  let k := s.event.unit % 4
  let m := s.event.index % 8
  let old := s.pkg.ucie.getD k 0
  .next { s with pkg := { s.pkg with ucie := setAt s.pkg.ucie k (if old.testBit m then old - 2 ^ m else old) } }

/-! ## Lost regions (R416) -/

/-- Frees the slots of a region in every cluster's frontier unit. -/
def freeSlots (s : State) (image : Nat) : State :=
  { s with clusters := s.clusters.map fun c => { c with slots := c.slots.filter fun x => x.image != image, placed := none } }

/-- Frees every lay-by record of a region, while its elements are still known. -/
def freeLayby (s : State) (image : Nat) : State :=
  let n := (regionElems s image).length * 128
  let base := (laybyOf s image).2.toNat
  (List.range n).foldl (fun s k =>
    let a := base + 1280 * k + 16
    if recordUsed s (a - 16) then s.writeNum a 8 0 else s) s

/-- Whether a region has a core on a die that drains, and spans other dies too (R420). -/
def spansDraining (s : State) (image : Nat) : Bool :=
  let ds := regionDies s image
  (decide (1 < ds.length) || spansDevices s image) && ds.any fun d => bits s.pkg.pkgrst (4 * d + 3) (4 * d) == 1

/-- The frames that an element holds of some contexts go with them: no slot counts their tokens any more (R416; log 101). -/
def dropFrames (s : State) (ctxs : List (Nat × Nat)) : State :=
  ctxs.foldl (fun s (e, ctx) =>
    let x := s.elem e
    s.setElem e { x with frames := x.frames.filter fun f => f.ctx != ctx }) s

/-- LOST_REGION_DISPOSAL: the reeve disposes of a lost region, or of one that keeps a die from draining (R416, R420): between
its firings; its report waits for queue 63 (R435). Kind 1: it reports the image `unit` that a loader refused for the reason `index`. -/
def execLostRegionDisposal (s : State) : Host.Outcome State Fault Refusal :=
  let image := s.event.unit
  .next (if s.event.kind = 1 then addReport s (imgrefToken image s.event.index)
    else if !(s.home image).lost && !spansDraining s image then s
    else if (regionCtxs s image).any fun (e, ctx) => (s.elem e).firing.any fun f => f.frame.ctx == ctx then s
    else
      let ctxs := regionCtxs s image
      let s := dropFrames (freeLayby s image) ctxs
      let s := ctxs.foldl (fun s (e, ctx) => invalidateContext s e ctx) s
      addReport (freeSlots (s.setHome image Home.init) image) (reglostToken image))

end Sys2Proof.Machine
end

