-- ==== Sys2Proof/Machine/Dies.lean ====
section
/-! DEFINITION. The die configuration space (R373, R391) and the flushing of a die's lines (R373, R421, R422). -/

namespace Sys2Proof.Machine

/-! ## Flushing (R373, R421, R422) -/

/-- Writes a line that die `d` caches back to memory and removes it from its L2 and its directory, and from every L1, whose dirty sectors
are written back too (R421, R422). -/
def purgeLine (s : State) (d line : Nat) : State :=
  let s := invalOthers (evictL2 s d line) line none
  let s := evictL2 s (lineHome s line) line
  let x := s.die d
  s.setDie d { x with dir := Tab.set DirEntry.init x.dir line DirEntry.init, pinned := x.pinned.filter fun p => p != line }

/-- The lines that die `d` caches or lists in its directory. -/
def dieLines (s : State) (d : Nat) : List Nat :=
  let x := s.die d
  ((x.l2.map Prod.fst) ++ x.dir.map Prod.fst).eraseDups

/-- Purges the lines of die `d` that a test picks. -/
def purgeLines (s : State) (d : Nat) (pick : Nat → Bool) : State := ((dieLines s d).filter pick).foldl (fun s line => purgeLine s d line) s

/-- Sets bytes of the cellar of die `d` to zero, with every presence bit empty. -/
def zeroCellar (s : State) (d lo hi : Nat) : State :=
  let a := celAddr d lo
  let b := celAddr d hi
  { s with mem := s.mem.filter fun (k, _) => !(decide (a ≤ k) && decide (k < b)),
           presence := s.presence.filter fun (k, _) => !(decide (a ≤ 8 * k) && decide (8 * k < b)),
           soft := s.soft.filter fun e => match e with
             | .cellar x off _ => !(decide (a ≤ celAddr x off) && decide (celAddr x off < b))
             | _ => true }

/-! ## CELSPLIT (R373) -/

/-- Whether CELSPLIT of a die may take a value. -/
def splitOk (s : State) (d : Nat) (v : W64) : Bool :=
  decide (v.toNat < 2 ^ 7) && decide (bits v 6 4 ≤ 4) && decide (bits v 3 0 + bits v 6 4 ≤ 15) &&
    s.cores.all fun (c, core) => dieOf c != d || core.cfg0.all fun (k, w) =>
      !(k % 128 == 0 && bitOf w 63) || decide (bits w 26 23 + bits w 31 27 ≤ bits v 3 0)

/-- The step of the cellar, 0 to 14, that holds an L2 or pinned line of a die: a pinned line by its place in the pinned partition, another by
its set (R372; logs 25, 96). -/
def lineStep (s : State) (d line : Nat) : Nat :=
  let x := s.die d
  let i := x.pinned.idxOf line
  if i < x.pinned.length then splitOf s d + i / 2 ^ 19
  else splitOf s d + bits x.celsplit 6 4 + line % l2Sets s d / 32768

/-- The part to which a step of the cellar belongs under a split: 0 scratch, 1 pinned, 2 L2 (R372). -/
def partOf (split : W64) (step : Nat) : Nat :=
  if step < bits split 3 0 then 0 else if step < bits split 3 0 + bits split 6 4 then 1 else 2

/-- The L2 and pinned lines of a die that stand in steps that a split gives to another part (R373). -/
def movedLines (s : State) (d : Nat) (v : W64) : List Nat :=
  ((s.die d).l2.map Prod.fst).filter fun line =>
    let k := lineStep s d line
    partOf v k != partOf (s.die d).celsplit k

/-- Whether a write of CELSPLIT must wait: a line to be written back stands in HBM of a die whose links are down (R373, R421). -/
def splitHolds (s : State) (d : Nat) (v : W64) : Bool :=
  (movedLines s d v).any fun line => stackDown s line && ((s.die d).line line).dirty != 0

/-- An accepted write of CELSPLIT: the lines in steps that change part are written back and invalidated in the L2, the steps that become
scratch are zeroed, and the split takes effect (R373); what then shares a set of the L2 keeps to its ways (R380). -/
def setSplit (s : State) (d : Nat) (v : W64) : State :=
  if (s.die d).celsplit = v then s
  else
    let lines := movedLines s d v
    let s := lines.foldl (fun s line => evictL2 s d line) s
    let lo := min (splitOf s d) (bits v 3 0)
    let hi := max (splitOf s d) (bits v 3 0)
    let s := zeroCellar s d (lo * 2 ^ 26) (hi * 2 ^ 26)
    let x := s.die d
    let s := s.setDie d { x with celsplit := v, pinned := x.pinned.filter fun p => !lines.contains p }
    (x.l2.map Prod.fst).foldl (fun s line => trimSet s d line) s

/-! ## HOMEMASK (R379, R391) -/

/-- Whether HOMEMASK may take a value: at most one of the four bits. -/
def maskOk (v : W64) : Bool := decide (v.toNat < 16) && decide (popCount 4 v.toNat ≤ 1)
/-- A write of HOMEMASK, on all four dies at once. -/
def setHomemask (s : State) (v : W64) : State := { s with pkg := { s.pkg with homemask := v } }

/-! ## Words of the die space (R391) -/

/-- A word of the die space of a die. -/
def dieWord (s : State) (d off : Nat) : W64 :=
  let x := s.die d
  if off = 0 then x.celsplit
  else if off = 1 then s.pkg.homemask
  else if off = 2 then x.hlimit
  else if off = 3 then x.pinthr
  else if 0x100 ≤ off ∧ off < 0x200 then Tab.get 0 x.ttroot (off - 0x100)
  else if 0x200 ≤ off ∧ off < 0x240 then Tab.get 0 x.region (off - 0x200)
  else if 0x400 ≤ off ∧ d = 0 then Tab.get 0 s.pkg.fabric off
  else 0

/-- Whether a value is refused with BADFIELD by the rule of a word of the die space; `reeve` says who writes it. -/
def dieWordBad (s : State) (d off : Nat) (v : W64) (reeve : Bool) : Bool :=
  if 0x400 ≤ off ∧ (d ≠ 0 ∨ !reeve) then true
  else if off = 0 then !splitOk s d v
  else if off = 1 then !reeve || !maskOk v
  else if off = 2 ∨ off = 0x400 then decide (v.toNat < 1) || decide (1000000 < v.toNat)
  else if off = 3 then decide (v.toNat < 1) || decide (65535 < v.toNat)
  else if 0x100 ≤ off ∧ off < 0x200 then bits v 62 52 != 0 || bits v 19 0 != 0 || (!bitOf v 63 && v != 0)
  else if 0x200 ≤ off ∧ off < 0x240 then
    bits v 62 48 != 0 || (!bitOf v 63 && v != 0) ||
      (bitOf v 63 && (s.die d).region.any fun (k, w) => k != off - 0x200 && bitOf w 63 && bits w 47 32 == bits v 47 32)
  else if 0x440 ≤ off ∧ off < 0x480 then !bitOf v 63 && v != 0
  else if 0x480 ≤ off ∧ off < 0x4C0 then bits v 50 48 != 0 || bits v 7 0 != 0 || (!bitOf v 63 && v != 0)
  else if 0x500 ≤ off ∧ off < 0x540 then false
  else if off = 0x600 then decide (65536 ≤ v.toNat)
  else if 0x700 ≤ off ∧ off < 0x800 then
    bits v 15 12 != 0 || bits v 31 28 != 0 || bits v 47 44 != 0 || bits v 63 60 != 0
  else if 0x800 ≤ off then
    bits v 30 4 != 0 || bits v 62 36 != 0 || (!bitOf v 31 && bits v 31 0 != 0) || (!bitOf v 63 && bits v 63 32 != 0)
  else v != 0

/-- An accepted write of a word of the die space, or the cause with which it is refused all the same. -/
def writeDieWord (s : State) (d off : Nat) (v : W64) : Except Nat State :=
  let x := s.die d
  if off = 0 then .ok (setSplit s d v)
  else if off = 1 then .ok (setHomemask s v)
  else if off = 2 then .ok (s.setDie d { x with hlimit := v })
  else if off = 3 then .ok (s.setDie d { x with pinthr := v })
  else if 0x100 ≤ off ∧ off < 0x200 then .ok (s.setDie d { x with ttroot := Tab.set 0 x.ttroot (off - 0x100) v })
  else if 0x200 ≤ off ∧ off < 0x240 then .ok (s.setDie d { x with region := Tab.set 0 x.region (off - 0x200) v })
  else if 0x440 ≤ off ∧ off < 0x480 then writeIngb s (off - 0x440) v
  else if 0x500 ≤ off ∧ off < 0x540 then .ok (clearDead s off v)
  else if 0x800 ≤ off then .ok (writeRoute s off v)
  else if off = 0x400 ∨ off = 0x600 ∨ (0x480 ≤ off ∧ off < 0x4C0) ∨ (0x700 ≤ off ∧ off < 0x800) then .ok (setFabric s off v)
  else .ok s

end Sys2Proof.Machine
end

