-- ==== Sys2Proof/Machine/Logic.lean ====
section
/-! DEFINITION. Logic, shifts, bit counts and bit fields (R132 to R134), LEA (R139) and CRC32C (R140). -/

namespace Sys2Proof.Machine

/-- A result on bit patterns of Width(T), from the width and the patterns (R132). -/
def bitwise (o : Ops) (s : State) (f : Nat → Nat → Nat → Nat) : Host.Outcome State Fault Refusal :=
  elementwise o s (.bits o.ty) (.bits o.ty) .whole (Ty.width o.ty) fun a b _ => f (Ty.width o.ty) a b

/-- The complement of a `w`-bit pattern. -/
def notBits (w a : Nat) : Nat := 2 ^ w - 1 - low w a
/-- Shift left; a count of w or more gives 0. -/
def shiftLeft (w a n : Nat) : Nat := if w ≤ n then 0 else a <<< n
/-- Shift right with zeros. -/
def shiftRight (w a n : Nat) : Nat := if w ≤ n then 0 else a >>> n
/-- Arithmetic shift right. -/
def shiftArith (w a n : Nat) : Nat := wrapInt w (signed w a / 2 ^ min n w)
/-- Rotation left by n mod w. -/
def rotateLeft (w a n : Nat) : Nat := low w (a <<< (n % w)) ||| (a >>> (w - n % w))
/-- Leading zero bits of a `w`-bit pattern; w for 0. -/
def leadingZeros (w a : Nat) : Nat := if a = 0 then w else w - 1 - Nat.log2 a
/-- The pattern with its bits in reverse order. -/
def reverseBits (w a : Nat) : Nat := packNum 1 ((List.range w).map fun j => a >>> (w - 1 - j))
/-- pos of a field descriptor (R133). -/
def fieldPos (b : Nat) : Nat := b % 256
/-- len of a field descriptor (R133). -/
def fieldLen (b : Nat) : Nat := b / 256 % 256
/-- The width of the field that a descriptor names, cut at bit w - 1; 0 where it names none (R133). -/
def fieldWidth (w b : Nat) : Nat := if w ≤ fieldPos b then 0 else min (fieldPos b + fieldLen b) w - fieldPos b
/-- BEXT's result. -/
def extractField (w a b : Nat) : Nat := low (fieldWidth w b) (a >>> fieldPos b)
/-- BINS's result. -/
def insertField (w a b c : Nat) : Nat :=
  let n := fieldWidth w b
  let p := fieldPos b
  if n = 0 then c else c - low n (c >>> p) * 2 ^ p + low n a * 2 ^ p
/-- SEXT's result (R134). -/
def signFrom (w a n : Nat) : Nat := if w - 1 ≤ n then a else wrapInt w (signed (n + 1) a)
/-- ZEXT's result (R134). -/
def zeroFrom (w a n : Nat) : Nat := if w - 1 ≤ n then a else low (n + 1) a

/-- AND (R132). -/
def execAnd (o : Ops) (s : State) : Host.Outcome State Fault Refusal := bitwise o s fun _ a b => a &&& b
/-- OR (R132). -/
def execOr (o : Ops) (s : State) : Host.Outcome State Fault Refusal := bitwise o s fun _ a b => a ||| b
/-- XOR (R132). -/
def execXor (o : Ops) (s : State) : Host.Outcome State Fault Refusal := bitwise o s fun _ a b => a ^^^ b
/-- ANDN (R132). -/
def execAndn (o : Ops) (s : State) : Host.Outcome State Fault Refusal := bitwise o s fun w a b => a &&& notBits w b
/-- NOT (R132). -/
def execNot (o : Ops) (s : State) : Host.Outcome State Fault Refusal := bitwise o s fun w a _ => notBits w a
/-- SHL (R132). -/
def execShl (o : Ops) (s : State) : Host.Outcome State Fault Refusal := bitwise o s shiftLeft
/-- SHR (R132). -/
def execShr (o : Ops) (s : State) : Host.Outcome State Fault Refusal := bitwise o s shiftRight
/-- SAR (R132). -/
def execSar (o : Ops) (s : State) : Host.Outcome State Fault Refusal := bitwise o s shiftArith
/-- ROL (R132). -/
def execRol (o : Ops) (s : State) : Host.Outcome State Fault Refusal := bitwise o s rotateLeft
/-- CLZ (R132). -/
def execClz (o : Ops) (s : State) : Host.Outcome State Fault Refusal := bitwise o s fun w a _ => leadingZeros w a
/-- POPC (R132). -/
def execPopc (o : Ops) (s : State) : Host.Outcome State Fault Refusal := bitwise o s fun w a _ => popCount w a
/-- BREV (R132). -/
def execBrev (o : Ops) (s : State) : Host.Outcome State Fault Refusal := bitwise o s fun w a _ => reverseBits w a
/-- SEXT (R134). -/
def execSext (o : Ops) (s : State) : Host.Outcome State Fault Refusal := bitwise o s signFrom
/-- ZEXT (R134). -/
def execZext (o : Ops) (s : State) : Host.Outcome State Fault Refusal := bitwise o s zeroFrom
/-- BEXT (R133): the descriptor is read from the whole of b. -/
def execBext (o : Ops) (s : State) : Host.Outcome State Fault Refusal :=
  elementwise o s (.bits o.ty) .whole .whole (Ty.width o.ty) fun a b _ => extractField (Ty.width o.ty) a b
/-- BINS (R133): c with the low bits of a in the field. -/
def execBins (o : Ops) (s : State) : Host.Outcome State Fault Refusal :=
  elementwise o s (.bits o.ty) .whole (.bits o.ty) (Ty.width o.ty) fun a b c => insertField (Ty.width o.ty) a b c
/-- LEA (R139). -/
def execLea (o : Ops) (s : State) : Host.Outcome State Fault Refusal :=
  elementwise o s .whole .whole .whole 64 fun a b _ =>
    wrapInt 64 ((a : Int) + signed 64 b * ((Ty.width o.ty / 8 : Nat) : Int))

/-- One bit step of the CRC-32C remainder (R140). -/
def crcBit (c : Nat) : Nat := if c % 2 = 1 then (c >>> 1) ^^^ 0x82F63B78 else c >>> 1
/-- The CRC-32C remainder after one byte (R140). -/
def crcByte (c b : Nat) : Nat :=
  crcBit (crcBit (crcBit (crcBit (crcBit (crcBit (crcBit (crcBit (c ^^^ (b % 256)))))))))
/-- The remainder after the low `n` bytes of a number, the least significant first (R140). -/
def crcBytes : Nat → Nat → Nat → Nat
  | 0, c, _ => c
  | n + 1, c, b => crcBytes n (crcByte c b) (b / 256)

/-- CRC32C (R140). -/
def execCrc32c (o : Ops) (s : State) : Host.Outcome State Fault Refusal :=
  elementwise o s (.wide o.ty) (.bits o.ty) .whole 64 fun a b _ => crcBytes (Ty.width o.ty / 8) (low 32 a) b

end Sys2Proof.Machine
end

