-- ==== Sys2Proof/Machine/CfgWords.lean ====
section
/-! DEFINITION. Configuration: addresses and status words (R352), the rules that govern the words (R50, R53 to R58, R79, R173, R200, R209,
R226, R277, R310, R316, R326, R391), configuration transactions (R353 to R356), and the instructions CFGW, CFGR, CFGCOM and CFGABT,
with LD and ST in the configuration space. -/

namespace Sys2Proof.Machine

/-! ## Addresses and status words (R352) -/

/-- A configuration address, in its fields. -/
structure CfgAddr where
  die : Nat
  cl : Nat
  cls : Nat
  core : Nat
  el : Nat
  ctx : Nat
  off : Nat
  deriving DecidableEq, Repr

/-- The fields of a configuration address. -/
def cfgFields (q : W64) : CfgAddr :=
  { die := bits q 31 30, cl := bits q 29 28, cls := bits q 27 26, core := bits q 25 19, el := bits q 18 17, ctx := bits q 16 14,
    off := bits q 11 0 }

/-- The cluster, 0 to 15, that an address names. -/
def CfgAddr.cluster (a : CfgAddr) : Nat := a.die * 4 + a.cl
/-- The core of the package that an address names. -/
def CfgAddr.pkgCore (a : CfgAddr) : Nat := a.cluster * 128 + a.core
/-- The element that an address names. -/
def CfgAddr.elem (a : CfgAddr) : Nat := a.pkgCore * 4 + a.el

/-- Whether an address breaks its layout, or leaves its class. -/
def cfgMalformed (q : W64) : Bool :=
  let a := cfgFields q
  bits q 63 32 != 0 || bits q 13 12 != 0 ||
    (if a.cls = 0 then decide (0x80 ≤ a.off)
     else if a.cls = 1 then decide (0x100 ≤ a.off) || a.el != 0 || a.ctx != 0
     else (a.cls == 2 && decide (0x80 ≤ a.off)) || a.core != 0 || a.el != 0 || a.ctx != 0)

/-- Whether an address names a fused-off core. -/
def cfgFused (s : State) (a : CfgAddr) : Bool := decide (a.cls < 2) && isFused s a.pkgCore

/-- Whether R337 keeps steward-mode core `n` from an address. -/
def cfgForbidden (n : Nat) (a : CfgAddr) : Bool :=
  if n = 20 then false
  else if n < 16 then a.cluster != n || a.cls == 3
  else a.die != n - 16

/-- A status word. -/
def cfgStatus (cause sub : Nat) (detail : W64) : W64 := word (bits detail 31 0 * 2 ^ 32 + sub * 2 ^ 8 + cause)

/-- What an instruction of steward-mode core `n` that names a configuration address does: the traps CFGADDR and PRIV, or `k`. Bits of
the address in `ignored` play no part. -/
def withCfgAddr (s : State) (n : Nat) (q : W64) (insn : W64) (classes : List Nat) (k : CfgAddr → State) (ignored : W64 := 0) : State :=
  let a := cfgFields (q &&& ~~~ignored)
  if cfgMalformed (q &&& ~~~ignored) then raise s Cause.cfgaddr q
  else if cfgForbidden n a then raise s Cause.priv insn
  else if cfgFused s a || !classes.contains a.cls then raise s Cause.cfgaddr q
  else k a

/-- OFF, EL and CTX of a configuration address, which CFGCOM ignores (R355). -/
def cfgPlace : W64 := 0x7CFFF

/-- Ends an instruction with a value in D. -/
def cfgDone (s : State) (o : Ops) (n : Nat) (v : W64) : State := finish s o ((Agent.stew n (s.stew n)).setScalar o.d v.toNat)

/-! ## Keys of staged words (R355) -/

/-- The key of a word: its address with die, cluster and core 0. -/
def cfgKey (a : CfgAddr) : Nat := a.cls * 2 ^ 26 + a.el * 2 ^ 17 + a.ctx * 2 ^ 14 + a.off
/-- Class of a key. -/
def keyClass (k : Nat) : Nat := k / 2 ^ 26 % 4
/-- Element of a key. -/
def keyEl (k : Nat) : Nat := k / 2 ^ 17 % 4
/-- Context of a key. -/
def keyCtx (k : Nat) : Nat := k / 2 ^ 14 % 8
/-- Offset of a key. -/
def keyOff (k : Nat) : Nat := k % 2 ^ 12
/-- Port and slot of a window word's key. -/
def keySlot (k : Nat) : Nat := k / 2 ^ 32
/-- Whether a key names a word that a core holds once for all its contexts (R58, R209). -/
def keyShared (k : Nat) : Bool := keyClass k == 0 && ((decide (0x58 ≤ keyOff k) && decide (keyOff k ≤ 0x5B)) || keyOff k == 0x5F)
/-- What a key names. -/
def keyWord (k : Nat) : Nat := if keyShared k then keySlot k * 2 ^ 32 + keyOff k else k

/-- The staged value of a word of an open transaction. -/
def stagedAt (t : Txn) (k : Nat) : Option W64 := (t.staged.find? fun (j, _) => keyWord j == keyWord k).map Prod.snd
/-- WSEL as a staged write finds it. -/
def stagedWsel (c : Core) : W64 := (stagedAt c.txn 0x58).getD c.wsel
/-- The key of a word as it is staged now: a window word goes to the window that WSEL selects (R209). -/
def stageKey (c : Core) (a : CfgAddr) : Nat :=
  if a.cls = 0 ∧ 0x59 ≤ a.off ∧ a.off ≤ 0x5B then bits (stagedWsel c) 4 0 * 2 ^ 32 + cfgKey a else cfgKey a

/-- The live word of a core by its key. -/
def Core.keyValue (c : Core) (k : Nat) : W64 :=
  let off := keyOff k
  if keyClass k = 1 then (if off = 0x30 then 0 else Tab.get 0 c.cfg1 off)
  else if off = 0x59 then Tab.get 0 c.wva (keySlot k)
  else if off = 0x5A then Tab.get 0 c.wlen (keySlot k)
  else if off = 0x5B then Tab.get 0 c.wpa (keySlot k)
  else c.ctxWord (keyEl k) (keyCtx k) off

/-- Writes a word of a core by its key; the array release word holds nothing. -/
def Core.setKey (c : Core) (k : Nat) (v : W64) : Core :=
  let off := keyOff k
  if keyClass k = 1 then (if off = 0x30 then c else { c with cfg1 := Tab.set 0 c.cfg1 off v })
  else if off = 0x59 then { c with wva := Tab.set 0 c.wva (keySlot k) v }
  else if off = 0x5A then { c with wlen := Tab.set 0 c.wlen (keySlot k) v }
  else if off = 0x5B then { c with wpa := Tab.set 0 c.wpa (keySlot k) v }
  else c.setCtxWord (keyEl k) (keyCtx k) off v

/-- A word of a core as a write sees it: the staged one for a staged write, where there is one, else the live one. -/
def Core.seen (c : Core) (stage : Bool) (k : Nat) : W64 := if stage then (stagedAt c.txn k).getD (c.keyValue k) else c.keyValue k

/-! ## The rules of the words (R354) -/

/-- The context word (R54). -/
def ctxWordBad (v : W64) : Bool :=
  decide (4 < bits v 58 56) || (decide (0x10 ≤ bits v 36 32) && decide (bits v 36 32 ≤ 0x1E)) || decide (16 < bits v 31 27) ||
    bits v 21 0 != 0 || decide (16 < bits v 26 23 + bits v 31 27) || (bits v 55 53 == 7 && bits v 36 32 != 0x1F)

/-- The entry word (R55). -/
def entryWordBad (v : W64) : Bool :=
  let arity := bits v 57 55
  let kind := bits v 54 53
  bits v 21 0 != 0 || decide (64 < bits v 40 34) ||
    (bitOf v 63 && !(if kind = 0 then arity != 0 else if kind = 1 then arity == 7 else if kind = 2 then arity == 0 else arity == 4))

/-- The route word (R57). -/
def routeWordBad (v : W64) : Bool :=
  let kind := bits v 63 60
  decide (8 < kind) || bits v 59 58 == 3 || decide (4 < bits v 57 55) || bits v 8 0 != 0 || (kind == 0 && v != 0) ||
    (decide (kind < 6) && bits v 16 9 != 0) || (kind == 8 && (bits v 42 22 != 0 || decide (63 < bits v 16 9)))

/-- The bound of a space for a range (R223): the context's own scratch for the cellar. -/
def spaceBound (space quota : Nat) : Nat :=
  if space = 0 then 2 ^ 19 else if space = 1 then 2 ^ 26 else if space = 2 then quota * 2 ^ 26 else 2 ^ 56

/-- The declared-range word (R226), beside a context word. -/
def rangeWordBad (v ctx : W64) : Bool :=
  let space := bits v 60 58
  decide (3 < space) || bits v 57 56 != 0 || (!bitOf v 63 && v != 0) ||
    (bitOf v 63 && decide (spaceBound space (bits ctx 31 27) < bits v 55 8 * 256 + (bits v 2 0 + 1) * 2 ^ (bits v 7 3 + 8)))

/-- WVA, beside the WLEN of its window (R209). -/
def wvaBad (v wlen : W64) : Bool :=
  bits v 59 56 != 0 || bits v 7 0 != 0 || (bitOf v 63 && (bits wlen 47 40 == 0 || bits wlen 39 8 == 0))

/-- The channel entry (R79). -/
def channelBad (v : W64) : Bool :=
  decide (9 < bits v 62 59) || bits v 56 48 != 0 || bits v 39 0 != 0 || (!bitOf v 58 && bits v 47 40 != 0) || (!bitOf v 63 && v != 0)

/-- The control word of a chain, beside the COUNTs of its levels (R200). -/
def chainBad (v : W64) (counts : List Nat) : Bool :=
  let levels := bits v 49 48
  decide (15 < bits v 54 50) || bits v 47 0 != 0 || (!bitOf v 63 && v != 0) ||
    (bitOf v 63 && (levels == 0 || (counts.take levels).any (fun n => n == 0) || decide (4096 < (counts.take levels).foldl (· * ·) 1)))

/-- The fork word, beside the core's other fork words (R310). -/
def forkBad (v : W64) (others : List W64) : Bool :=
  bits v 39 0 != 0 || (!bitOf v 63 && v != 0) || decide (bits v 50 48 < bits v 53 51) || decide (bits v 43 40 < bits v 47 44) ||
    (bitOf v 63 && others.any fun w => bitOf w 63 && bits w 62 54 == bits v 62 54)

/-- The rule of a word of class 0: the cause and the sub-cause with which it is refused. -/
def class0Rule (c : Core) (stage : Bool) (a : CfgAddr) (v : W64) : Option (Nat × Nat) :=
  let off := a.off
  let bad := fun (b : Bool) => if b then some (Cause.badfield, 0) else none
  if off = 0 then bad (ctxWordBad v)
  else if off ≤ 8 then bad (entryWordBad v)
  else if off < 0x10 then bad (v != 0)
  else if off < 0x30 then match decode .firing v with
    | .ok _ => none
    | .error e => some (Cause.illop, subCode e)
  else if off < 0x40 then bad (routeWordBad v)
  else if off < 0x48 then none
  else if off < 0x50 then bad ((!bitOf v 0 && v != 0) || !tsWf (setBits v 0 0 0))
  else if off < 0x58 then bad (rangeWordBad v (c.seen stage (cfgKey { a with off := 0 })))
  else if off = 0x58 then bad (bits v 63 5 != 0)
  else if off = 0x59 then
    let slot := if stage then bits (stagedWsel c) 4 0 else bits c.wsel 4 0
    bad (wvaBad v (c.seen stage (slot * 2 ^ 32 + 0x5A)))
  else if off = 0x5A then bad (bits v 7 0 != 0)
  else if off = 0x5B then bad (bits v 63 52 != 0 || bits v 7 0 != 0)
  else if off = 0x5F then bad (bits v 63 32 != 0)
  else if 0x60 ≤ off ∧ off < 0x68 then none
  else if 0x68 ≤ off ∧ off < 0x70 then bad (bits v 63 11 != 0 || bits v 7 6 == 3 || bitOf v 5)
  else bad (v != 0)

/-- The rule of a word of class 1: whether it is refused with BADFIELD. -/
def class1Bad (c : Core) (stage : Bool) (off : Nat) (v : W64) : Bool :=
  let at1 := fun (o : Nat) => c.seen stage (2 ^ 26 + o)
  if off < 0x20 then channelBad v
  else if off < 0x30 then
    let ch := (off - 0x20) / 4
    (c.chains.getD ch none).isSome ||
      (if off % 4 = 0 then chainBad v ((List.range 3).map fun j => bits (at1 (off + 1 + j)) 31 20) else bits v 19 0 != 0)
  else if off = 0x30 then v != 1
  else if off = 0x31 then decide (256 ≤ v.toNat)
  else if 0x40 ≤ off ∧ off < 0x50 then
    forkBad v (((List.range 16).filter fun i => 0x40 + i != off).map fun i => at1 (0x40 + i))
  else v != 0

/-- A waiting-table word (R316). -/
def class2Bad (s : State) (cl off : Nat) (v : W64) : Bool :=
  off % 2 == 0 && (bits v 49 48 != 0 || (!bitOf v 63 && v != 0) || (bitOf v 63 && bits v 31 20 == 0) ||
    (bitOf v 60 && !bitOf (Tab.get 0 (s.cluster cl).wta (bits v 59 54)) 63))

/-- The rule that governs a word (R354), for a write by steward-mode core `n`. -/
def wordRule (s : State) (n : Nat) (stage : Bool) (a : CfgAddr) (v : W64) : Option (Nat × Nat) :=
  let bad := fun (b : Bool) => if b then some (Cause.badfield, 0) else none
  if a.cls = 0 then class0Rule (s.core a.pkgCore) stage a v
  else if a.cls = 1 then bad (class1Bad (s.core a.pkgCore) stage a.off v)
  else if a.cls = 2 then bad (class2Bad s a.cluster a.off v)
  else bad (dieWordBad s a.die a.off v (n == 20))

/-! ## CFGW and CFGR (R353, R354) -/

/-- The live value of a configuration word. -/
def cfgLive (s : State) (a : CfgAddr) : W64 :=
  if a.cls = 0 then (s.core a.pkgCore).ctxWord a.el a.ctx a.off
  else if a.cls = 1 then (s.core a.pkgCore).keyValue (cfgKey a)
  else if a.cls = 2 then Tab.get 0 (if a.off % 2 = 0 then (s.cluster a.cluster).wta else (s.cluster a.cluster).wtb) (a.off / 2)
  else dieWord s a.die a.off

/-- What CFGR reads. -/
def cfgRead (s : State) (a : CfgAddr) (stage : Bool) : W64 :=
  let c := s.core a.pkgCore
  if stage && decide (a.cls < 2) && c.txn.state == .opened then (stagedAt c.txn (stageKey c a)).getD (cfgLive s a) else cfgLive s a

/-- The outcome of a configuration write: refused with a status, waiting, or accepted. -/
inductive CfgWritten
  | refused (cause sub : Nat)
  | wait
  | ok (s : State)

/-- A staged write that the word's rule accepts (R353). -/
def stageWord (s : State) (n : Nat) (a : CfgAddr) (v : W64) : CfgWritten :=
  if 2 ≤ a.cls then .refused Cause.cfgstate 0
  else
    let c := s.core a.pkgCore
    let t := c.txn
    let key := stageKey c a
    let live := a.cls == 0 && bitOf (c.ctxWord a.el a.ctx 0) 63
    if t.state = .committed ∨ (t.state = .opened ∧ t.owner ≠ n) then .refused Cause.cfgstate 0
    else if live && !(a.off == 0 && !bitOf v 63) then .refused Cause.cfgstate 0
    else if (stagedAt t key).isNone && decide (1024 ≤ t.staged.length) then .refused Cause.cfgfull 0
    else
      let staged := (t.staged.filter fun (k, _) => keyWord k != keyWord key) ++ [(key, v)]
      .ok (s.setCore a.pkgCore { c with txn := { t with state := .opened, owner := n, staged := staged } })

/-- New words in instruction slots end the latent errors of those slots (R52; log 14). A slot is a context, as core × 32 + element × 8 + context,
and a number. -/
def mendSlots (s : State) (slots : List (Nat × Nat)) : State :=
  { s with soft := s.soft.filter fun e => match e with
      | .slot k n _ => !slots.contains (k, n)
      | _ => true }

/-- The instruction slots of a core that some keys name. -/
def keySlots (core : Nat) (keys : List Nat) : List (Nat × Nat) := keys.filterMap fun k =>
  if keyClass k = 0 ∧ 0x10 ≤ keyOff k ∧ keyOff k < 0x30 then some (core * 32 + keyEl k * 8 + keyCtx k, keyOff k - 0x10) else none

/-- PLACEREQ for an entry of the waiting table (R318). -/
def sendPlacereq (s : State) (cl n : Nat) : State :=
  let s := unitRecord s cl Cause.placereq 0 (word n) 0 0 0 0
  s.setCluster cl { s.cluster cl with placed := some n }

/-- A write of a waiting-table word: the block scheduler may decide anew, and the ingress windows drop what they hold for an image that is
registered no longer (R317); an entry that goes back from LOADING to WAITING sends PLACEREQ (R318). -/
def writeWaiting (s : State) (cl off : Nat) (v : W64) : State :=
  let x := s.cluster cl
  let n := off / 2
  if off % 2 = 1 then s.setCluster cl { x with wtb := Tab.set 0 x.wtb n v }
  else
    let old := Tab.get 0 x.wta n
    let gone := bitOf old 63 && !(bitOf v 63 && bits v 47 32 == bits old 47 32)
    let kept := x.keptEos.filter fun k => !(gone && k.1 == bits old 47 32)
    let s := dropUnregistered (s.setCluster cl { x with wta := Tab.set 0 x.wta n v, placed := none, keptEos := kept }) cl
    if bitOf old 63 && bitOf v 63 && bits old 62 61 == 1 && bits v 62 61 == 0 then sendPlacereq s cl n else s

/-- A live write that the word's rule accepts (R353): to a context between its firings (R104). -/
def liveWord (s : State) (a : CfgAddr) (v : W64) : CfgWritten :=
  if a.cls = 0 then
    let c := s.core a.pkgCore
    if !bitOf (c.ctxWord a.el a.ctx 0) 63 ||
        !((decide (0x10 ≤ a.off) && decide (a.off < 0x48)) || (decide (0x50 ≤ a.off) && decide (a.off < 0x58))) then
      .refused Cause.cfgstate 0
    else if (s.elem a.elem).firing.any fun f => f.frame.ctx == a.ctx then .wait
    else .ok (mendSlots (s.setCore a.pkgCore (c.setCtxWord a.el a.ctx a.off v)) (keySlots a.pkgCore [cfgKey a]))
  else if a.cls = 1 then
    let c := s.core a.pkgCore
    if c.txn.state = .opened ∧ (stagedAt c.txn (cfgKey a)).isSome then .refused Cause.cfgstate 0
    else if a.off = 0x30 then match releaseArray s a.pkgCore with
      | some s => .ok s
      | none => .wait
    else .ok (s.setCore a.pkgCore (c.setKey (cfgKey a) v))
  else if a.cls = 2 then .ok (writeWaiting s a.cluster a.off v)
  else if a.off = 0 ∧ splitHolds s a.die v then .wait
  else match writeDieWord s a.die a.off v with
    | .ok s => .ok s
    | .error c => .refused c 0

/-- A configuration write by steward-mode core `n`. -/
def cfgWrite (s : State) (n : Nat) (stage : Bool) (a : CfgAddr) (v : W64) : CfgWritten :=
  match wordRule s n stage a v with
  | some (c, sub) => .refused c sub
  | none => if stage then stageWord s n a v else liveWord s a v

/-- CFGW. -/
def execCfgw (o : Ops) (s : State) : Host.Outcome State Fault Refusal :=
  withStew s fun n st =>
    let x := Agent.stew n st
    let q := word (srcWord s x o o.a)
    withCfgAddr s n q (encodeFields 0xF4 o) [0, 1, 2, 3] fun a =>
      match cfgWrite s n (xBit o.x 0) a (word (srcWord s x o o.b)) with
      | .refused c sub => cfgDone s o n (cfgStatus c sub q)
      | .wait => s
      | .ok s => cfgDone s o n 0

/-- CFGR. -/
def execCfgr (o : Ops) (s : State) : Host.Outcome State Fault Refusal :=
  withStew s fun n st =>
    let q := word (srcWord s (.stew n st) o o.a)
    withCfgAddr s n q (encodeFields 0xF5 o) [0, 1, 2, 3] fun a => cfgDone s o n (cfgRead s a (xBit o.x 0))

/-- LD (R234); in the configuration space it acts as CFGR (R352). -/
def execLd (o : Ops) (s : State) : Host.Outcome State Fault Refusal :=
  withAgent s fun x => match x with
    | .firing e f => loadFiring o s e f
    | .stew n st =>
      if memSpace o = 5 then
        let ea := memEa s x o
        if ea % 8 != 0 then raise s Cause.misalign (word ea)
        else withCfgAddr s n (word (ea / 8)) (encodeFields 0xA0 o) [0, 1, 2, 3] fun a => cfgDone s o n (cfgRead s a false)
      else loadStew o s n st

/-- ST (R234); in the configuration space it acts as a live CFGW, and a status other than 0 traps with its cause (R352). -/
def execSt (o : Ops) (s : State) : Host.Outcome State Fault Refusal :=
  withAgent s fun x => match x with
    | .firing e f => storeFiring o s e f
    | .stew n st =>
      if memSpace o = 5 then
        let ea := memEa s x o
        if ea % 8 != 0 then raise s Cause.misalign (word ea)
        else withCfgAddr s n (word (ea / 8)) (encodeFields 0xA1 o) [0, 1, 2, 3] fun a =>
          match cfgWrite s n false a (word (srcWord s x o o.b)) with
          | .refused c sub => stewTrap s n c sub (word (ea / 8)) st.pc
          | .wait => s
          | .ok s => finish s o (.stew n (s.stew n))
      else storeStew o s n st

/-! ## The checks of CFGCOM (R355) -/

/-- A staged value with its placement fields 0. -/
def withoutPlacement (k : Nat) (v : W64) : W64 :=
  let off := keyOff k
  if keyClass k = 1 then (if 0x40 ≤ off ∧ off < 0x50 then setBits v 53 40 0 else v)
  else if off = 0 then setBits v 26 23 0
  else if off ≤ 8 then setBits v 33 22 0
  else if 0x30 ≤ off ∧ off < 0x40 then setBits v 42 32 0
  else if 0x50 ≤ off ∧ off < 0x58 then (if bits v 60 58 = 1 then setBits v 25 19 0 else v)
  else v

/-- The CRC of the staged words. -/
def stagedCrc (t : Txn) : Nat :=
  (t.staged.filter fun (k, _) => !(keyClass k == 0 && keyOff k == 0x5F)).foldl (fun c (k, v) =>
    c ^^^ crcBytes 8 (crcBytes 8 0xFFFFFFFF k) (withoutPlacement k v).toNat) 0

/-- The contexts, as element × 8 + context, whose context word is staged with V as given, ascending. -/
def stagedCtxs (t : Txn) (valid : Bool) : List Nat := (List.range 32).filter fun k =>
  match stagedAt t (k / 8 * 2 ^ 17 + k % 8 * 2 ^ 14) with
  | some w => bitOf w 63 == valid
  | none => false

/-- The configuration address of a word of a context. -/
def ctxAddr (core k off : Nat) : W64 := word (core / 128 * 2 ^ 28 + core % 128 * 2 ^ 19 + k / 8 * 2 ^ 17 + k % 8 * 2 ^ 14 + off)

/-- The first valid entry of a context whose run fails R55. -/
def runFails (c : Core) (k : Nat) : Option Nat := (List.range 8).find? fun i =>
  let at0 := fun (off : Nat) => c.seen true (k / 8 * 2 ^ 17 + k % 8 * 2 ^ 14 + off)
  let e := at0 (1 + i)
  bitOf e 63 && (List.range 32).all fun j => decide (j < bits e 62 58) || !bitOf (at0 (0x10 + j)) 55

/-- The first valid initial token of a context that fails R173. -/
def tokenFails (c : Core) (k : Nat) : Option Nat := (List.range 8).find? fun i =>
  let at0 := fun (off : Nat) => c.seen true (k / 8 * 2 ^ 17 + k % 8 * 2 ^ 14 + off)
  let its := at0 (0x48 + i)
  let d := at0 (0x68 + i)
  let e := at0 (1 + bits d 10 8)
  bitOf its 0 && (!bitOf e 63 || decide (1 < bits e 54 53) || !bitOf e (57 - bits d 7 6) || (bits its 63 62 == 0) != (bits e 40 34 == 0))

/-- Whether a used lay-by record of an element belongs to a context. -/
def hasRecord (s : State) (image e ctx : Nat) : Bool := (List.range 128).any fun k =>
  let pa := laybyPa s image e k
  recordUsed s pa && bits (word (s.readNum pa 8)) 16 14 == ctx

/-- The requests of a context that are in flight, wherever they are. -/
def ctxRequests (s : State) (e ctx : Nat) : Bool :=
  let mine := fun (r : Req) => r.elem == e && r.ctx == ctx
  let c := s.core (coreOf e)
  (c.ports.any fun p => p.reqs.any mine) || c.deferred.any mine || c.ordts.any mine || s.pkg.outstanding.any mine ||
    (s.cores.any fun (_, x) => x.deferred.any mine) || (s.dies.any fun d => d.deferred.any mine) ||
    (s.pkg.engines.any fun (_, x) => (x.queue.any fun q => mine q.req) || x.waits.any mine) ||
    (s.pkg.musters.any fun (_, m) => m.queue.any mine) || s.pkg.collectives.any fun x => x.given.any fun (_, r) => mine r

/-- Whether some chain of a core has an activation for a context, or its emitter an emission. -/
def ctxEmits (s : State) (e ctx : Nat) : Bool :=
  let c := s.core (coreOf e)
  ((List.range 4).any fun ch =>
    let w := Tab.get 0 c.cfg1 (0x20 + 4 * ch)
    (c.chains.getD ch none).isSome && bits w 62 61 == e % 4 && bits w 60 58 == ctx) ||
  c.emission.any fun m => m.elem == e && m.ctx == ctx

/-- Whether the home aggregator of a region reports nothing at a context's locations; another device's report is open (R320; log
9). -/
def homeQuiet (s : State) (image e ctx : Nat) : Bool :=
  let h := s.home image
  let here := fun (loc : Nat) => locDev loc == s.devId && loc % 2 ^ 19 / 8 == e * 8 + ctx
  if homedAway s image then bitOf (Config.openWord s.stepNo) 0
  else !(h.counts.any fun k => here k.loc && k.n != 0) && !(h.pending.any fun p => here p.loc)

/-- Conditions 2 to 4 of R320 for a context. -/
def mayRetire (s : State) (e ctx : Nat) : Bool :=
  let x := s.elem e
  let c := s.core (coreOf e)
  let image := ctxImage s e ctx
  !(x.frames.any fun f => f.ctx == ctx) && !(x.firing.any fun f => f.frame.ctx == ctx) && !hasRecord s image e ctx &&
    !(x.releases.any fun r => r.ctx == ctx) && !ctxEmits s e ctx && !(c.watches.any fun w => w.elem == e && w.ctx == ctx) &&
    !ctxRequests s e ctx && homeQuiet s image e ctx

/-- The first check of a commit that fails, as a status word. -/
def commitCheck (s : State) (core : Nat) : Option W64 :=
  let c := s.core core
  let crc := stagedCrc c.txn
  if !((stagedAt c.txn 0x5F).any fun w => bits w 31 0 == crc) then some (cfgStatus Cause.crcfail 0 (word crc))
  else
    let made := stagedCtxs c.txn true
    match made.findSome? fun k => (runFails c k).map fun i => ctxAddr core k (1 + i) with
    | some d => some (cfgStatus Cause.runcheck 0 d)
    | none => match made.findSome? fun k => (tokenFails c k).map fun i => ctxAddr core k (0x48 + i) with
      | some d => some (cfgStatus Cause.runcheck 0 d)
      | none =>
        ((stagedCtxs c.txn false).find? fun k =>
          bitOf (c.ctxWord (k / 8) (k % 8) 0) 63 && !mayRetire s (core * 4 + k / 8) (k % 8)).map fun k =>
            cfgStatus Cause.cfgstate 0 (ctxAddr core k 0)

/-! ## Commit, seal, abort (R172, R355, R356) -/

/-- Initial token i of a context, not yet counted (R173). -/
def initialToken (s : State) (e ctx i : Nat) : Option Token :=
  let c := s.core (coreOf e)
  let at0 := c.ctxWord (e % 4) ctx
  let its := at0 (0x48 + i)
  let d := at0 (0x68 + i)
  let loc := locOf s.devId (coreOf e) (e % 4) ctx (bits d 10 8)
  if bitOf its 0 then
    some { ts := setBits its 0 0 0, h1 := word (loc * 2 ^ 33 + bits d 7 6 * 2 ^ 31 + bits d 4 0 * 2 ^ 26), h2 := 0,
           payload := BitVec.ofNat 2048 (at0 (0x60 + i)).toNat, region := ctxImage s e ctx }
  else none

/-- Counts and places the initial tokens of a context that a commit made valid (R172); one that finds no place waits in the network. -/
def placeInitial (s : State) (e ctx : Nat) : State :=
  (List.range 8).foldl (fun s i => match initialToken s e ctx i with
    | none => s
    | some t =>
      let (s, t) := countToken s (clusterOf (coreOf e)) (tokLoc t) t
      (deliver s t).getD { s with net := s.net ++ [{ tok := t, src := none, net := 2 }] }) s

/-- Inserts a number into an ascending list without repeats. -/
def insertAsc (x : Nat) : List Nat → List Nat
  | [] => [x]
  | y :: rest => if x < y then x :: y :: rest else if x = y then y :: rest else y :: insertAsc x rest

/-- Whether a region keeps its placement though none of its contexts is valid: it is evicted, or being reloaded (R324). -/
def keepsPlace (s : State) (image : Nat) : Bool := (List.range 16).any fun cl =>
  let c := s.cluster cl
  c.reloading.contains image || c.wta.any fun (_, w) => bitOf w 63 && bits w 62 61 == 3 && bits w 47 32 == image

/-- A commit is about to make contexts valid, given with their images: they join their region's placement, which starts afresh where the
region has none. -/
def notePlaces (s : State) (l : List (Nat × Nat)) : State :=
  let fresh := fun image => (regionCtxs s image).isEmpty && !keepsPlace s image
  let old := s.places.filter fun (i, _) => !((l.any fun (_, j) => i == j) && fresh i)
  { s with places := l.foldl (fun t (k, i) => Tab.set [] t i (insertAsc k (Tab.get [] t i))) old }

/-- The contexts of a core, as element × 8 + context, that are valid. -/
def validCtxs (c : Core) : List Nat := (List.range 32).filter fun k => bitOf (c.ctxWord (k / 8) (k % 8) 0) 63

/-- The sides on which a context of a core that a reload makes valid again has consumed a token with EOS = 1 before its eviction (R320, R324). -/
def reloadedEos (s : State) (core : Nat) (made : List Nat) : List Nat :=
  (s.cluster (clusterOf core)).keptEos.filterMap fun (image, k, x) =>
    if k = core ∧ made.contains (x / 32) ∧ ctxImage s (core * 4 + x / 256) (x / 32 % 8) = image then some x else none

/-- The words of a commit that has passed its checks: every staged word becomes live in one step, and the contexts that it makes valid. -/
def commitWords (s : State) (core : Nat) : State × List Nat :=
  let c := s.core core
  let t := c.txn
  let undo := t.staged.map fun (k, _) => (k, c.keyValue k)
  let retired := (stagedCtxs t false).filter (validCtxs c).contains
  let made := (stagedCtxs t true).filter fun k => !(validCtxs c).contains k
  let s := retired.foldl (fun s k => invalidateContext s (core * 4 + k / 8) (k % 8)) s
  let s := notePlaces s (made.map fun k => (core * 32 + k, bits ((stagedAt t (k / 8 * 2 ^ 17 + k % 8 * 2 ^ 14)).getD 0) 52 37))
  let c := s.core core
  let c := t.staged.foldl (fun c (k, v) => c.setKey k v) c
  let seen := (c.eosSeen.filter fun x => !made.contains (x / 32)) ++ reloadedEos (s.setCore core c) core made
  let s := s.setCore core { c with
    heldCtx := c.heldCtx ++ made, eosSeen := seen,
    txn := { t with state := .committed, staged := [], undo := undo, made := made, retired := retired } }
  (allocSlots (mendSlots s (keySlots core (t.staged.map Prod.fst))) (clusterOf core), made)

/-- A commit that has passed its checks: its words, and the initial tokens. It waits for the end of every firing of the core (R355), for the
claim that a staged array release word waits for (R277), and for room for the initial tokens' +1 entries (R172, R189; log 103). -/
def applyCommit (s : State) (core : Nat) : Option State :=
  let t := (s.core core).txn
  if (elemsOf core).any fun e => (s.elem e).firing.isSome then none
  else
    let (s, made) := commitWords s core
    let ctxs := made.map fun k => (core * 4 + k / 8, k % 8)
    let stamps := ctxs.flatMap fun (e, ctx) => (List.range 8).filterMap fun i => (initialToken s e ctx i).map tokStamp
    if !unitRoom s (clusterOf core) stamps then none
    else (if (stagedAt t (2 ^ 26 + 0x30)).isSome then releaseArray s core else some s).map fun s =>
      ctxs.foldl (fun s (e, ctx) => placeInitial s e ctx) s

/-- The seal of a committed transaction: every HELD context gets its PRI, and the transaction is IDLE. -/
def sealTxn (s : State) (core : Nat) : State := s.setCore core { s.core core with heldCtx := [], txn := Txn.init }

/-- CFGCOM, on the core that its address names. -/
def cfgCommit (o : Ops) (s : State) (op : Nat) (doSeal : Bool) : Host.Outcome State Fault Refusal :=
  withStew s fun n st =>
    let q := word (srcWord s (.stew n st) o o.a)
    withCfgAddr s n q (encodeFields op o) [0, 1] (ignored := cfgPlace) fun a =>
      let t := (s.core a.pkgCore).txn
      if t.state = .idle ∨ (t.state = .committed ∧ !doSeal) then cfgDone s o n (cfgStatus Cause.cfgstate 0 0)
      else if t.owner ≠ n then cfgDone s o n (cfgStatus Cause.cfgstate 0 q)
      else match (if t.state = .opened then commitCheck s a.pkgCore else none) with
        | some st => cfgDone s o n st
        | none =>
          match (if t.state = .opened then applyCommit s a.pkgCore else some s) with
          | none => s
          | some s => cfgDone (if doSeal then sealTxn s a.pkgCore else s) o n 0

/-- CFGCOM without SEAL. -/
def execCfgcom (o : Ops) (s : State) : Host.Outcome State Fault Refusal := cfgCommit o s 0xF6 false
/-- CFGCOM with SEAL. -/
def execCfgcomSeal (o : Ops) (s : State) : Host.Outcome State Fault Refusal := cfgCommit o s 0xF6 true

/-- Whether a token is an initial token of its context, or a start token. -/
def isInitial (s : State) (e ctx : Nat) (t : Token) : Bool :=
  bits (entryWord s e ctx (locEnt (tokLoc t))) 54 53 == 3 || (List.range 8).any fun i =>
    (initialToken s e ctx i).any fun u => u.ts == t.ts && u.h1 == t.h1 && u.payload == t.payload

/-- Whether a context that a commit made valid holds anything but its initial and start tokens. -/
def otherThanInitial (s : State) (e ctx : Nat) : Bool :=
  let x := s.elem e
  let c := s.core (coreOf e)
  (x.frames.any fun f => f.ctx == ctx && (f.state == .parkwait || f.tokens.any fun t => !isInitial s e ctx t)) ||
    (x.firing.any fun f => f.frame.ctx == ctx) || hasRecord s (ctxImage s e ctx) e ctx || ctxEmits s e ctx ||
    c.watches.any fun w => w.elem == e && w.ctx == ctx

/-- Withdraws the initial and start tokens of a context, those still in the network too, recording -1 for each (R172); the tokens of
an entry whose tag failed stay counted for ever (R89). -/
def withdrawInitial (s : State) (e ctx : Nat) : State :=
  let x := s.elem e
  let frames := x.frames.filter fun f => f.ctx == ctx && f.state != .lost
  let waits := fun (f : Flight) =>
    let loc := tokLoc f.tok
    locDev loc == s.devId && loc % 2 ^ 19 / 8 == e * 8 + ctx && isInitial s e ctx f.tok
  let toks := frames.flatMap Frame.tokens ++ (s.net.filter waits).map Flight.tok
  let s := { s.setElem e { x with frames := x.frames.filter fun f => f.ctx != ctx || f.state == .lost } with net := s.net.filter fun f => !waits f }
  toks.foldl (fun s t => recordDec s (clusterOf (coreOf e)) (tokDec t) false) s

/-- The abort of a committed transaction. -/
def abortCommit (s : State) (core : Nat) : State :=
  let t := (s.core core).txn
  let s := t.made.foldl (fun s k => withdrawInitial s (core * 4 + k / 8) (k % 8)) s
  let s := t.made.foldl (fun s k => invalidateContext s (core * 4 + k / 8) (k % 8)) s
  let c := t.undo.foldl (fun c (k, v) => c.setKey k v) (s.core core)
  allocSlots (mendSlots (s.setCore core { c with txn := Txn.init }) (keySlots core (t.undo.map Prod.fst))) (clusterOf core)

/-- CFGABT. -/
def execCfgabt (o : Ops) (s : State) : Host.Outcome State Fault Refusal :=
  withStew s fun n st =>
    let q := word (srcWord s (.stew n st) o o.a)
    withCfgAddr s n q (encodeFields 0xF7 o) [0, 1] fun a =>
      let core := a.pkgCore
      let c := s.core core
      let t := c.txn
      if t.state = .idle then cfgDone s o n (cfgStatus Cause.cfgstate 0 0)
      else if t.owner ≠ n then cfgDone s o n (cfgStatus Cause.cfgstate 0 q)
      else if t.state = .opened then cfgDone (s.setCore core { c with txn := Txn.init }) o n 0
      else if t.made.any fun k => otherThanInitial s (core * 4 + k / 8) (k % 8) then cfgDone s o n (cfgStatus Cause.cfgstate 0 q)
      else cfgDone (abortCommit s core) o n 0

end Sys2Proof.Machine
end

