-- ==== Sys2Proof/Machine/Compare.lean ====
section
/-! DEFINITION. Integer compares, SEL, MOV, MOVI and MOVHI (R135 to R138). -/

namespace Sys2Proof.Machine

/-- An integer compare (R135). -/
def intCompare (o : Ops) (s : State) (rel : Ty → Nat → Nat → Bool) : Host.Outcome State Fault Refusal :=
  elementwise o s (.typed o.ty) (.typed o.ty) .whole compareWidth fun a b _ => condition (rel o.ty a b)

/-- CEQ (R135). -/
def execCeq (o : Ops) (s : State) : Host.Outcome State Fault Refusal := intCompare o s relEq
/-- CNE (R135). -/
def execCne (o : Ops) (s : State) : Host.Outcome State Fault Refusal := intCompare o s relNe
/-- CLTS (R135). -/
def execClts (o : Ops) (s : State) : Host.Outcome State Fault Refusal := intCompare o s relLtS
/-- CLES (R135). -/
def execCles (o : Ops) (s : State) : Host.Outcome State Fault Refusal := intCompare o s relLeS
/-- CLTU (R135). -/
def execCltu (o : Ops) (s : State) : Host.Outcome State Fault Refusal := intCompare o s relLtU
/-- CLEU (R135). -/
def execCleu (o : Ops) (s : State) : Host.Outcome State Fault Refusal := intCompare o s relLeU
/-- SEL (R136): a where bit 0 of c is 1, b otherwise. -/
def execSel (o : Ops) (s : State) : Host.Outcome State Fault Refusal :=
  elementwise o s (.bits o.ty) (.bits o.ty) (.bits o.ty) (Ty.width o.ty) fun a b c => if c % 2 = 1 then a else b
/-- MOV (R137). -/
def execMov (o : Ops) (s : State) : Host.Outcome State Fault Refusal :=
  elementwise o s (.bits o.ty) .whole .whole (Ty.width o.ty) fun a _ _ => a
/-- MOVI (R138). -/
def execMovi (o : Ops) (s : State) : Host.Outcome State Fault Refusal :=
  elementwise o s .whole .whole .whole 64 fun a _ _ => a
/-- MOVHI (R138): X is an unsigned field. -/
def execMovhi (o : Ops) (s : State) : Host.Outcome State Fault Refusal :=
  elementwise o s (.bits .b64) .whole .whole 64 fun a _ _ => low 64 (a * 2 ^ 29) + o.x.toNat

end Sys2Proof.Machine
end

