-- ==== Sys2Proof/Machine/Control.lean ====
section
/-! DEFINITION. The control instructions of a steward-mode core: branches (R345), calls (R346), waits (R347), the injection of a token
(R348, R349), TRAP and ERET (R350), and the events of a steward-mode core's traps and waits (R338, R342, R347). -/

namespace Sys2Proof.Machine

/-! ## Branches and calls (R345, R346) -/

/-- The address `x` words after an address, modulo 2^64. -/
def wordsOn (pc : W64) (x : BitVec 29) : W64 := word (wrapInt 64 (pc.toNat + 8 * signX x))

/-- A branch: taken when a test of the 64-bit values of A and B holds. -/
def branch (o : Ops) (s : State) (taken : W64 → W64 → Bool) : Host.Outcome State Fault Refusal :=
  withStew s fun n st =>
    let x := Agent.stew n st
    s.setStew n { st with
      pc := if taken (word (srcWord s x o o.a)) (word (srcWord s x o o.b)) then wordsOn st.pc o.x else st.pc + 8 }

/-- BR. -/
def execBr (o : Ops) (s : State) : Host.Outcome State Fault Refusal := branch o s fun _ _ => true
/-- BZ. -/
def execBz (o : Ops) (s : State) : Host.Outcome State Fault Refusal := branch o s fun a _ => a == 0
/-- BNZ. -/
def execBnz (o : Ops) (s : State) : Host.Outcome State Fault Refusal := branch o s fun a _ => a != 0
/-- BEQ. -/
def execBeq (o : Ops) (s : State) : Host.Outcome State Fault Refusal := branch o s fun a b => a == b
/-- BNE. -/
def execBne (o : Ops) (s : State) : Host.Outcome State Fault Refusal := branch o s fun a b => a != b
/-- BLT. -/
def execBlt (o : Ops) (s : State) : Host.Outcome State Fault Refusal := branch o s fun a b => decide (sword a < sword b)
/-- BGE. -/
def execBge (o : Ops) (s : State) : Host.Outcome State Fault Refusal := branch o s fun a b => decide (sword b ≤ sword a)
/-- BLTU. -/
def execBltu (o : Ops) (s : State) : Host.Outcome State Fault Refusal := branch o s fun a b => decide (a.toNat < b.toNat)
/-- BGEU. -/
def execBgeu (o : Ops) (s : State) : Host.Outcome State Fault Refusal := branch o s fun a b => decide (b.toNat ≤ a.toNat)

/-- Goes to a target with the address of the next word in D. -/
def goTo (s : State) (n : Nat) (st : Stew) (d : Spec) (target : W64) : State :=
  ((Agent.stew n { st with pc := target }).setScalar d (st.pc + 8).toNat).store s

/-- CALL. -/
def execCall (o : Ops) (s : State) : Host.Outcome State Fault Refusal :=
  withStew s fun n st => goTo s n st o.d (wordsOn st.pc o.x)

/-- A jump to a computed target: MISALIGN, and PC does not change, where it is not 8-aligned. -/
def jump (o : Ops) (s : State) (target : W64 → W64) : Host.Outcome State Fault Refusal :=
  withStew s fun n st =>
    let t := target (word (srcWord s (.stew n st) o o.a))
    if t.toNat % 8 != 0 then raise s Cause.misalign t else goTo s n st o.d t

/-- RET. -/
def execRet (o : Ops) (s : State) : Host.Outcome State Fault Refusal := jump o s fun a => a
/-- JMPR. -/
def execJmpr (o : Ops) (s : State) : Host.Outcome State Fault Refusal := jump o s fun a => wordsOn a o.x

/-! ## Waits (R344, R347) -/

/-- The events EVT of SSTAT, TRAPQ in bit 0, for a steward-mode core; the reeve's queue has no fatal places (R343; log 26). -/
def eventBits (s : State) (n : Nat) : Nat :=
  let c := s.cluster (stewCluster n)
  let st := s.stew n
  ofBool (if n = 20 then !s.pkg.rq.isEmpty else !c.tq.isEmpty) + 2 * ofBool (n != 20 && !c.tf.isEmpty) + 4 * ofBool st.evLoad
    + 8 * ofBool st.evDrained + 16 * ofBool (!st.mbox.isEmpty)

/-- The value with which a wait of a steward-mode core ends, if it ends now. -/
def waitEnds (s : State) (n : Nat) : Wait → Option Nat
  | .cycle t => if t ≤ cycleOf s (stewCluster n) then some (cycleOf s (stewCluster n)) else none
  | .event mask deadline =>
    let v := eventBits s n &&& mask
    if v != 0 || deadline.any (fun t => decide (t ≤ cycleOf s (stewCluster n))) then some v else none
  | .request _ => none

/-- A wait: over at once where it ends now, else the core stalls. -/
def waitFor (o : Ops) (s : State) (n : Nat) (st : Stew) (w : Wait) : State := match waitEnds s n w with
  | some v => finish s o ((Agent.stew n st).setScalar o.d v)
  | none => s.setStew n { st with waiting := some (w, Spec.code o.d) }

/-- WAITT. -/
def execWaitt (o : Ops) (s : State) : Host.Outcome State Fault Refusal :=
  withStew s fun n st => waitFor o s n st (.cycle (srcWord s (.stew n st) o o.a))

/-- SWAIT: B is a deadline unless it is the specifier zero. -/
def execSwait (o : Ops) (s : State) : Host.Outcome State Fault Refusal :=
  withStew s fun n st =>
    let x := Agent.stew n st
    waitFor o s n st
      (.event (low 8 (srcWord s x o o.a)) (if o.b = .zero then none else some (srcWord s x o o.b)))

/-- STEWARD_WAIT_END: a stalled steward-mode core whose event or deadline has come goes on. The wait for an access ends with that
access (R231). -/
def execStewardWaitEnd (s : State) : Host.Outcome State Fault Refusal :=
  let n := s.event.unit
  .next (match (s.stew n).waiting with
    | none => s
    | some (w, _) => match waitEnds s n w with
      | some v => stewDone s n v
      | none => s)

/-! ## Injecting a token (R348, R349) -/

/-- Whether INJ refuses a route word and a timestamp. -/
def injectRefused (s : State) (n : Nat) (rw ts : W64) : Bool :=
  let core := routeCore rw
  let e := core * 4 + bits rw 31 30
  let ctx := bits rw 29 27
  routeKind rw != 1 || routeNet rw != 2 || routeDev s rw != s.devId || (n != 20 && clusterOf core != stewCluster n) ||
    bits rw 16 0 != 0 || tsDepth ts != 0 || bitOf ts 0 || !ctxValid s e ctx ||
    (findSlot s (clusterOf core) (ctxImage s e ctx)).isNone || !bitOf (entryWord s e ctx (bits rw 26 24)) 63

/-- INJ: the steward waits while the frontier unit has no room. The token's timestamp keeps the coordinates that its depth 0 does not have at zero
(R59; log 145). -/
def execInj (o : Ops) (s : State) : Host.Outcome State Fault Refusal :=
  withStew s fun n st =>
    let x := Agent.stew n st
    let rw := word (srcWord s x o o.a)
    let ts := word (srcWord s x o o.b)
    if injectRefused s n rw ts then raise s Cause.injref rw
    else
      let cl := clusterOf (routeCore rw)
      let fl : Flags := { last := xBit o.x 16, scaled := xBit o.x 14, eos := xBit o.x 15, seq := xField o.x 22 17 }
      let tok := routeToken s rw (tsTo ts 0) fl (BitVec.ofNat 2048 (srcWord s x o (thirdSpec o))) 0
      if !unitRoom s cl [tokStamp tok] then s
      else
        let (s, tok) := countToken s cl (tokLoc tok) tok
        finish (launch s tok (some (injMark + 4 * n, ofBool (xBit o.x 13))) 2) o x

/-! ## TRAP and ERET (R350) -/

/-- TRAP: TRAPINS with A as its DETAIL, a precise trap or the fault of the firing. -/
def execTrap (o : Ops) (s : State) : Host.Outcome State Fault Refusal :=
  withAgent s fun x => raise s Cause.trapins (word (srcWord s x o o.a))

/-- ERET: NOTRAP while no trap is being handled. -/
def execEret (_ : Ops) (s : State) : Host.Outcome State Fault Refusal :=
  withStew s fun n st => if st.td then stewReturn s n else raise s Cause.notrap st.pc

/-! ## Events of a steward-mode core -/

/-- STEWARD_TRAP: the fetch of a steward-mode core ends in a trap: IFETCH for an address or an error, ILLOP for an ill-formed word (R51,
R335, R338). The traps of instructions are their own effects. -/
def execStewardTrap (s : State) : Host.Outcome State Fault Refusal :=
  let n := s.event.unit
  .next (match fetchTrap s n with
    | some (c, sub, d, s') => stewTrap s' n c sub d (s.stew n).pc
    | none => s)

/-- FATAL_NOTICE: the oldest fatal record that a cluster has raised enters a fatal place where one is free, and its notice goes to the
reeve (R342). -/
def execFatalNotice (s : State) : Host.Outcome State Fault Refusal := .next (noticeFatal s s.event.unit)

end Sys2Proof.Machine
end

