-- ==== Sys2Proof/Machine/Crypto.lean ====
section
/-! DEFINITION. Signature checks by SIGCHK (R363; log 31). -/

namespace Sys2Proof.Machine

/-! ## SIGCHK (R363) -/

/-- A physical read of `n` bytes by a steward-mode core. -/
def physRead (s : State) (n a len : Nat) : State × Except Why (List Byte) :=
  if len = 0 then (s, .ok [])
  else if 2 ^ 52 ≤ a then (s, .error (Cause.spaceoob, word a))
  else match readAt s (.stew n) none a len a with
    | (s, .ok v) => (s, .ok (bytesOfNum len v))
    | (s, .error w) => (s, .error w)

/-- Whether the home of bytes that steward-mode core `n` reads holds the read (R421). -/
def physHolds (s : State) (n a len : Nat) : Bool := inHbm a len && homeHolds s a len (die := some (stewDie n))

/-- The status of a signature check: 0, or SIGFAIL with its reason. -/
def sigStatus (ok : Bool) : W64 := if ok then 0 else cfgStatus Cause.sigfail 0 1

/-- SIGCHK; it waits where the home of what it reads holds the read (R363, R421). -/
def execSigchk (o : Ops) (s : State) : Host.Outcome State Fault Refusal :=
  withStew s fun n st =>
    let a := srcWord s (.stew n st) o o.a
    if a % 8 != 0 then raise s Cause.misalign (word a)
    else if physHolds s n a 32 then s
    else match physRead s n a 32 with
      | (s, .error w) => raise s w.1 w.2
      | (s, .ok desc) =>
        let w := fun (i : Nat) => numOfBytes ((desc.drop (8 * i)).take 8)
        if decide (2 ^ 32 < w 1) || decide (8 ≤ w 3) then cfgDone s o n (cfgStatus Cause.sigfail 0 3)
        else match (s.die (stewDie n)).keys.getD (w 3) none with
          | none => cfgDone s o n (cfgStatus Cause.sigfail 0 2)
          | some key => if physHolds s n (w 0) (w 1) || physHolds s n (w 2) 114 then s else match physRead s n (w 0) (w 1) with
            | (s, .error e) => raise s e.1 e.2
            | (s, .ok msg) => match physRead s n (w 2) 114 with
              | (s, .error e) => raise s e.1 e.2
              | (s, .ok sig) => cfgDone s o n (sigStatus (Ed448.verify key (shake256 msg 64) sig))

end Sys2Proof.Machine
end

