-- ==== Sys2Proof/Machine/Energy.lean ====
section
/-! DEFINITION. The energy windows and the governor (R389, R390, R417 to R419), the cellar's temperature (R376), and patrol scrubs (R415). -/

namespace Sys2Proof.Machine

/-- The images that a die's region table finds at or over their allowance (R390). -/
def overAllowance (d : Die) : List Nat := d.region.filterMap fun (_, w) =>
  let i := bits w 47 32
  if bitOf w 63 && bits w 31 0 != 0 && decide (bits w 31 0 ≤ Tab.get 0 d.eused i / 1024) then some i else none

/-- ENERGY_TICK: images found over their allowance at the last tick run lean from now on, and those found now from the next one (R390). -/
def execEnergyTick (s : State) : Host.Outcome State Fault Refusal :=
  let d := s.die s.event.unit
  .next (s.setDie s.event.unit { d with leanNow := d.lean, lean := (d.lean ++ overAllowance d).eraseDups })

/-- The bits of GOVSTAT for a die. -/
def setThrottle (v : W64) (d : Nat) (slow fast : Bool) : W64 := setBits (setBits v d d (ofBool fast)) (4 + d) (4 + d) (ofBool slow)

/-- GOVERNOR_TICK: a die meters its energy since the last tick, with its share of cellar, stacks, engines and ports, which the event
brings, and applies its budget (R417, R418). -/
def execGovernorTick (s : State) : Host.Outcome State Fault Refusal :=
  let n := s.event.unit
  let d := s.die n
  let used := d.emc.sum - d.emMark + s.event.size
  let budget := s.pkg.dbud.getD n 0
  let ticks := (used :: d.ticks).take 10
  let window := d.ewindow + used
  let slow := bitOf s.pkg.govstat (4 + n) || decide (bits budget 31 0 * 1024 ≤ window)
  let fast := decide (bits budget 47 32 * 1024 ≤ ticks.sum) || (slow && d.tickParity)
  .next (if n < 4 then
      let s := s.setDie n { d with emMark := d.emc.sum, ticks := ticks, ewindow := window, tickParity := !d.tickParity }
      { s with pkg := { s.pkg with govstat := setThrottle s.pkg.govstat n slow fast } }
    else s)

/-- WINDOW_EDGE: on every die EUSED is 0, LEAN is clear, EWIN is one more, and the frequency counters are halved; no die is slow-throttled,
and GWIN is one more (R377, R390, R418, R419). -/
def execWindowEdge (s : State) : Host.Outcome State Fault Refusal :=
  .next { s with
    dies := s.dies.map fun d => { d with eused := [], lean := [], leanNow := [], ewin := d.ewin + 1, ewindow := 0, freq := d.freq.mapVals 0 fun _ v => v / 2 },
    pkg := { s.pkg with govstat := setBits s.pkg.govstat 7 4 0, gwin := s.pkg.gwin + 1 } }

/-- CELHOT_CHANGE: the hottest sensor of a die's cellar crosses a threshold (R376). -/
def execCelhotChange (s : State) : Host.Outcome State Fault Refusal :=
  .next (s.setDie s.event.unit { s.die s.event.unit with celhot := s.event.flag })

/-- Latent errors of a die that a patrol scrub meets: of its cellar, the L2 in it included (0), or of its two stacks (1). -/
def scrubMeets (die kind : Nat) (hard : Bool) : SoftErr → Bool
  | .cellar d _ h => kind == 0 && d == die && h == hard
  | .hbm a h => kind == 1 && a / 2 ^ 37 == die && h == hard
  | .slot _ _ _ => false
  | .scr _ _ _ => false
  | .l1 _ _ _ _ => false
  | .l2 d _ _ h => kind == 0 && d == die && h == hard
  | .obuf _ _ _ _ => false
  | .store _ _ _ => false

/-- PATROL_SCRUB: corrected words of a cellar or of a die's stacks are rewritten in place and counted; an uncorrectable error of the
cellar is logged (R411, R415). -/
def execPatrolScrub (s : State) : Host.Outcome State Fault Refusal :=
  let n := s.event.unit
  let k := s.event.kind
  let d := s.die n
  let s' := { s with soft := s.soft.filter fun e => !scrubMeets n k false e }
  let hard := if k = 0 then s.soft.countP (scrubMeets n k true) else 0
  .next (s'.setDie n { d with corrected := d.corrected + s.soft.countP (scrubMeets n k false), eccLog := d.eccLog + hard })

end Sys2Proof.Machine
end

