-- ==== Sys2Proof/Machine/Integer.lean ====
section
/-! DEFINITION. NOP (R129) and integer arithmetic (R130, R131). -/

namespace Sys2Proof.Machine

/-- Integer arithmetic of R130: an exact result of the operands read by M, reduced by M. -/
def intByM (o : Ops) (s : State) (third : Bool) (f : Int → Int → Int → Int) : Host.Outcome State Fault Refusal :=
  elementwise o s (.typed o.ty) (.typed o.ty) (if third then .typed o.ty else .whole) (Ty.width o.ty) fun a b c =>
    sat o.ty (f (readByM o.ty o.m a) (readByM o.ty o.m b) (readByM o.ty o.m c)) o.m

/-- Integer arithmetic of R130 read signed or unsigned, reduced by M, whose M may have no meaning and then wraps. -/
def intRead (o : Ops) (s : State) (sgn : Bool) (f : Int → Int → Int) : Host.Outcome State Fault Refusal :=
  elementwise o s (.typed o.ty) (.typed o.ty) .whole (Ty.width o.ty) fun a b _ =>
    let r := fun x => if sgn then readS o.ty x else readU o.ty x
    sat o.ty (f (r a) (r b)) o.m

/-- A result that is the pattern of a or of b (R131). -/
def intChoose (o : Ops) (s : State) (takeA : Nat → Nat → Bool) : Host.Outcome State Fault Refusal :=
  elementwise o s (.typed o.ty) (.typed o.ty) .whole (Ty.width o.ty) fun a b _ => if takeA a b then a else b

/-- NOP has no effect (R129). -/
def execNop (o : Ops) (s : State) : Host.Outcome State Fault Refusal := withAgent s fun x => finish s o x
/-- ADD (R130). -/
def execAdd (o : Ops) (s : State) : Host.Outcome State Fault Refusal := intByM o s false fun a b _ => a + b
/-- SUB (R130). -/
def execSub (o : Ops) (s : State) : Host.Outcome State Fault Refusal := intByM o s false fun a b _ => a - b
/-- MUL (R130). -/
def execMul (o : Ops) (s : State) : Host.Outcome State Fault Refusal := intByM o s false fun a b _ => a * b
/-- MAD (R130): the product is never reduced on its own. -/
def execMad (o : Ops) (s : State) : Host.Outcome State Fault Refusal := intByM o s true fun a b c => a * b + c
/-- NEG (R130). -/
def execNeg (o : Ops) (s : State) : Host.Outcome State Fault Refusal := intByM o s false fun a _ _ => -a
/-- ABS (R130). -/
def execAbs (o : Ops) (s : State) : Host.Outcome State Fault Refusal := intRead o s true fun a _ => (a.natAbs : Int)
/-- DIVS (R130). -/
def execDivs (o : Ops) (s : State) : Host.Outcome State Fault Refusal :=
  intRead o s true fun a b => if b = 0 then -1 else Int.tdiv a b
/-- DIVU (R130). -/
def execDivu (o : Ops) (s : State) : Host.Outcome State Fault Refusal :=
  intRead o s false fun a b => if b = 0 then 2 ^ Ty.width o.ty - 1 else a / b
/-- REMS (R130). -/
def execRems (o : Ops) (s : State) : Host.Outcome State Fault Refusal :=
  intRead o s true fun a b => if b = 0 then a else a - b * Int.tdiv a b
/-- REMU (R130). -/
def execRemu (o : Ops) (s : State) : Host.Outcome State Fault Refusal :=
  intRead o s false fun a b => if b = 0 then a else a % b
/-- MULHS (R130). -/
def execMulhs (o : Ops) (s : State) : Host.Outcome State Fault Refusal :=
  intRead o s true fun a b => a * b / 2 ^ Ty.width o.ty
/-- MULHU (R130). -/
def execMulhu (o : Ops) (s : State) : Host.Outcome State Fault Refusal :=
  intRead o s false fun a b => a * b / 2 ^ Ty.width o.ty
/-- MINS (R131). -/
def execMins (o : Ops) (s : State) : Host.Outcome State Fault Refusal :=
  intChoose o s fun a b => decide (readS o.ty a ≤ readS o.ty b)
/-- MINU (R131). -/
def execMinu (o : Ops) (s : State) : Host.Outcome State Fault Refusal :=
  intChoose o s fun a b => decide (readU o.ty a ≤ readU o.ty b)
/-- MAXS (R131). -/
def execMaxs (o : Ops) (s : State) : Host.Outcome State Fault Refusal :=
  intChoose o s fun a b => decide (readS o.ty b ≤ readS o.ty a)
/-- MAXU (R131). -/
def execMaxu (o : Ops) (s : State) : Host.Outcome State Fault Refusal :=
  intChoose o s fun a b => decide (readU o.ty b ≤ readU o.ty a)

end Sys2Proof.Machine
end

