-- ==== Sys2Proof/Machine/Counts.lean ====
section
/-! DEFINITION. The counts by slot and reason of a cluster and their spilling (R474, R475). -/

namespace Sys2Proof.Machine

/-- Whether two entries of the count table have one key. -/
def CountEntry.sameKey (a b : CountEntry) : Bool := a.image == b.image && a.loc == b.loc && a.slot == b.slot && a.rsn == b.rsn

/-- The 16 bytes of a spilled entry. -/
def CountEntry.bytes (x : CountEntry) : List Byte :=
  bytesOfNum 16 (x.image % 65536 * 2 ^ 48 + x.loc % 4096 * 2 ^ 36 + x.slot % 32 * 2 ^ 31 + x.rsn % 8 * 2 ^ 28 + x.count % 2 ^ 64 * 2 ^ 64)

/-- The length of the spill area in bytes. -/
def spillLength (c : Cluster) : Nat := bits c.hspill 11 0 * 4096

/-- Counts that find no place in the spill area are lost (R475). -/
def loseCounts (s : State) (cl n : Nat) : State :=
  let c := s.cluster cl
  s.setCluster cl { c with hovf := min (c.hovf + n) (2 ^ 32 - 1) }

/-- Whether the homes of a cluster's spill area hold its writes from a byte of the area on (R421). -/
def spillHeld (s : State) (cl off n : Nat) : Bool :=
  decide (off + n ≤ spillLength (s.cluster cl)) && homeHolds s (bits (s.cluster cl).hspill 51 12 * 4096 + off) n true (die := some (cl / 4))

/-- An evicted entry goes to the spill area of its cluster, which fills in order; without room its count is lost. A disabled area has no
room, and an area that cannot be written takes nothing (log 29). -/
def spillEntry (s : State) (cl : Nat) (x : CountEntry) : State :=
  let c := s.cluster cl
  if spillLength c < c.hspillAt + 16 then loseCounts s cl x.count
  else
    let a := bits c.hspill 51 12 * 4096 + c.hspillAt
    match writeAt s .engine none a x.bytes a with
    | (_, .error _) => loseCounts s cl x.count
    | (s, .ok ()) =>
      let c := s.cluster cl
      s.setCluster cl { c with hspillAt := c.hspillAt + 16, spillFull := c.spillFull || decide (spillLength c < c.hspillAt + 32) }

/-- Every evicted entry that still waits, and then every live entry, is spilled, and the table is emptied (R475). -/
def flushCounts (s : State) (cl : Nat) : State :=
  let c := s.cluster cl
  (c.evicted ++ c.hist).foldl (fun s x => spillEntry s cl x) (s.setCluster cl { c with hist := [], evicted := [] })

/-- The set of the count table, 0 to 255, in which an entry stands: the spec does not say which (R474; log 29). -/
def CountEntry.set (x : CountEntry) : Nat :=
  Config.countSet (((x.image * 4096 + x.loc) * 32 + x.slot) * 8 + x.rsn) % 256

/-- What is left in the table of a count, and the entries evicted of it: a count that reaches 2^32 - 1 is evicted and restarts (R474). -/
def CountEntry.restarts (x : CountEntry) : CountEntry × List CountEntry :=
  let top := 2 ^ 32 - 1
  ({ x with count := x.count % top }, List.replicate (x.count / top) { x with count := top })

/-- Adds to the count of a key in a cluster's table; where the four ways of its set stand, the lowest count gives way to a new key (R474). -/
def countKey (c : Cluster) (x : CountEntry) : Cluster := match c.hist.find? x.sameKey with
  | some y =>
    let (left, out) := { y with count := y.count + x.count }.restarts
    { c with hist := c.hist.map fun z => if x.sameKey z then left else z, evicted := c.evicted ++ out }
  | none =>
    let ways := c.hist.filter fun z => z.set == x.set
    let gone := if ways.length < 4 then none else (ways.map CountEntry.count).min?.bind fun m => ways.find? fun z => z.count == m
    let (left, out) := x.restarts
    { c with hist := c.hist.filter (fun z => gone != some z) ++ [left], evicted := c.evicted ++ gone.toList ++ out }

/-- Whether an instruction places something in the commit buffer (R100); reads of the scratchpad do not. -/
def buffers (k : Nat) (o : Ops) : Bool :=
  k == 0x81 || (decide (0x90 ≤ k) && decide (k ≤ 0x9C) && k != 0x94) ||
  (decide (0xA0 ≤ k) && decide (k ≤ 0xB3) && !([0xA0, 0xAC, 0xAE].contains k && memSpace o == 0)) ||
  k == 0xC8 || k == 0xCB || (decide (0xD0 ≤ k) && decide (k ≤ 0xD7)) || k == 0xD9

/-- Whether an element's next instruction, of the array, of the cutter, of its emitter or of an accumulator, would wait: run now, it leaves the firing as it
is. -/
def unitWaits (s : State) (e : Nat) : Bool :=
  let t := { s with actor := .element e }
  let stays := fun (r : Host.Outcome State Fault Refusal) => match r with
    | .next u => (u.elem e).firing == (s.elem e).firing
    | .fault _ | .refused _ => false
  match nextInstr s e with
  | some (.mxcfg o) => stays (execMxcfg o t)
  | some (.mxldb o) => stays (execMxldb o t)
  | some (.mxfeed o) => stays (execMxfeed o t)
  | some (.mxdrn o) => stays (execMxdrn o t)
  | some (.mxrel o) => stays (execMxrel o t)
  | some (.mxrelForce o) => stays (execMxrelForce o t)
  | some (.mxcor o) => stays (execMxcor o t)
  | some (.mxstat o) => stays (execMxstat o t)
  | some (.shcfg o) => stays (execShcfg o t)
  | some (.shcut o) => stays (execShcut o t)
  | some (.shbnd o) => stays (execShbnd o t)
  | some (.shco o) => stays (execShco o t)
  | some (.sphdr o) => stays (execSphdr o t)
  | some (.vseqacc o) => stays (execVseqacc o t)
  | _ => false

/-- Whether an item of a commit buffer is a request, which leaves through a port. -/
def Item.ofPort : Item → Bool
  | .req _ _ => true
  | .send _ _ _ _ _ | .counted _ _ _ | .reqn _ _ _ | .sendm _ _ _ _ _ | .snapped _ _ _ _ => false

/-- The reasons that RSN may give for a core clock of an element's firing, by what the firing waits for: at its release for network room or a
port that is full, where it has something to release; at an instruction for the previous firing's requests, for the array or the cutter, whose
stream unit runs ISECT and SMERGE (R299), for the accumulator of a VSEQACC, and else for a result, the vector pipe, or the memory node. Timing decides
among several (R474; log 29). -/
def waitReasons (s : State) (e : Nat) (f : Firing) : List Nat :=
  if f.ended then [0, 1] ++ (if f.items.isEmpty then [] else [7]) ++ (if f.items.any Item.ofPort then [5] else [])
  else match (nextInstr s e).bind Instr.code with
    | none => [0, 1]
    | some (k, o) =>
      if buffers k o && bufferBusy s e f then [6]
      else if k = 0x81 ∧ unitWaits s e then [1, 2]
      else if 0xC0 ≤ k ∧ k ≤ 0xC6 then (if unitWaits s e then [3] else [0, 1, 3])
      else if 0xC7 ≤ k ∧ k ≤ 0xCA then (if unitWaits s e then [4] else [0, 1, 4])
      else if k = 0xCB then (if unitWaits s e then [4] else [0, 1, 5])
      else if k = 0xCC ∨ k = 0xCD then [0, 1, 4]
      else [0, 1] ++ (if o.sh = .scalar then [] else [2]) ++ (if 0xA0 ≤ k ∧ k ≤ 0xB3 then [5] else [])

/-- The reasons of a core clock of an element's firing: that it issued is among them once for each slot. -/
def stallReasons (s : State) (e : Nat) (f : Firing) : List Nat :=
  (waitReasons s e f).filter fun r => !(r == 0 && f.counted == some f.slot)

/-- The reason, among some, for which an element's firing spends core clocks. -/
def stallReason (s : State) (e : Nat) (l : List Nat) : Nat := l.getD (Config.stallReason s.stepNo e % l.length) 0

/-- The reasons for `n` core clocks in which a firing stays where it is, with how many it spends for each: it issues in at most one of them. -/
def clockReasons (s : State) (e : Nat) (f : Firing) (n : Nat) : List (Nat × Nat) :=
  let l := stallReasons s e f
  let r := stallReason s e l
  if n = 0 then []
  else if r = 0 then (0, 1) :: (if n = 1 then [] else [(stallReason s e (l.filter fun k => k != 0), n - 1)])
  else [(r, n)]

/-- Notes that an element's firing has been counted as having issued at its slot. -/
def noteIssued (s : State) (e : Nat) (f : Firing) : State := s.setElem e { s.elem e with firing := some { f with counted := some f.slot } }

/-- The counts of `n` core clocks: each element of a counting cluster that runs a firing adds to the keys of its slot, for reasons that
its wait and timing decide (R474; log 29). -/
def countClocks (s : State) (n : Nat) : State :=
  s.elems.foldl (fun s (e, x) => match x.firing with
    | none => s
    | some f =>
      let cl := clusterOf (coreOf e)
      if (s.cluster cl).hen then
        (clockReasons s e f n).foldl (fun s (r, k) =>
          let key : CountEntry := { image := ctxImage s e f.frame.ctx, loc := bits (entryWord s e f.frame.ctx f.frame.ent) 52 41,
                                    slot := f.slot, rsn := r, count := k }
          let s := if r = 0 then noteIssued s e f else s
          s.setCluster cl (countKey (s.cluster cl) key)) s
      else s) s

end Sys2Proof.Machine
end

