-- ==== Sys2Proof/Machine/System.lean ====
section
/-! DEFINITION. Special registers: MFS of a firing (R113), MFS and MTS of a steward-mode core (R221, R276, R286, R315, R328, R344, R351,
R410, R417, R457), and the events that are writes of configuration words. The observation registers' writes stand in
`Observe`, PKGRST's in `Package`. -/

namespace Sys2Proof.Machine

/-! ## The registers of a core (R221, R276, R286) -/

/-- CORESTAT. PIPE is free while an element of the core fires: instructions of this model end in the step that issues them (log 27). -/
def corestat (s : State) (core : Nat) : Nat :=
  let c := s.core core
  let a := c.arr
  let busy := packNum 1 ((List.range 4).map fun i => ofBool (s.elem (core * 4 + i)).firing.isSome)
  let pipe := busy != 0 && bitOf (Config.openWord s.stepNo) 7
  let arr := a.statv || !a.cells.isEmpty || a.places != 0 || !a.tiles.isEmpty
  let node := (c.ports.any fun p => !p.reqs.isEmpty) || !c.deferred.isEmpty || !c.watches.isEmpty
  (obufUse s core).length * 256 + ofBool pipe * 128 + ofBool arr * 64 + ofBool c.cutClaim.isSome * 32 + ofBool node * 16 + busy

/-- PORTSTAT. -/
def portstat (s : State) (core : Nat) : Nat :=
  packNum 5 ((List.range 8).map fun p => min 31 (portUsed s core p))
    + packNum 1 ((List.range 8).map fun p => ofBool ((s.core core).port p).held) * 2 ^ 40

/-- CHAINSTAT. -/
def chainstat (c : Core) : Nat := packNum 16 (c.chains.map fun a => match a with
  | none => 0
  | some a => 2 ^ 15 + a.next)

/-- PORTFVA of a port: the virtual address that it keeps while it is HELD. -/
def portfva (c : Core) (p : Nat) : Nat := match (c.port p).kept with
  | some r => if (c.port p).held then (walkAddress r).2 % 2 ^ 56 else 0
  | none => 0

/-- ECCCNT. -/
def ecccnt (c : Core) : Nat := c.eccObuf * 2 ^ 32 + c.eccL1 * 2 ^ 16 + c.eccScr

/-- The elements of a core that are stopped, as bits (R473). -/
def stopBits (s : State) (core : Nat) : Nat := packNum 1 ((List.range 4).map fun i => ofBool (s.elem (core * 4 + i)).stopped)

/-- A register of the core, element and context that CSEL names, where the number names one; 0x105 is OBCORE (R470). -/
def coreRegister (s : State) (core el ctx num : Nat) : Option Nat :=
  let c := s.core core
  let t := Tab.get Sheaf.init c.sheaf (el * 8 + ctx)
  if num = 0x100 then some (corestat s core)
  else if num = 0x101 then some (wrapInt 64 (s.clock - c.ccycleBase))
  else if num = 0x102 then some (ecccnt c)
  else if num = 0x103 then some (portstat s core)
  else if num = 0x104 then some (chainstat c)
  else if num = 0x105 then some (stopBits s core)
  else if 0x108 ≤ num ∧ num < 0x110 then some (portfva c (num - 0x108))
  else if num = 0x110 then some (astat s core)
  else if num = 0x111 then some (acfg s core)
  else if num = 0x118 then some (setBits t.scfg 63 63 (ofBool t.v)).toNat
  else if num = 0x119 then some t.spdesc.toNat
  else if num = 0x11A then some t.sqdesc.toNat
  else if num = 0x11B then some t.skr
  else if num = 0x11C then some (t.bound + ofBool t.done * 2 ^ 17)
  else none

/-! ## The registers of a cluster (R315, R328, R344, R470) -/

/-- FUSTAT. -/
def fustat (c : Cluster) : Nat :=
  waymarks c * 2 ^ 32 + c.gate.length * 2 ^ 24 + c.slots.length * 2 ^ 16
    + low 16 ((c.slots.map fun x => x.unacked.length).foldl max 0)

/-- The record queue that a steward-mode core reads: its records and LOST (R341, R343). -/
def recordQueue (s : State) (n : Nat) : List TrapRec × Nat :=
  if n = 20 then (s.pkg.rq, s.pkg.rlost) else ((s.cluster (stewCluster n)).tq, (s.cluster (stewCluster n)).lost)
/-- The fatal places that a steward-mode core reads; the reeve has none (R343). -/
def fatalPlaces (s : State) (n : Nat) : List TrapRec := if n = 20 then [] else (s.cluster (stewCluster n)).tf

/-- TQSTAT. ORD has no room for the 64th record of the reeve's queue (log 16). -/
def tqstat (s : State) (n : Nat) : Nat :=
  let (q, lost) := recordQueue s n
  lost * 2 ^ 24 + (fatalPlaces s n).length * 2 ^ 16 + (if q.length < 64 then q.length else bits (Config.openWord s.stepNo) 5 0)

/-- A word of a record. -/
def TrapRec.nth (r : TrapRec) (i : Nat) : W64 := if i = 0 then r.w0 else if i = 1 then r.w1 else if i = 2 then r.w2 else r.w3

/-- A word of the oldest record of a queue, or a value for none. -/
def headWord (q : List TrapRec) (i : Nat) (none : W64) : Nat := ((q.head?.map fun r => r.nth i).getD none).toNat

/-- Elements of a cluster that are stopped. -/
def stoppedIn (s : State) (cl : Nat) : Nat := s.elems.countP fun (e, x) => clusterOf (coreOf e) == cl && x.stopped

/-- OBSTAT. -/
def obstat (s : State) (cl : Nat) : Nat :=
  let c := s.cluster cl
  ofBool (ringFrozen s c) * 2 ^ 63 + ofBool c.dumped * 2 ^ 62 + ofBool c.walked * 2 ^ 61 + ofBool c.spillFull * 2 ^ 60 + stoppedIn s cl * 2 ^ 32
    + c.trlost

/-- What a channel of a core is in a link cycle, of two core clocks: full (1), empty (2), or neither (R476; log 27). -/
def channelState (s : State) (core ch cycle : Nat) : Nat := Config.channelState (core + 2048 * s.pkg.starts) ch cycle % 3

/-- A channel count (R476): CHFULL (0), CHEMPTY (1) or CHMOVE (2) of the selected channel over the link cycles since it was cleared (log
27). -/
def channelCount (s : State) (core which since : Nat) : Nat :=
  let ch := (s.core core).chsel
  ((List.range (s.clock / 2 - since / 2)).map fun i => since / 2 + i).countP fun k =>
    if which = 2 then Config.channelMoves (core + 2048 * s.pkg.starts) ch k else channelState s core ch k == which + 1

/-- A register of the cluster's own, where the number names one; the reeve and the die service cores use cluster 0 of their die
(log 26). -/
def clusterRegister (s : State) (n num : Nat) : Option Nat :=
  let cl := stewCluster n
  let c := s.cluster cl
  let st := s.stew n
  let core := cselCore n st
  if num = 0x009 then some (low 64 (cycleOf s cl))
  else if num = 0x00B then some (low 64 (s.fused.getD cl 0).toNat)
  else if num = 0x00C then some ((s.fused.getD cl 0).toNat / 2 ^ 64)
  else if num = 0x120 then some (fustat c)
  else if num = 0x121 then some c.hedgecnt.toNat
  else if num = 0x130 then some c.obctl.toNat
  else if num = 0x131 then some (obstat s cl)
  else if num = 0x132 then some (c.trhead + ofBool c.wrapped * 2 ^ 20)
  else if num = 0x134 then some c.hspill.toNat
  else if num = 0x135 then some (ofBool c.hen * 2 ^ 63 + c.hovf)
  else if 0x138 ≤ num ∧ num < 0x140 then some (c.bpt.getD (num - 0x138) 0).toNat
  else if num = 0x140 then some (s.core core).chsel
  else if num = 0x141 then some (channelCount s core 0 (Tab.get 0 (s.core core).chfull (s.core core).chsel))
  else if num = 0x142 then some (channelCount s core 1 (Tab.get 0 (s.core core).chempty (s.core core).chsel))
  else if num = 0x143 then some (channelCount s core 2 (Tab.get 0 (s.core core).chmove (s.core core).chsel))
  else none

/-! ## The registers of a steward-mode core and of the package (R344, R410, R417 to R420, R457) -/

/-- Whether only the reeve reads a register (R410, R457). -/
def mfsReeve (num : Nat) : Bool :=
  decide (0x038 ≤ num ∧ num < 0x03C) || num == 0x041 || num == 0x042 || num == 0x043 || decide (0x050 ≤ num ∧ num < 0x054) ||
    num == 0x060 || num == 0x061 || num == 0x063

/-- A register of the core itself or of the package, where the number names one that reading leaves as it is. -/
def ownRegister (s : State) (n num : Nat) : Option Nat :=
  let st := s.stew n
  if num = 0x001 then some (ofBool st.td + eventBits s n * 256)
  else if num = 0x002 then some st.epc.toNat
  else if num = 0x003 then some st.etrap0.toNat
  else if num = 0x004 then some st.etrap3.toNat
  else if num = 0x005 then some st.tvec.toNat
  else if num = 0x006 then some st.scratch.toNat
  else if num = 0x008 then some st.csel.toNat
  else if num = 0x010 then some (sself s n).toNat
  else if num = 0x013 then some (tqstat s n)
  else if 0x014 ≤ num ∧ num < 0x018 then some (headWord (recordQueue s n).1 (num - 0x014) 0)
  else if 0x01C ≤ num ∧ num < 0x020 then
    some (headWord (fatalPlaces s n) (num - 0x01C) (if n = 20 then 0 else Config.openWord s.stepNo))
  else if 0x038 ≤ num ∧ num < 0x03C then some (headWord s.pkg.fatal (num - 0x038) (Config.openWord s.stepNo))
  else if num = 0x040 then some s.pkg.bootvec.toNat
  else if num = 0x042 then some s.pkg.rinsrc.toNat
  else if num = 0x043 then some s.pkg.rmsel.toNat
  else if num = 0x048 then some s.pkg.pkgrst.toNat
  else if 0x050 ≤ num ∧ num < 0x054 then some (s.pkg.dbud.getD (num - 0x050) 0).toNat
  else if num = 0x058 then some s.pkg.govstat.toNat
  else if num = 0x059 then some (low 64 s.pkg.gwin.toNat)
  else if num = 0x060 then some ((s.pkg.policy.head?.map Notice.va).getD 0).toNat
  else if num = 0x061 then some ((s.pkg.policy.head?.map Notice.w1).getD 0).toNat
  else if num = 0x063 then some (s.pkg.policy.length * 2 ^ 16 + s.pkg.polOvf)
  else none

/-- Whether a number names a register of the core that CSEL names. -/
def ofSelected (num : Nat) : Bool := decide (0x100 ≤ num ∧ num ≤ 0x11C)

/-- What MFS of a steward-mode core reads, or its trap. -/
def readRegister (s : State) (n : Nat) (insn : W64) (num : Nat) : Except Why Nat :=
  let st := s.stew n
  if mfsReeve num && n != 20 then .error (Cause.priv, insn)
  else if ofSelected num then
    match coreRegister s (cselCore n st) (bits st.csel 8 7) (bits st.csel 11 9) num with
    | none => .error (Cause.sprnum, word num)
    | some v => if isFused s (cselCore n st) then .error (Cause.cfgaddr, Config.openWord s.stepNo) else .ok v
  else match ownRegister s n num with
    | some v => .ok v
    | none => match clusterRegister s n num with
      | some v => .ok v
      | none => .error (Cause.sprnum, word num)

/-- MFS (R113, R351). -/
def execMfs (o : Ops) (s : State) : Host.Outcome State Fault Refusal :=
  withAgent s fun x => match x with
    | .firing e f =>
      let num := srNumber o.x
      if num = 0x010 then finish s o (x.setScalar o.d (fself s e f))
      else if num = 0x011 then finish s o (x.setScalar o.d (fflags s e f))
      else raise s Cause.badspr (word num)
    | .stew n _ => match readRegister s n (encodeFields 0xF2 o) (srNumber o.x) with
      | .error w => raise s w.1 w.2
      | .ok v => finish s o (x.setScalar o.d v)

/-- MBOX_READ: MFS of MBOX takes the oldest message of the reeve, 0 if there is none (R410). -/
def execMboxRead (o : Ops) (s : State) : Host.Outcome State Fault Refusal :=
  withStew s fun n st => finish s o ((Agent.stew n { st with mbox := st.mbox.drop 1 }).setScalar o.d (st.mbox.headD 0).toNat)

/-- RINBOX_READ: MFS of RINBOX takes the oldest message of the inbox; RINSRC names its sender. What an empty inbox reads as is not
stated (R410; log 16). -/
def execRinboxRead (o : Ops) (s : State) : Host.Outcome State Fault Refusal :=
  withStew s fun n st =>
    if n != 20 then raise s Cause.priv (encodeFields 0xF2 o)
    else match s.pkg.inbox with
      | [] => finish s o ((Agent.stew n st).setScalar o.d (Config.openWord s.stepNo).toNat)
      | (v, src) :: rest =>
        finish { s with pkg := { s.pkg with inbox := rest, rinsrc := src } } o ((Agent.stew n st).setScalar o.d v.toNat)

/-! ## MTS (R344, R351) -/

/-- An MTS: what a write of a value comes to for steward-mode core `n`: a trap, a wait, or the state after it. A register that only the
reeve writes raises PRIV elsewhere (R337). -/
def mtsOp (o : Ops) (s : State) (reeve : Bool) (k : Nat → W64 → Except Why (Option State)) : Host.Outcome State Fault Refusal :=
  withStew s fun n st =>
    if reeve && n != 20 then raise s Cause.priv (encodeFields 0xF3 o)
    else match k n (word (srcWord s (.stew n st) o o.a)) with
      | .error w => raise s w.1 w.2
      | .ok none => s
      | .ok (some t) => finish t o (.stew n (t.stew n))

/-- The same for a register of the core that CSEL names: CFGADDR where that core is fused off. -/
def mtsCore (o : Ops) (s : State) (k : Nat → W64 → Option State) : Host.Outcome State Fault Refusal :=
  mtsOp o s false fun n v =>
    let core := cselCore n (s.stew n)
    if isFused s core then .error (Cause.cfgaddr, Config.openWord s.stepNo) else .ok (k core v)

/-- Removes the oldest ordinary record of the queue of a steward-mode core, so that a run of `tqloop` takes each once, in arrival order, and
leaves the fatal places and TD as they are (R341, R343, R365). -/
def popOrdinary (s : State) (n : Nat) : State :=
  if n = 20 then { s with pkg := { s.pkg with rq := s.pkg.rq.drop 1 } }
  else
    let c := s.cluster (stewCluster n)
    s.setCluster (stewCluster n) { c with tq := c.tq.drop 1 }

/-- Removes the oldest fatal record (R341, R343). -/
def popFatal (s : State) (n : Nat) : State :=
  if n = 20 then s
  else
    let c := s.cluster (stewCluster n)
    s.setCluster (stewCluster n) { c with tf := c.tf.drop 1 }

/-- TQPOP: bit 0 pops an ordinary record, bit 1 a fatal one. -/
def tqpop (s : State) (n : Nat) (v : W64) : State :=
  let s := if bitOf v 0 then popOrdinary s n else s
  if bitOf v 1 then popFatal s n else s

/-- An MTS to a register whose row is MTS itself: the trap SPRNUM for a number that names none. PKGRST is written by `pkgrst`. -/
def writeRegister (s : State) (pkgrst : State → W64 → Except Why State) (n num : Nat) (insn v : W64) : Except Why State :=
  let st := s.stew n
  let reeve := fun (k : Except Why State) => if n = 20 then k else .error (Cause.priv, insn)
  if num = 0x002 then .ok (s.setStew n { st with epc := setBits v 2 0 0 })
  else if num = 0x005 then .ok (s.setStew n { st with tvec := setBits v 2 0 0 })
  else if num = 0x006 then .ok (s.setStew n { st with scratch := v })
  else if num = 0x008 then .ok (s.setStew n { st with csel := word (bits v 11 0) })
  else if num = 0x018 then .ok (tqpop s n v)
  else if num = 0x040 then reeve (.ok { s with pkg := { s.pkg with bootvec := setBits v 2 0 0 } })
  else if num = 0x048 then reeve (pkgrst s v)
  else if num = 0x101 then
    let core := cselCore n st
    if isFused s core then .error (Cause.cfgaddr, Config.openWord s.stepNo)
    else .ok (s.setCore core { s.core core with ccycleBase := s.clock - v.toNat })
  else if 0x138 ≤ num ∧ num < 0x140 then
    let c := s.cluster (stewCluster n)
    .ok (if bits v 54 52 = 0 ∧ bits v 23 0 = 0 then s.setCluster (stewCluster n) { c with bpt := setAt c.bpt (num - 0x138) v } else s)
  else if num = 0x140 then
    let core := cselCore n st
    .ok (s.setCore core { s.core core with chsel := bits v 4 0 })
  else .error (Cause.sprnum, word num)

/-- SSTAT_WRITE: TD, and the latched events LOAD and DRAINED (R344). -/
def execSstatWrite (o : Ops) (s : State) : Host.Outcome State Fault Refusal :=
  mtsOp o s false fun n v =>
    let st := s.stew n
    .ok (some (s.setStew n { st with td := bitOf v 0, evLoad := st.evLoad && !bitOf v 10, evDrained := st.evDrained && !bitOf v 11 }))

/-- ECCCNT_CLEAR: an MTS of 0; of any other value it is ignored (R221). -/
def execEcccntClear (o : Ops) (s : State) : Host.Outcome State Fault Refusal :=
  mtsCore o s fun core v =>
    some (if v = 0 then s.setCore core { s.core core with eccScr := 0, eccL1 := 0, eccObuf := 0 } else s)

/-- HEDGECNT_CLEAR: only 0 is accepted; another value is dropped (R328; log 28). -/
def execHedgecntClear (o : Ops) (s : State) : Host.Outcome State Fault Refusal :=
  mtsOp o s false fun n v =>
    let cl := stewCluster n
    .ok (some (if v = 0 then s.setCluster cl { s.cluster cl with hedgecnt := 0 } else s))

/-- MBOXOUT: a message to the reeve's inbox, with its sender; the core waits while 64 stand there (R410). -/
def execMboxout (o : Ops) (s : State) : Host.Outcome State Fault Refusal :=
  mtsOp o s false fun n v =>
    .ok (if 64 ≤ s.pkg.inbox.length then none else some { s with pkg := { s.pkg with inbox := s.pkg.inbox ++ [(v, sself s n)] } })

/-- RFPOP: bit 0 removes the oldest fatal-line notice (R410). -/
def execRfpop (o : Ops) (s : State) : Host.Outcome State Fault Refusal :=
  mtsOp o s true fun _ v => .ok (some (if bitOf v 0 then { s with pkg := { s.pkg with fatal := s.pkg.fatal.drop 1 } } else s))

/-- RMSEL_WRITE: SPRNUM for KIND 2 or 3 (R410). -/
def execRmselWrite (o : Ops) (s : State) : Host.Outcome State Fault Refusal :=
  mtsOp o s true fun _ v =>
    if 2 ≤ bits v 1 0 then .error (Cause.sprnum, 0x043) else .ok (some { s with pkg := { s.pkg with rmsel := word (bits v 5 0) } })

/-- The steward-mode core whose mailbox RMSEL selects. -/
def selectedMailbox (v : W64) : Nat := if bits v 1 0 = 0 then bits v 5 2 else 16 + bits v 5 4

/-- RMSEND: a message to the selected mailbox; the reeve waits while it holds 16 (R410). -/
def execRmsend (o : Ops) (s : State) : Host.Outcome State Fault Refusal :=
  mtsOp o s true fun _ v =>
    let m := selectedMailbox s.pkg.rmsel
    let st := s.stew m
    .ok (if 16 ≤ st.mbox.length then none else some (s.setStew m { st with mbox := st.mbox ++ [v] }))

/-- Whether a 64-byte key record breaks its layout or names slot 0 or 1 (R413). -/
def keyRecordBad (r : List Byte) : Bool :=
  let slot := (r.getD 57 0).toNat
  decide (7 < slot) || decide (slot < 2) || decide (1 < (r.getD 58 0).toNat) || (r.drop 59).any fun b => b != 0

/-- KSLOT: the key record at a physical address fills or empties its slot on all four dies (R413), once the home of the record does not hold
it (R421). -/
def execKslot (o : Ops) (s : State) : Host.Outcome State Fault Refusal :=
  mtsOp o s true fun n v =>
    if 2 ^ 52 ≤ v.toNat then .error (Cause.spaceoob, v)
    else if inHbm v.toNat 64 && homeHolds s v.toNat 64 (die := some (stewDie n)) then .ok none
    else match readAt s (.stew n) none v.toNat 64 v.toNat with
      | (_, .error w) => .error w
      | (s, .ok x) =>
        let r := bytesOfNum 64 x
        let key := if (r.getD 58 0).toNat = 1 then none else some (numOfBytes (r.take 57))
        if keyRecordBad r then .error (Cause.priv, encodeFields 0xF3 o)
        else .ok (some { s with dies := s.dies.map fun d => { d with keys := setAt d.keys (r.getD 57 0).toNat key } })

/-- Whether a budget breaks its layout or the envelopes (R417). -/
def budgetBad (budgets : List W64) (v : W64) : Bool :=
  bits v 63 48 != 0 || decide (2400000 < (budgets.map fun w => bits w 31 0).sum) || decide (30000 < (budgets.map fun w => bits w 47 32).sum)

/-- DBUD_WRITE: ENVSUM for a budget that breaks the envelope (R417). -/
def execDbudWrite (o : Ops) (s : State) : Host.Outcome State Fault Refusal :=
  mtsOp o s true fun _ v =>
    let l := setAt s.pkg.dbud (srNumber o.x - 0x050) v
    if budgetBad l v then .error (Cause.envsum, v) else .ok (some { s with pkg := { s.pkg with dbud := l } })

/-- POLPOP: bit 0 removes the oldest policy notice (R457). -/
def execPolpop (o : Ops) (s : State) : Host.Outcome State Fault Refusal :=
  mtsOp o s true fun _ v => .ok (some (if bitOf v 0 then { s with pkg := { s.pkg with policy := s.pkg.policy.drop 1 } } else s))

/-- POLSTAT_CLEAR: an MTS of 0 clears OVF; of any other value it is ignored (R457). -/
def execPolstatClear (o : Ops) (s : State) : Host.Outcome State Fault Refusal :=
  mtsOp o s true fun _ v => .ok (some (if v = 0 then { s with pkg := { s.pkg with polOvf := 0 } } else s))

/-! ## Steps of a steward-mode core seen as events -/

/-- The instruction that a steward-mode core issues next, with the state after its fetch; none while it waits, its fetch waits at its home, it
has halted, or it is about to trap (R421). -/
def stewNext (s : State) (n : Nat) : Option (Instr × State) :=
  if (s.stew n).halted || (s.stew n).waiting.isSome || fetchHolds s n then none
  else match fetchWord s n with
    | none => none
    | some (w, s') => match decode .steward w with
      | .ok i => some (i, s')
      | .error _ => none

/-- An event that is the next instruction of a steward-mode core: that instruction is executed, and metered (R389), if `k` knows it for the
event's. -/
def runNext (s : State) (n : Nat) (k : Instr → Option (State → Host.Outcome State Fault Refusal)) : Host.Outcome State Fault Refusal :=
  match stewNext s n with
  | none => .next s
  | some (i, s') => match k i with
    | none => .next s
    | some f => f { chargeEnergy s' (stewActor n) (Config.energyWeight s'.stepNo) with actor := stewActor n }

/-- The live writes of a configuration word that a test picks: by CFGW, or by ST in the configuration space. -/
def cfgWrites (s : State) (n : Nat) (test : CfgAddr → Bool) : Instr → Option (State → Host.Outcome State Fault Refusal)
  | .cfgw o =>
    if !xBit o.x 0 && test (cfgFields (word (srcWord s (.stew n (s.stew n)) o o.a))) then some (execCfgw o) else none
  | .st o =>
    if memSpace o = 5 && test (cfgFields (word (memEa s (.stew n (s.stew n)) o / 8))) then some (execSt o) else none
  | _ => none

/-- An event that is a live configuration write of a steward-mode core. -/
def cfgEvent (s : State) (test : CfgAddr → Bool) : Host.Outcome State Fault Refusal :=
  runNext s s.event.unit (cfgWrites s s.event.unit test)

/-- ARRAY_RELEASE_WORD: the write of an array release word (R277). -/
def execArrayReleaseWord (s : State) : Host.Outcome State Fault Refusal := cfgEvent s fun a => a.cls == 1 && a.off == 0x30
/-- CELSPLIT_WRITE: the write of CELSPLIT (R373). -/
def execCelsplitWrite (s : State) : Host.Outcome State Fault Refusal := cfgEvent s fun a => a.cls == 3 && a.off == 0
/-- HOMEMASK_WRITE: the write of HOMEMASK (R391). -/
def execHomemaskWrite (s : State) : Host.Outcome State Fault Refusal := cfgEvent s fun a => a.cls == 3 && a.off == 1
/-- INGB_WRITE: the write of an ingress binding (R433). -/
def execIngbWrite (s : State) : Host.Outcome State Fault Refusal :=
  cfgEvent s fun a => a.cls == 3 && decide (0x440 ≤ a.off) && decide (a.off < 0x480)
/-- DEAD_PEER_CLEAR: the write of a word of the dead-peer bitmap (R430). -/
def execDeadPeerClear (s : State) : Host.Outcome State Fault Refusal :=
  cfgEvent s fun a => a.cls == 3 && decide (0x500 ≤ a.off) && decide (a.off < 0x540)
/-- ROUTE_TABLE_WRITE: the write of a word of the device route table; kind 1: a write that waited for the tokens on the old port takes effect
(R427; log 100). -/
def execRouteTableWrite (s : State) : Host.Outcome State Fault Refusal :=
  if s.event.kind = 1 then .next (reroute s) else cfgEvent s fun a => a.cls == 3 && decide (0x800 ≤ a.off)

/-- ECTX_WRITE: the store of ECTX in the physical space (R398). -/
def execEctxWrite (s : State) : Host.Outcome State Fault Refusal :=
  let n := s.event.unit
  runNext s n fun i => match i with
    | .st o => if memSpace o = 4 && (engineWordAt (memEa s (.stew n (s.stew n)) o)).any fun (_, i) => i == 0 then some (execSt o) else none
    | _ => none

end Sys2Proof.Machine
end

