-- ==== Sys2Proof/Machine/Observe.lean ====
section
/-! DEFINITION. Observation: the writes of its registers (R470), the freeze and the dump of the trace ring (R471, R472), releases of stopped
elements (R473), counts (R474, R475), channel counts (R476) and the stall walker (R477). -/

namespace Sys2Proof.Machine

/-- OBCORE_RELEASE: each 1 releases an element of the selected core (R470, R473). -/
def execObcoreRelease (o : Ops) (s : State) : Host.Outcome State Fault Refusal :=
  mtsCore o s fun core v =>
    some ((List.range 4).foldl (fun s i =>
      if bitOf v i then s.setElem (core * 4 + i) { s.elem (core * 4 + i) with stopped := false } else s) s)

/-- Whether another cluster of the die traces (R470). -/
def otherTraces (s : State) (cl : Nat) : Bool :=
  (List.range 4).any fun i => cl / 4 * 4 + i != cl && bitOf (s.cluster (cl / 4 * 4 + i)).obctl 63

/-- OBCTL_WRITE: TEN stays 0 while another cluster of the die traces; setting it empties the ring and clears FROZEN and DUMPED (R470,
R472). -/
def execObctlWrite (o : Ops) (s : State) : Host.Outcome State Fault Refusal :=
  mtsOp o s false fun n v =>
    let cl := stewCluster n
    let c := s.cluster cl
    let v := setBits v 61 32 0
    .ok (some (if bitOf v 63 && !otherTraces s cl then
        s.setCluster cl { c with obctl := v, frozen := false, dumped := false, trigger := none, ring := [], trhead := 0, wrapped := false }
      else s.setCluster cl { c with obctl := setBits v 63 63 0 }))

/-- TRACE_FREEZE: POST core clocks after the trigger record the ring is frozen (R471). -/
def execTraceFreeze (s : State) : Host.Outcome State Fault Refusal :=
  let cl := s.event.unit
  let c := s.cluster cl
  .next (if c.trigger.any fun t => decide (t + bits c.obctl 15 0 ≤ s.clock) then
      s.setCluster cl { c with frozen := true, trigger := none }
    else s)

/-- Writes blocks of bytes in the physical space from an address on; the first that fails gives its cause. -/
def writeBlocks (n : Nat) : Nat → List (List Byte) → State → Except Why State
  | _, [], s => .ok s
  | a, b :: rest, s => match writeAt s (.stew n) none a b a with
    | (_, .error w) => .error w
    | (s, .ok ()) => writeBlocks n (a + b.length) rest s

/-- The bytes of a 32-byte record. -/
def TrapRec.bytes (r : TrapRec) : List Byte := [r.w0, r.w1, r.w2, r.w3].flatMap fun w => bytesOfNum 8 w.toNat

/-- A 4 KiB aligned physical address: its low bits are dropped. -/
def pageAt (v : W64) : Nat := bits v 51 12 * 4096

/-- The slots of a ring from the oldest record on. -/
def ringOrder (c : Cluster) : List Nat :=
  let first := if c.wrapped then c.trhead else 0
  (List.range 524288).map fun i => (first + i) % 524288

/-- TRDUMP: tracing ends, and the ring is copied to memory (R472), once the homes of the copy do not hold it (R421). -/
def execTrdump (o : Ops) (s : State) : Host.Outcome State Fault Refusal :=
  mtsOp o s false fun n v =>
    let cl := stewCluster n
    let c := s.cluster cl
    let s := s.setCluster cl { c with obctl := setBits c.obctl 63 63 0 }
    if homeHolds s (pageAt v) (2 ^ 24) true (die := some (stewDie n)) then .ok none
    else match writeBlocks n (pageAt v) ((ringOrder c).map fun i => (Tab.get (default : TrapRec) c.ring i).bytes) s with
    | .error w => .error w
    | .ok s => .ok (some (s.setCluster cl { s.cluster cl with dumped := true }))

/-- HSPILL_WRITE: the spill area starts afresh (R475). -/
def execHspillWrite (o : Ops) (s : State) : Host.Outcome State Fault Refusal :=
  mtsOp o s false fun n v =>
    let cl := stewCluster n
    .ok (some (s.setCluster cl { s.cluster cl with hspill := word (bits v 51 0), hspillAt := 0, spillFull := false }))

/-- HCTL_ENABLE: HEN, with HOVF cleared, and FLUSH, which waits while the homes of the spill area hold it (R421, R470, R475). -/
def execHctlEnable (o : Ops) (s : State) : Host.Outcome State Fault Refusal :=
  mtsOp o s false fun n v =>
    let cl := stewCluster n
    let s := s.setCluster cl { s.cluster cl with hen := bitOf v 63, hovf := 0 }
    if bitOf v 62 && spillHeld s cl 0 (spillLength (s.cluster cl)) then .ok none
    else .ok (some (if bitOf v 62 then flushCounts s cl else s))

/-- HCTL_FLUSH: the MTS to HCTL with FLUSH, as the next instruction of a steward-mode core. -/
def execHctlFlush (s : State) : Host.Outcome State Fault Refusal :=
  let n := s.event.unit
  runNext s n fun i => match i with
    | .hctlEnable o => if bitOf (word (srcWord s (.stew n (s.stew n)) o o.a)) 62 then some (execHctlEnable o) else none
    | _ => none

/-- COUNT_SPILL: the entry of a cluster's count table that was evicted first is written to the spill area, unless its home holds the write (R421, R475). -/
def execCountSpill (s : State) : Host.Outcome State Fault Refusal :=
  let cl := s.event.unit
  let c := s.cluster cl
  .next (match c.evicted with
    | [] => s
    | x :: rest => if spillHeld s cl c.hspillAt 16 then s else spillEntry (s.setCluster cl { c with evicted := rest }) cl x)

/-- CHANNEL_COUNT_CLEAR: an MTS of 0 clears a count of the selected channel; of any other value it is ignored (R470). -/
def execChannelCountClear (o : Ops) (s : State) : Host.Outcome State Fault Refusal :=
  mtsOp o s false fun n v =>
    let core := cselCore n (s.stew n)
    let c := s.core core
    let num := srNumber o.x
    .ok (some (if v != 0 then s
      else if num = 0x141 then s.setCore core { c with chfull := Tab.set 0 c.chfull c.chsel s.clock }
      else if num = 0x142 then s.setCore core { c with chempty := Tab.set 0 c.chempty c.chsel s.clock }
      else s.setCore core { c with chmove := Tab.set 0 c.chmove c.chsel s.clock }))

/-- The record of the stall walker for a core; a fused-off core's is zero (R476, R477; log 27). -/
def walkRecord (s : State) (core : Nat) : TrapRec :=
  if isFused s core then default
  else
    let mask := fun (k : Nat) => packNum 1 ((List.range 32).map fun ch => ofBool (channelState s core ch (s.clock / 2) == k))
    let free := packNum 7 ((List.range 4).map fun i => 64 - (entryUse (s.elem (core * 4 + i))).length)
    { w0 := word (mask 1 * 2 ^ 32 + mask 2), w1 := word (corestat s core), w2 := word (portstat s core),
      w3 := word (cycleOf s (clusterOf core) % 2 ^ 32 * 2 ^ 32 + stopBits s core * 2 ^ 28 + free) }

/-- WALKGO: a walk starts, from the cluster's first core on; one that runs starts again, with WALKED cleared (R477; log 30). An address that
cannot be written is refused at once. -/
def execWalkgo (o : Ops) (s : State) : Host.Outcome State Fault Refusal :=
  mtsOp o s false fun n v =>
    let cl := stewCluster n
    let c := s.cluster cl
    match writeBlocks n (pageAt v) (List.replicate 128 (TrapRec.bytes default)) s with
    | .error w => .error w
    | .ok _ => .ok (some (s.setCluster cl { c with walk := some { pa := pageAt v, records := [] }, walked := c.walked && c.walk.isNone }))

end Sys2Proof.Machine
end

