-- ==== Sys2Proof/Machine/Repair.lean ====
section
/-! DEFINITION. Frames, regions and ports in the hands of a steward: CTXPRI (R357), PARK and UNPARK (R358, R359), DRAIN (R360), RESUME
(R361), TLBINV (R362). -/

namespace Sys2Proof.Machine

/-! ## CTXPRI and PARK (R357, R358) -/

/-- CTXPRI: it waits for the end of the context's firing (R104). -/
def execCtxpri (o : Ops) (s : State) : Host.Outcome State Fault Refusal :=
  withStew s fun n st =>
    let x := Agent.stew n st
    let q := word (srcWord s x o o.a)
    withCfgAddr s n q (encodeFields 0xF8 o) [0] fun a =>
      let v := word (srcWord s x o o.b)
      let w := ctxWord s a.elem a.ctx
      if bits v 63 4 != 0 then cfgDone s o n (cfgStatus Cause.badfield 0 q)
      else if !bitOf w 63 then cfgDone s o n (cfgStatus Cause.cfgstate 0 q)
      else if (s.elem a.elem).firing.any fun f => f.frame.ctx == a.ctx then s
      else cfgDone (s.setCore a.pkgCore ((s.core a.pkgCore).setCtxWord a.el a.ctx 0 (setBits w 62 59 (bits v 3 0)))) o n 0

/-- Whether a frame has a tag. -/
def Frame.hasTag (f : Frame) (ctx ent : Nat) (ts : W64) : Bool := f.ctx == ctx && f.ent == ent && f.ts == ts

/-- Word 0 of the lay-by record of a frame that no fault of its own withdraws: PRE, and the START slot. -/
def withdrawn0 (s : State) (cause e : Nat) (f : Frame) : W64 :=
  elemWord0 s cause (bits (entryWord s e f.ctx f.ent) 62 58) true false e f.ctx f.ent

/-- PARK: it waits while the frame fires. A record that a PARKWAIT frame is to have is not free (R110). -/
def execPark (o : Ops) (s : State) : Host.Outcome State Fault Refusal :=
  withStew s fun n st =>
    let x := Agent.stew n st
    let q := word (srcWord s x o o.a)
    withCfgAddr s n q (encodeFields 0xF9 o) [0] fun a =>
      let ts := word (srcWord s x o o.b)
      let e := a.elem
      if 8 ≤ a.off then raise s Cause.cfgaddr q
      else if (s.elem e).firing.any fun f => f.frame.hasTag a.ctx a.off ts then s
      else match (s.elem e).frames.find? fun f => (f.state == .filling || f.state == .complete) && f.hasTag a.ctx a.off ts with
        | none => cfgDone s o n 0
        | some f =>
          let image := ctxImage s e a.ctx
          match if (parkwaits s e image).isEmpty then freeRecord s image e 64 64 else none with
          | none => cfgDone s o n 0
          | some k =>
            let w0 := withdrawn0 s Cause.parked e f
            let s := writeRecord (takeFrame s e f) image e k w0 f false
            let s := trace (watchConsumed s f.tokens) 3 0 (bits w0 51 47) e f (laybyVa s image e k)
            cfgDone s o n (laybyVa s image e k)

/-! ## UNPARK (R111, R359) -/

/-- The images whose regions a cluster knows: those of its valid contexts, and those of its waiting table. -/
def knownImages (s : State) (cl : Nat) : List Nat :=
  clusterImages s cl ++ (s.cluster cl).wta.filterMap fun (_, w) => if bitOf w 63 then some (bits w 47 32) else none

/-- The images within the reach of a steward-mode core. -/
def reachImages (s : State) (n : Nat) : List Nat :=
  if n < 16 then knownImages s n
  else if n < 20 then (List.range 4).flatMap fun c => knownImages s ((n - 16) * 4 + c)
  else (List.range 16).flatMap (knownImages s)

/-- The lay-by record that an address names for a steward-mode core: its image, its number in the lay-by, and its physical address. A
region has 128 records for each element that it occupies; an image that occupies none has none (R110). -/
def findRecord (s : State) (n : Nat) (va : W64) : Option (Nat × Nat × Nat) :=
  ((reachImages s n).eraseDups.filterMap fun image =>
    let (base, pa) := laybyOf s image
    let off := va.toNat - base.toNat
    let k := off / 1280
    let m := (regionElems s image).length
    if base.toNat ≤ va.toNat ∧ off % 1280 = 0 ∧ k < 128 * m then some (image, k, pa.toNat + off) else none).head?

/-- A lay-by record as it stands in memory. -/
structure Parked where
  w0 : W64
  ts : W64
  h2 : W64
  l : Option Token
  r : Option Token
  p : Option Token
  x : Option Token
  deriving DecidableEq, Repr, Inhabited

/-- Reads a lay-by record of a region at a physical address (R109). -/
def readRecord (s : State) (image pa : Nat) : Parked :=
  let h2 := word (s.readNum (pa + 16) 8)
  let tok := fun (bit off : Nat) => if bitOf h2 bit then some (readSlot s (pa + off) image) else none
  { w0 := word (s.readNum pa 8), ts := word (s.readNum (pa + 8) 8), h2 := h2,
    l := tok 61 64, r := tok 60 352, p := tok 59 640, x := tok 58 928 }

/-- The element that a record names. -/
def Parked.elem (p : Parked) : Nat :=
  (bits p.w0 29 28 * 512 + bits p.w0 27 26 * 128 + bits p.w0 25 22 * 8 + bits p.w0 21 19) * 4 + bits p.w0 18 17
/-- The context that a record names. -/
def Parked.ctx (p : Parked) : Nat := bits p.w0 16 14

/-- The frame of a record, for its trace record. -/
def Parked.frame (p : Parked) : Frame :=
  { ms := 0, ctx := p.ctx, ent := bits p.w0 13 11, ts := p.ts, l := p.l, r := p.r, p := p.p, x := p.x, state := .complete, order := 0,
    waited := 0, trap0 := p.w0, trap3 := 0, poison := bitOf p.h2 62 }

/-- Why UNPARK refuses a record: the reason, 1 to 4. `drop` says that its mode is 1. -/
def unparkReason (s : State) (k : Nat) (p : Parked) (drop : Bool) : Option Nat :=
  if !bitOf p.h2 63 then some 1
  else if bitOf p.h2 62 && !drop then some 2
  else if !ctxValid s p.elem p.ctx && !drop then some 3
  else if k % 128 < 64 then some 4
  else none

/-- Frees the record at a physical address: V := 0. -/
def freeRecordAt (s : State) (pa : Nat) : State := s.writeNum (pa + 16) 8 (setBits (word (s.readNum (pa + 16) 8)) 63 63 0).toNat

/-- Returns tokens to their element, in order; none where one must wait (R86, R199). -/
def deliverAll (s : State) : List Token → Option State
  | [] => some s
  | t :: rest => (deliver s t).bind fun s => deliverAll s rest

/-- Drops a parked token: -1, tainted, with its batch tag (R111). -/
def dropParked (s : State) (e : Nat) (t : Token) : State := recordDec s (clusterOf (coreOf e)) (tokDec t) true

/-- What UNPARK does to a record: `k` gives the state after it, none while it must wait. The freed record goes to the oldest PARKWAIT
frame of its region (R110). -/
def unpark (o : Ops) (s : State) (drop : Bool) (k : State → Parked → Option State) : Host.Outcome State Fault Refusal :=
  withStew s fun n st =>
    let va := word (srcWord s (.stew n st) o o.a)
    let refuse := fun (r : Nat) => cfgDone s o n (cfgStatus Cause.unparkref 0 (word r))
    match findRecord s n va with
    | none => refuse 1
    | some (image, i, pa) =>
      let p := readRecord s image pa
      match unparkReason s i p drop with
      | some r => refuse r
      | none => match k s p with
        | none => s
        | some t => cfgDone (trace (releaseParkwait (freeRecordAt t pa) p.elem image) (if drop then 5 else 4) 0 (bits p.w0 51 47) p.elem p.frame va) o n 0

/-- UNPARK_REPLAY: L, R and P return, and the extra token after them: it travels as an arrival, so the frame may fire before it. -/
def execUnparkReplay (o : Ops) (s : State) : Host.Outcome State Fault Refusal :=
  unpark o s false fun s p =>
    (deliverAll s ([p.l, p.r, p.p].filterMap id)).bind fun s => match p.x with
      | none => some s
      | some t =>
        if obufRoom s (coreOf p.elem) (p.elem % 4) p.ctx t then
          some { s with net := s.net ++ [{ tok := t, src := none, net := if tokWide t then 1 else 2 }] }
        else none

/-- UNPARK_DROP: every token is dropped, tainted, and the record is freed, as `tqloop` has it for a cause other than DUPOP (R365). -/
def execUnparkDrop (o : Ops) (s : State) : Host.Outcome State Fault Refusal :=
  unpark o s true fun s p => some (([p.l, p.r, p.p, p.x].filterMap id).foldl (fun s t => dropParked s p.elem t) s)

/-- UNPARK_FRAME: L, R and P return, and the extra token is dropped, tainted, as `tqloop` has it for DUPOP (R365). -/
def execUnparkFrame (o : Ops) (s : State) : Host.Outcome State Fault Refusal :=
  unpark o s false fun s p =>
    (deliverAll s ([p.l, p.r, p.p].filterMap id)).map fun s => p.x.toList.foldl (fun s t => dropParked s p.elem t) s

/-! ## RESUME (R212, R361) -/

/-- A HELD port flows again, its kept request retried by the translation unit, or failed. -/
def resumePort (s : State) (core p : Nat) (fail : Bool) : State :=
  let c := s.core core
  let x := c.port p
  let s := s.setCore core (c.setPort p { x with held := false, kept := none })
  match x.kept with
  | some r => if fail then failReq (dropReq s core p r) r (Cause.pageflt, word ((walkAddress r).2 % 2 ^ 56)) else s
  | none => s

/-- RESUME of either kind. -/
def resume (o : Ops) (s : State) (fail : Bool) : Host.Outcome State Fault Refusal :=
  withStew s fun n st =>
    let q := word (srcWord s (.stew n st) o o.a)
    withCfgAddr s n q (encodeFields 0xFC o) [1] fun a =>
      if 8 ≤ a.off then raise s Cause.cfgaddr q
      else if !((s.core a.pkgCore).port a.off).held then cfgDone s o n (cfgStatus Cause.notheld 0 0)
      else cfgDone (resumePort s a.pkgCore a.off fail) o n 0

/-- RESUME without FAIL. -/
def execResume (o : Ops) (s : State) : Host.Outcome State Fault Refusal := resume o s false
/-- RESUME with FAIL. -/
def execResumeFail (o : Ops) (s : State) : Host.Outcome State Fault Refusal := resume o s true

/-! ## DRAIN (R322, R323, R360) -/

/-- Abandons the kept request of every HELD port that keeps one of a region. -/
def abandonPorts (s : State) (image : Nat) : State :=
  s.cores.foldl (fun s (core, c) => (List.range 8).foldl (fun s p =>
    if (c.port p).held && (c.port p).kept.any (fun r => ctxImage s r.elem r.ctx == image) then resumePort s core p true else s) s) s

/-- Whether a route of a context goes to a valid context of a region, by one of its branches; a muster route and a host egress route name
none (R56, R311). -/
def routeReaches (s : State) (image e ctx r : Nat) (w : W64) : Bool :=
  routeKind w != 0 && routeKind w != 6 && routeKind w != 8 && routeDev s w == s.devId && (routeCores s e ctx r w).any fun c =>
    ctxValid s (c * 4 + bits w 31 30) (bits w 29 27) && ctxImage s (c * 4 + bits w 31 30) (bits w 29 27) == image

/-- Whether another resident region has a route into a region. -/
def routedInto (s : State) (image : Nat) : Bool := s.cores.any fun (c, core) => core.cfg0.any fun (k, w) =>
  let e := c * 4 + k / 1024
  let ctx := k / 128 % 8
  decide (0x30 ≤ k % 128) && decide (k % 128 < 0x40) && ctxValid s e ctx && ctxImage s e ctx != image &&
    routeReaches s image e ctx (k % 128 - 0x30) w

/-- Whether a context shows activity of R322's third item, or a frame in PARKWAIT (R110). -/
def ctxActive (s : State) (cl e ctx : Nat) : Bool :=
  let c := s.core (coreOf e)
  ctxRequests s e ctx || (c.ports.any fun p => p.held && p.kept.any fun r => r.elem == e && r.ctx == ctx) ||
    (c.watches.any fun w => w.elem == e && w.ctx == ctx) || ctxEmits s e ctx ||
    (c.accs.any fun a => a.lock.isSome || a.data != AccData.init) ||
    ((s.elem e).frames.any fun f => f.ctx == ctx && f.state == .parkwait) ||
    (s.cluster cl).gate.any fun g => g.toks.any fun t => t.region == ctxImage s e ctx

/-- Whether a context has a request in flight, or one that still has to leave its commit buffer. -/
def requestsLeft (s : State) (e ctx : Nat) : Bool :=
  ctxRequests s e ctx || (s.elem e).releases.any fun r => r.ctx == ctx && (!r.out.isEmpty || r.items.any fun i => match i with
    | .req _ _ => true
    | .send _ _ _ _ _ | .counted _ _ _ | .reqn _ _ _ | .sendm _ _ _ _ _ | .snapped _ _ _ _ => false)

/-- Why DRAIN refuses an entry of a cluster's waiting table: the reason, 1 to 4. -/
def drainReason (s : State) (cl n : Nat) : Option Nat :=
  let w := Tab.get 0 (s.cluster cl).wta n
  let image := bits w 47 32
  let cs := regionCtxs s image
  if !bitOf w 63 || bits w 62 61 != 2 then some 1
  else if spansDevices s image || cs.any fun (e, _) => clusterOf (coreOf e) != cl then some 2
  else if routedInto s image then some 3
  else if cs.any fun (e, c) => ctxActive s cl e c then some 4
  else none

/-- DRAIN of an entry of the issuer's cluster: with ABANDON it waits until the region has no request in flight. An entry whose eviction runs already
is accepted, and nothing more begins (log 130). -/
def execDrain (o : Ops) (s : State) : Host.Outcome State Fault Refusal :=
  withStew s fun n st =>
    let cl := stewCluster n
    let k := bits (word (srcWord s (.stew n st) o o.a)) 5 0
    let image := bits (Tab.get 0 (s.cluster cl).wta k) 47 32
    let abandon := xBit o.x 0 && bitOf (Tab.get 0 (s.cluster cl).wta k) 63
    let s := if abandon then abandonPorts s image else s
    if abandon && (regionCtxs s image).any fun (e, c) => requestsLeft s e c then s
    else match drainReason s cl k with
      | some r => cfgDone s o n (cfgStatus Cause.drainref 0 (word r))
      | none =>
        let c := s.cluster cl
        let cores := ((regionCtxs s image).map fun (e, _) => coreOf e).eraseDups
        let s := s.setCluster cl { c with evicting := if c.evicting.any fun x => x.1 == k then c.evicting else c.evicting ++ [(k, image, cores)] }
        cfgDone (s.setHome image { s.home image with hold := true }) o n 0

/-- Whether a core of a region that is being evicted has received every drain marker: no core of the region fires, emits, holds a frame in
PARKWAIT, or a release that could still send or whose requests may still reply, and no token of the region is on its way to the core (R296, R323). -/
def markersIn (s : State) (image core : Nat) : Bool :=
  ((regionCtxs s image).all fun (e, c) =>
    !((s.elem e).firing.any fun f => f.frame.ctx == c) && !((s.elem e).frames.any fun f => f.ctx == c && f.state == .parkwait) &&
      !ctxEmits s e c &&
      !((s.elem e).releases.any fun r => r.ctx == c && (!r.items.isEmpty || !r.out.isEmpty || r.gated != 0))) &&
  !(s.net.any fun f =>
    let loc := tokLoc f.tok
    locDev loc == s.devId && locCore loc == core && ctxImage s (core * 4 + locEl loc) (locCtx loc) == image)

/-- Spills the FILLING and COMPLETE frames of a region from an element: each into the lowest free spill record (R87). -/
def spillElem (s : State) (image e : Nat) : State :=
  ((s.elem e).frames.filter fun f => (f.state == .filling || f.state == .complete) && ctxImage s e f.ctx == image).foldl (fun s f =>
    match freeRecord s image e 0 64 with
    | some k => writeRecord (watchConsumed (takeFrame s e f) f.tokens) image e k (withdrawn0 s 0 e f) f false
    | none => s) s

/-- What the contexts of an image on a core have consumed with EOS = 1 is kept while the image is evicted (R320, R323). -/
def keepEos (s : State) (image core : Nat) (ctxs : List (Nat × Nat)) : State :=
  let c := s.cluster (clusterOf core)
  let seen := (s.core core).eosSeen.filter fun x => ctxs.contains (core * 4 + x / 256, x / 32 % 8)
  s.setCluster (clusterOf core) { c with
    keptEos := (c.keptEos.filter fun k => !(k.1 == image && k.2.1 == core)) ++ seen.map fun x => (image, core, x) }

/-- DRAIN_MARKER: a core of a region that is being evicted has every marker: its frames are spilled, and its contexts become invalid; with
the last core the entry is EVICTED, and the steward learns it (R323, R360). What they have consumed with EOS is kept for the reload (R320). -/
def execDrainMarker (s : State) : Host.Outcome State Fault Refusal :=
  let core := s.event.unit
  let cl := clusterOf core
  let c := s.cluster cl
  .next (match c.evicting.find? fun (_, _, cores) => cores.contains core with
    | none => s
    | some (n, image, cores) =>
      if !markersIn s image core then s
      else
        let cs := (regionCtxs s image).filter fun (e, _) => coreOf e == core
        let s := (cs.map Prod.fst).eraseDups.foldl (fun s e => spillElem s image e) s
        let s := cs.foldl (fun s (e, x) => invalidateContext s e x) (keepEos s image core cs)
        let left := cores.filter fun x => x != core
        let c := s.cluster cl
        let rest := c.evicting.filter fun (m, _, _) => m != n
        if left.isEmpty then
          let w := Tab.get 0 c.wta n
          let s := s.setCluster cl { c with evicting := rest, wta := Tab.set 0 c.wta n (setBits w 62 61 3), placed := none }
          s.setStew cl { s.stew cl with evDrained := true }
        else s.setCluster cl { c with evicting := rest ++ [(n, image, left)] })

/-- RELOAD: an image of a cluster that the loader has placed again, all its contexts valid: the frames of its spill records return; then
its milestones are released and it runs (R324). -/
def execReload (s : State) : Host.Outcome State Fault Refusal :=
  let cl := s.event.unit
  let image := s.event.index
  let back := fun (s : Option State) (ek : Nat × Nat) => s.bind fun s =>
    let pa := laybyPa s image ek.1 ek.2
    if recordUsed s pa then
      let p := readRecord s image pa
      deliverAll (freeRecordAt s pa) ([p.l, p.r, p.p].filterMap id)
    else some s
  .next (if !(s.cluster cl).reloading.contains image || !((Tab.get [] s.places image).all fun k => ctxValid s (k / 8) (k % 8)) then s
    else match ((regionElems s image).flatMap fun e => (List.range 64).map fun k => (e, k)).foldl back (some s) with
      | none => s
      | some s =>
        let c := s.cluster cl
        let s := s.setCluster cl { c with reloading := c.reloading.filter fun i => i != image, keptEos := c.keptEos.filter fun k => k.1 != image }
        s.setHome image { s.home image with hold := false })

/-! ## TLBINV (R362) -/

/-- A translation unit drops its entries of the page that holds an address, or all. -/
def invTlb (all : Bool) (va : Nat) (d : Die) : Die :=
  { d with tlb := d.tlb.filter fun t => !(all || (decide (t.base ≤ va) && decide (va < t.base + t.size))) }

/-- TLBINV: the walks of this model end in the step that starts them. -/
def execTlbinv (o : Ops) (s : State) : Host.Outcome State Fault Refusal :=
  withStew s fun n st =>
    let x := Agent.stew n st
    let va := srcWord s x o o.a % 2 ^ 56
    if xField o.x 3 1 = 3 then
      (if n != 20 then raise s Cause.priv (encodeFields 0xFD o)
       else finish { s with dies := s.dies.map (invTlb (xBit o.x 0) va) } o x)
    else finish (s.setDie (stewDie n) (invTlb (xBit o.x 0) va (s.die (stewDie n)))) o x

end Sys2Proof.Machine
end

