-- ==== Sys2Proof/Machine/Package.lean ====
section
/-! DEFINITION. MTS, the warm reset of a die by PKGRST (R420 to R422), the resets of a core and of a steward (R222, R336), and the starts
of the package (R411, R412). -/

namespace Sys2Proof.Machine

/-! ## Resets of a core and of a steward -/

/-- Invalidates every line of a core's L1: dirty sectors are not written back, so that memory holds what stands behind them (R222). -/
def loseL1 (s : State) (core : Nat) : State :=
  let s := (s.core core).l1.foldl (fun s (line, l) =>
    (maskSectors l.dirty).foldl (fun s i => s.writeNum (line * 128 + 16 * i) 16 (Tab.get 0 l.behind i)) s) s
  (s.core core).l1.foldl (fun s (line, _) => noteGone s core line) (s.setCore core { s.core core with l1 := [] })

/-- A table that holds one value for each channel of a core. -/
def allChannels (v : Nat) : Tab Nat := (List.range 32).foldl (fun t i => Tab.set 0 t i v) []

/-- The presence bits of a core's scratchpad are empty. -/
def emptyPresence (s : State) (core : Nat) : State :=
  { s with presence := s.presence.filter fun (k, _) => !(decide (scrAddr core 0 ≤ 8 * k) && decide (8 * k < scrAddr (core + 1) 0)) }

/-- Whether this device's keeper runs a request that awaits other devices, a multicast store, on its own (R445). -/
def keeperRuns (s : State) (r : Req) : Bool := r.kind == .rst && targetMuster r.aux && r.dev == s.devId

/-- Whether a request that awaits another device stands for a core's port: its own, or a part of one. -/
def portAwaits (core : Nat) (r : Req) : Bool := decide (r.elem / 4 = core) && (r.parent.isNone || r.parent == some Parent.request)

/-- No port of a core awaits another device any more (R222): its requests and the parts of them are forgotten. What this device's keeper
runs leaves the port; its set stays pinned until the answers come (R445). -/
def emptyOutstanding (s : State) (core : Nat) : State :=
  let left := (s.pkg.outstanding.filter fun r => !portAwaits core r || keeperRuns s r).map fun r =>
    if portAwaits core r then { r with port := 8 } else r
  { s with pkg := { s.pkg with outstanding := left } }

/-- Core reset (R222). Of the observation registers it clears OBCORE alone (R470). What a firing of the core has claimed of a chained array is free
(R267). -/
def coreReset (s : State) (core : Nat) : State :=
  let s := emptyOutstanding (emptyPresence (loseL1 s core) core) core
  let s := (List.range 4).foldl (fun s i => freeArrays s (core * 4 + i)) s
  let c := s.core core
  let s := s.setCore core { Core.init with ccycleBase := s.clock, chsel := c.chsel, chfull := c.chfull, chempty := c.chempty, chmove := c.chmove }
  let s := (List.range 4).foldl (fun s i => s.setElem (core * 4 + i) Elem.init) s
  let cl := clusterOf core
  freeEmptySlots (s.setCluster cl { s.cluster cl with placed := none }) cl

/-- Cluster reset clears CHSEL and the channel counts of its cores (R470). -/
def clearChannels (s : State) (core : Nat) : State :=
  let t := allChannels s.clock
  s.setCore core { s.core core with chsel := 0, chfull := t, chempty := t, chmove := t }

/-- CORE_RESET (R222). -/
def execCoreReset (s : State) : Host.Outcome State Fault Refusal := .next (coreReset s (s.event.unit % 2048))

/-- Forgets the requests of steward-mode core `n` that still wait somewhere. -/
def forgetStew (s : State) (n : Nat) : State :=
  let keep := fun (r : Req) => r.elem != stewMark + n
  let mute := fun (op : EngOp) => if keep op.req then op else { op with req := { op.req with op := low 6 op.req.op } }
  { s with
    cores := s.cores.mapVals Core.init fun _ c => { c with deferred := c.deferred.filter keep },
    dies := s.dies.map fun d => { d with deferred := d.deferred.filter keep },
    pkg := { s.pkg with
      outstanding := s.pkg.outstanding.filter keep,
      engines := s.pkg.engines.mapVals Engine.init fun _ e => { e with waits := e.waits.filter keep, queue := e.queue.map mute },
      musters := s.pkg.musters.mapVals Muster.init fun _ m => { m with queue := m.queue.filter keep },
      signposts := s.pkg.signposts.map fun p => { p with queue := p.queue.filter keep } } }

/-- Steward reset of core `n` (R336): a steward's trap queue is empty too, and no transaction is open on its cores. Its mailbox and its
instruction cache stay (log 32). -/
def stewardReset (s : State) (n : Nat) : State :=
  let s := forgetStew s n
  let st := s.stew n
  let s := s.setStew n { Stew.init s.pkg.bootvec with mbox := st.mbox, icache := st.icache }
  if n < 16 then
    let s := s.setCluster n { s.cluster n with tq := [], tf := [], lost := 0 }
    { s with cores := s.cores.mapVals Core.init fun k c => if clusterOf k = n ∧ c.txn.state = .opened then { c with txn := Txn.init } else c }
  else s

/-- STEWARD_RESET (R336). -/
def execStewardReset (s : State) : Host.Outcome State Fault Refusal := .next (if s.event.unit < 21 then stewardReset s s.event.unit else s)

/-! ## The warm reset of one die (R420) -/

/-- PKGRST with STd at a value. -/
def setStage (s : State) (d v : Nat) : State := { s with pkg := { s.pkg with pkgrst := setBits s.pkg.pkgrst (4 * d + 3) (4 * d) v } }

/-- The step that a write of PKGRST asks for: the one die whose field changes, its old stage and its new one. -/
def pkgrstStep (old new : W64) : Option (Nat × Nat × Nat) :=
  match (List.range 4).filter fun d => bits old (4 * d + 3) (4 * d) != bits new (4 * d + 3) (4 * d) with
  | [d] => if new.toNat < 2 ^ 16 then some (d, bits old (4 * d + 3) (4 * d), bits new (4 * d + 3) (4 * d)) else none
  | _ => none

/-- Whether a die holds no valid context and no operation is queued on its stacks (R420). -/
def dieIdle (s : State) (d : Nat) : Bool :=
  (s.cores.all fun (c, core) => dieOf c != d || core.cfg0.all fun (k, w) => !(k % 128 == 0 && bitOf w 63)) &&
    s.pkg.engines.all fun (h, e) => h / 128 != d || e.queue.isEmpty

/-- Whether the reeve may make a step: the step stands in R420's table, its condition holds, the die is not D0, and the other dies
are LIVE. -/
def stepOk (s : State) (x : Nat × Nat × Nat) : Bool :=
  let (d, a, b) := x
  d != 0 && ((List.range 4).all fun i => i == d || resetStage s i == 0) &&
    (if a = 1 ∧ b = 2 then dieIdle s d
     else [(0, 1), (1, 0), (3, 4), (4, 5), (6, 7)].contains (a, b))

/-- The scrub of a core's scratchpad: zeros, and no latent error (R411; log 33). -/
def scrubScr (s : State) (core : Nat) : State :=
  let a := scrAddr core 0
  let b := scrAddr (core + 1) 0
  { s with mem := s.mem.filter fun (k, _) => !(decide (a ≤ k) && decide (k < b)),
           soft := s.soft.filter fun e => match e with
             | .slot c _ _ => c / 32 != core
             | .scr c _ _ => c != core
             | .l1 c _ _ _ => c != core
             | .obuf x _ _ _ => coreOf x != core
             | .store x _ _ => coreOf x != core
             | .l2 _ _ _ _ => true
             | .cellar _ _ _ => true
             | .hbm _ _ => true }

/-- The scrub of a cellar, unless its log holds no uncorrectable error (R411, step 6); the log is empty after it. -/
def scrubCellar (s : State) (d : Nat) : State :=
  if (s.die d).eccLog = 0 then s
  else
    let s := zeroCellar s d 0 (2 ^ 30)
    s.setDie d { s.die d with eccLog := 0 }

/-- The steward-mode cores of a die. -/
def dieStewards (d : Nat) : List Nat := [4 * d, 4 * d + 1, 4 * d + 2, 4 * d + 3, 16 + d]

/-- Die `d` resets and runs the die column of R411; its stewards wait for TRAINED. -/
def dieReset (s : State) (d : Nat) : State :=
  let s := purgeLines s d fun _ => true
  let s := (List.range 512).foldl (fun s i => scrubScr (clearChannels (coreReset s (512 * d + i)) (512 * d + i)) (512 * d + i)) s
  let s := (List.range 4).foldl (fun s i => s.setCluster (4 * d + i) { Cluster.init with cycleBase := s.clock }) s
  let s := scrubCellar s d
  let s := s.setDie d { Die.init with keys := (s.die 0).keys }
  let s := (dieStewards d).foldl (fun s n => (forgetStew s n).setStew n { Stew.init s.pkg.bootvec with halted := true }) s
  let mine := fun (k : Nat) => (decide (d < 2) && k == 0) || (d % 2 == 0 && k == 1) || (d % 2 == 1 && k == 2) || (decide (2 ≤ d) && k == 3)
  let s := { s with soft := s.soft.filter fun e => match e with
    | .l2 x _ _ _ => x != d
    | _ => true }
  { s with pkg := { s.pkg with
      ucie := s.pkg.ucie.mapIdx fun k x => if mine k then 0xFF else x,
      outstanding := s.pkg.outstanding.filter fun r => decide (stewMark ≤ r.elem) || dieOf (coreOf r.elem) != d || keeperRuns s r,
      engines := s.pkg.engines.mapVals Engine.init fun _ e =>
        { e with waits := e.waits.filter fun r => decide (stewMark ≤ r.elem) || dieOf (coreOf r.elem) != d } } }

/-- The live dies write back and invalidate the lines that they hold for die `d` (R422). -/
def returnLines (s : State) (d : Nat) : State :=
  (List.range 4).foldl (fun s x => if x = d then s else purgeLines s x fun line => rawHome (line * 128) == d) s

/-- A step of PKGRST by the reeve, made. -/
def makeStep (s : State) (x : Nat × Nat × Nat) : State :=
  let (d, _, b) := x
  let s := setStage s d b
  if b = 2 then setHomemask s (word (2 ^ d))
  else if b = 5 then dieReset s d
  else if b = 7 then returnLines s d
  else s

/-- A write of PKGRST by the reeve: RSTSEQ, or the step (R420). -/
def pkgrst (s : State) (v : W64) : Except Why State := match pkgrstStep s.pkg.pkgrst v with
  | none => .error (Cause.rstseq, v)
  | some x => if stepOk s x then .ok (makeStep s x) else .error (Cause.rstseq, v)

/-! ## MTS -/

/-- MTS of a register whose row is MTS itself (R351). -/
def execMts (o : Ops) (s : State) : Host.Outcome State Fault Refusal :=
  mtsOp o s false fun n v => match writeRegister s pkgrst n (srNumber o.x) (encodeFields 0xF3 o) v with
    | .error w => .error w
    | .ok t => .ok (some t)

/-- The MTS of a number with a value that a test picks. -/
def mtsWrites (s : State) (n num : Nat) (test : W64 → Bool) : Instr → Option (State → Host.Outcome State Fault Refusal)
  | .mts o => if srNumber o.x = num && test (word (srcWord s (.stew n (s.stew n)) o o.a)) then some (execMts o) else none
  | _ => none

/-- TQPOP_ORDINARY: the MTS of TQPOP with bit 0 set (R341). -/
def execTqpopOrdinary (s : State) : Host.Outcome State Fault Refusal :=
  runNext s s.event.unit (mtsWrites s s.event.unit 0x018 fun v => bitOf v 0)
/-- TQPOP_FATAL: the MTS of TQPOP with bit 1 set (R341). -/
def execTqpopFatal (s : State) : Host.Outcome State Fault Refusal :=
  runNext s s.event.unit (mtsWrites s s.event.unit 0x018 fun v => bitOf v 1)

/-- The reeve's write of PKGRST that takes a die from one stage to another. -/
def pkgrstEvent (s : State) (a b : Nat) : Host.Outcome State Fault Refusal :=
  runNext s 20 (mtsWrites s 20 0x048 fun v => match pkgrstStep s.pkg.pkgrst v with
    | some (_, x, y) => x == a && y == b
    | none => false)

/-- PKGRST_DRAIN: LIVE to DRAIN (R420). -/
def execPkgrstDrain (s : State) : Host.Outcome State Fault Refusal := pkgrstEvent s 0 1
/-- PKGRST_CANCEL: DRAIN to LIVE (R420). -/
def execPkgrstCancel (s : State) : Host.Outcome State Fault Refusal := pkgrstEvent s 1 0
/-- PKGRST_MASK: DRAIN to MASKED, the mask instant (R420, R421). -/
def execPkgrstMask (s : State) : Host.Outcome State Fault Refusal := pkgrstEvent s 1 2
/-- PKGRST_LINKDOWN: FLUSHED to LINKDOWN (R420). -/
def execPkgrstLinkdown (s : State) : Host.Outcome State Fault Refusal := pkgrstEvent s 3 4
/-- PKGRST_RESET: LINKDOWN to RESET (R411, R420). -/
def execPkgrstReset (s : State) : Host.Outcome State Fault Refusal := pkgrstEvent s 4 5
/-- PKGRST_RETURN: TRAINED to RETURN (R422). -/
def execPkgrstReturn (s : State) : Host.Outcome State Fault Refusal := pkgrstEvent s 6 7

/-- PKGRST_FLUSHED: the L2 and the directory of a MASKED die are flushed, and it is FLUSHED (R421). -/
def execPkgrstFlushed (s : State) : Host.Outcome State Fault Refusal :=
  let d := s.event.unit
  .next (if d < 4 ∧ resetStage s d = 2 then setStage (purgeLines s d fun _ => true) d 3 else s)

/-- PKGRST_TRAINED: the links of a die in RESET are up, and its stewards and its die service core start at BOOTVEC (R411, R420). -/
def execPkgrstTrained (s : State) : Host.Outcome State Fault Refusal :=
  let d := s.event.unit
  .next (if d < 4 ∧ resetStage s d = 5 then
      setStage ((dieStewards d).foldl (fun s n => s.setStew n { s.stew n with halted := false }) s) d 6
    else s)

/-- PKGRST_CLEAR: the clear instant: the live dies hold no line of a returning die, HOMEMASK is 0, and the die is LIVE (R422). -/
def execPkgrstClear (s : State) : Host.Outcome State Fault Refusal :=
  let d := s.event.unit
  .next (if d < 4 ∧ resetStage s d = 7 then setStage (setHomemask (returnLines s d) 0) d 0 else s)

/-! ## The starts of the package (R411, R412) -/

/-- First address of the flash window (R396). -/
def flashBase : Nat := 0xF000000000000

/-- Bytes of the flash window. -/
def flashBytes (s : State) (off n : Nat) : List Byte := s.readBytes (flashBase + off % 2 ^ 28) (min n (2 ^ 28))

/-- The reeve image that a start reads from the flash window; its signature stands behind it (R412; log 34). -/
def reeveImage (s : State) : List Byte := flashBytes s s.event.addr s.event.size

/-- The steward firmware that a start copies (R411, step 9; log 34). -/
def stewardFirmware (s : State) : List Byte := flashBytes s s.event.index s.event.unit

/-- Whether the boot ROM verifies the reeve image: the vendor key has the fused digest, and the image's signature verifies under it
(R412). -/
def bootVerifies (s : State) : Bool :=
  let key := s.pkg.fuses.vendorKey.toNat
  numOfBytes (shake256 (bytesOfNum 57 key) 64) == s.pkg.fuses.rootDigest.toNat &&
    Ed448.verify key (shake256 (reeveImage s) 64) (flashBytes s (s.event.addr + s.event.size) 114)

/-- The measurement of a start: the digests, and the identity secret, the first 57 bytes of SHAKE256 of the unique secret and the digest
of the reeve image (R412, R414). -/
def measure (s : State) : Measurement :=
  let digest := shake256 (reeveImage s) 64
  { reeveImage := BitVec.ofNat 512 (numOfBytes digest)
    stewardFirmware := BitVec.ofNat 512 (numOfBytes (shake256 (stewardFirmware s) 64))
    identity := BitVec.ofNat 456 (numOfBytes (shake256 (bytesOfNum 64 s.pkg.fuses.secret.toNat ++ digest) 57)) }

/-- Key slots after step 7: the vendor's key, the owner's where a certificate gives one, the others empty (R413). -/
def startKeys (s : State) : List (Option Nat) :=
  [some s.pkg.fuses.vendorKey.toNat, if s.event.op = 0 then none else some (s.event.payload.setWidth 456).toNat] ++ List.replicate 6 none

/-- Every unit of the package as a start leaves it before the boot ROM has verified the reeve image: the fuses, the memory, the latent
errors and the engines stay, and no steward-mode core runs (R411). -/
def bareStart (s : State) (mem : List Host.Cell) (soft : List SoftErr) (engines : Tab Engine) : State :=
  { State.reset with
    turn := s.turn, stepNo := s.stepNo, actor := s.actor, event := s.event, free := s.free, fresh := s.fresh, mem := mem, soft := soft,
    fused := s.fused, devId := s.devId, out := s.out,
    dies := s.dies.map fun _ => Die.init,
    stewards := List.replicate 21 { Stew.init 0 with halted := true },
    pkg := { Package.init with fuses := s.pkg.fuses, starts := s.pkg.starts + 1, engines := engines } }

/-- The package after a start. Where the reeve image does not verify, the reeve does not start, no steward is released, and the management
sideband reports it (R412). Where it does, keys are derived, the measurement is built, both firmwares are copied, and the reeve runs; BOOTVEC
is set and the others are released where the steward firmware verifies. The event says what the spec leaves to flash, certificates and
training (log 34). -/
def startPackage (s : State) (mem : List Host.Cell) (soft : List SoftErr) (engines : Tab Engine) : State :=
  let e := s.event
  let t := bareStart s mem soft engines
  if bootVerifies s then
    let boot := if e.flag then setBits e.w0 2 0 0 else 0
    let t := { t with
      dies := t.dies.map fun (d : Die) => ({ d with keys := startKeys s } : Die),
      stewards := (List.range 21).map fun n =>
        if n = 20 then Stew.init (setBits e.w2 2 0 0) else ({ Stew.init boot with halted := !e.flag } : Stew),
      pkg := { t.pkg with bootvec := boot, measured := measure s } }
    let t := t.writeBytes (e.w3.toNat % 2 ^ 39) (reeveImage s)
    if e.flag then t.writeBytes (e.w1.toNat % 2 ^ 39) (stewardFirmware s) else t
  else { t with out := .bootFailure :: t.out }

/-- Whether an address lies in the flash window, whose contents no start changes. -/
def flashCell (a : Nat) : Bool := inFlash a 1

/-- COLD_START (R411, R412): HBM, core SRAM and cellars are zero. -/
def execColdStart (s : State) : Host.Outcome State Fault Refusal :=
  .next (startPackage s (s.mem.filter fun (a, _) => flashCell a) [] [])

/-- What memory holds once every cache is invalid, nothing written back: the L1s, then the L2s. -/
def loseCaches (s : State) : State :=
  let s := s.cores.foldl (fun s (k, _) => loseL1 s k) s
  (List.range 4).foldl (fun s d => (s.die d).l2.foldl (fun s (line, l) =>
    (maskSectors l.dirty).foldl (fun s i => s.writeNum (line * 128 + 16 * i) 16 (Tab.get 0 l.behind i)) s) s) s

/-- The die of an address in the cellars' numbering. -/
def cellarDie (a : Nat) : Nat := (a - celBase) / 2 ^ 30

/-- Whether a cellar is kept by a package warm start: its log holds no uncorrectable error (R411, step 6). -/
def cellarKept (s : State) (d : Nat) : Bool := (s.die d).eccLog == 0

/-- PACKAGE_WARM_START (R411, R412): HBM is kept where its stacks stayed powered, which `kind` 1 says, with ETL, NEXT and ECTX; nothing else is
but cellars without a logged error. -/
def execPackageWarmStart (s : State) : Host.Outcome State Fault Refusal :=
  let t := loseCaches s
  let powered := s.event.kind = 1
  let mem := t.mem.filter fun (a, _) => flashCell a || (powered && inHbm a 1) || (decide (celBase ≤ a) && cellarKept s (cellarDie a))
  let soft := s.soft.filter fun e => match e with
    | .hbm _ _ => powered
    | .cellar d _ _ => cellarKept s d
    | _ => false
  .next (startPackage s mem soft (s.pkg.engines.mapVals Engine.init fun _ e =>
    { Engine.init with ectx := e.ectx, etl := e.etl, nextOp := e.nextOp }))

end Sys2Proof.Machine
end

