-- ==== Sys2Proof/Machine/Scheduler.lean ====
section
/-! DEFINITION. The block scheduler of a cluster (R318) and the retirement of a spliced predecessor (R319, R320). -/

namespace Sys2Proof.Machine

/-- WTA of an entry of a cluster. -/
def wtaOf (s : State) (cl n : Nat) : W64 := Tab.get 0 (s.cluster cl).wta n
/-- STATE of a valid entry: 0 WAITING, 1 LOADING, 2 RESIDENT, 3 EVICTED. -/
def entryState (s : State) (cl n : Nat) : Option Nat := if bitOf (wtaOf s cl n) 63 then some (bits (wtaOf s cl n) 62 61) else none

/-- Whether the scheduler considers an entry. -/
def considered (s : State) (cl n : Nat) : Bool := entryState s cl n == some 0 || entryState s cl n == some 3

/-- The score of an entry. -/
def score (s : State) (cl n : Nat) : Nat :=
  bits (wtaOf s cl n) 19 0 + (cycleOf s cl - (Tab.get 0 (s.cluster cl).wtb n).toNat) / 1024

/-- Whether an entry is a splice whose predecessor is RESIDENT. -/
def spliceReady (s : State) (cl n : Nat) : Bool :=
  let w := wtaOf s cl n
  entryState s cl n == some 0 && bitOf w 60 && entryState s cl (bits w 59 54) == some 2

/-- The entry that is to be loaded next: the lowest-numbered ready splice, else the one of highest score. -/
def topEntry (s : State) (cl : Nat) : Option Nat :=
  match (List.range 64).find? (spliceReady s cl) with
  | some n => some n
  | none =>
    let es := (List.range 64).filter (considered s cl)
    match (es.map (score s cl)).max? with
    | none => none
    | some m => es.find? fun n => score s cl n == m

/-- Contexts of a cluster that are free: on a core that is not fused off, with V = 0. -/
def freeContexts (s : State) (cl : Nat) : Nat :=
  let fused := popCount 128 (s.fused.getD cl 0).toNat
  let used := (s.cores.map fun (c, core) => if clusterOf c = cl then core.cfg0.countP fun (k, w) => k % 128 == 0 && bitOf w 63 else 0).sum
  (128 - fused) * 32 - used

/-- The regions of this device that hold a slot in some cluster. -/
def residentImages (s : State) : List Nat := (s.clusters.flatMap fun c => c.slots.map Slot.image).eraseDups

/-- Whether a region's cores, as placed, all lie on one die of this device, so that the die aggregator is its home (R187). -/
def onDie (s : State) (d image : Nat) : Bool := !spansDevices s image && (regionDies s image).all fun x => x == d

/-- The regions to which the aggregator that an image needs is home: of its die, or of the fabric for one that spans devices (R371, R448). -/
def homedWith (s : State) (cl image : Nat) : List Nat :=
  if spansDevices s image then (residentImages s).filter fun i => spansDevices s i && !homedAway s i
  else (residentImages s).filter fun i => !(regionDies s i).isEmpty && onDie s (cl / 4) i

/-- Whether the aggregator that an image needs as home has a place for it, with cores of this device counted among the region's, on which the
entry is about to be placed: of the package aggregator, which a region on more than one die needs, the spec bounds no number (R371, R448). -/
def homeRoom (s : State) (cl image : Nat) : Bool :=
  let l := homedWith s cl image
  ((Tab.get [] s.devices image).any fun d => decide (d < s.devId)) || (!spansDevices s image && !onDie s (cl / 4) image) || l.contains image || decide (l.length < 64)

/-- Whether the cluster holds what an entry needs: free contexts, those that a region left which is evicted, or whose reload is still to come, and a
region slot (R318, R324). -/
def hasPlace (s : State) (cl n : Nat) : Bool :=
  let w := wtaOf s cl n
  let image := bits w 47 32
  decide (bits w 31 20 ≤ freeContexts s cl) && ((findSlot s cl image).isSome || decide ((s.cluster cl).slots.length < 64)) &&
    ((bits w 62 61 != 3 && !(s.cluster cl).reloading.contains image) || (Tab.get [] s.places image).all fun k => !ctxValid s (k / 8) (k % 8))

/-- An entry's STATE becomes WAITING (0) or LOADING (1). A region that was evicted is reloaded whenever it is loaded next (R324). -/
def setEntry (s : State) (cl n st : Nat) : State :=
  let c := s.cluster cl
  let w := wtaOf s cl n
  let image := bits w 47 32
  s.setCluster cl { c with wta := Tab.set 0 c.wta n (setBits w 62 61 st), placed := none,
                           reloading := if bits w 62 61 = 3 && !c.reloading.contains image then c.reloading ++ [image] else c.reloading }

/-- SCHEDULER_DECISION: the block scheduler of a cluster hands the top entry to the loader, or asks the steward for room; then it decides
nothing until a change; it loads nothing on a die that is not LIVE (R318, R420). An entry whose home aggregator has no place returns to
WAITING (R371). -/
def execSchedulerDecision (s : State) : Host.Outcome State Fault Refusal :=
  let cl := s.event.unit
  .next (match topEntry s cl with
    | none => s
    | some n =>
      if 16 ≤ cl || resetStage s (cl / 4) != 0 || (s.cluster cl).placed.isSome then s
      else if hasPlace s cl n then
        if homeRoom s cl (bits (wtaOf s cl n) 47 32) then
          let s := setEntry s cl n 1
          s.setStew cl { s.stew cl with evLoad := true }
        else sendPlacereq (setEntry s cl n 0) cl n
      else sendPlacereq s cl n)

/-! ## Splicing (R319, R320) -/

/-- Condition 1 of R320 for a context: on every side of every entry that takes data, a token with EOS = 1 has been consumed. -/
def eosEverywhere (s : State) (e ctx : Nat) : Bool := (List.range 8).all fun i =>
  let w := entryWord s e ctx i
  !bitOf w 63 || decide (1 < bits w 54 53) || (List.range 3).all fun side =>
    !bitOf w (57 - side) || (s.core (coreOf e)).eosSeen.contains ((e % 4 * 8 + ctx) * 32 + i * 4 + side)

/-- The valid contexts of a region on a core. -/
def ctxsOn (s : State) (image core : Nat) : List (Nat × Nat) := (regionCtxs s image).filter fun (e, _) => coreOf e == core

/-- Contexts of a region receive a priority. -/
def givePriority (s : State) (pri : Nat) (cs : List (Nat × Nat)) : State :=
  cs.foldl (fun s (e, c) =>
    s.setCore (coreOf e) ((s.core (coreOf e)).setCtxWord (e % 4) c 0 (setBits (ctxWord s e c) 62 59 pri))) s

/-- CONTEXT_RETIRE: on a core, the contexts of the predecessor of a spliced entry (`index`) all retire, and the successor's there receive
DPRI; with the last core of the predecessor, those on cores that held none do too, its entry becomes invalid and the successor's RESIDENT. -/
def execContextRetire (s : State) : Host.Outcome State Fault Refusal :=
  let core := s.event.unit
  let cl := clusterOf core
  let n := s.event.index % 64
  let w := wtaOf s cl n
  let pred := bits w 59 54
  let old := bits (wtaOf s cl pred) 47 32
  let new := bits w 47 32
  let cs := ctxsOn s old core
  .next (if !bitOf w 63 || !bitOf w 60 || entryState s cl pred != some 2 || cs.isEmpty || (regionCtxs s new).isEmpty then s
    else if !(cs.all fun (e, c) => eosEverywhere s e c && mayRetire s e c) then s
    else
      let s := cs.foldl (fun s (e, c) => invalidateContext s e c) s
      let s := givePriority s (bits w 53 50) (ctxsOn s new core)
      if (regionCtxs s old).isEmpty then
        let shared := (Tab.get [] s.places old).map (· / 32)
        let s := givePriority s (bits w 53 50) ((regionCtxs s new).filter fun (e, _) => !shared.contains (coreOf e))
        let c := s.cluster cl
        let wta := Tab.set 0 (Tab.set 0 c.wta pred 0) n (setBits w 62 61 2)
        dropUnregistered (s.setCluster cl { c with wta := wta, placed := none }) cl
      else s)

end Sys2Proof.Machine
end

