-- ==== Sys2Proof/Machine/Dispatch.lean ====
section
/-! DEFINITION. One arm for each instruction of the opcode table, calling its meaning. -/

namespace Sys2Proof.Machine

/-- What an instruction does to a state: the meaning of each constructor. -/
def exec (i : Instr) (s : State) : Host.Outcome State Fault Refusal :=
  match i with
  | .nop o => Sys2Proof.Machine.execNop o s
  | .add o => Sys2Proof.Machine.execAdd o s
  | .sub o => Sys2Proof.Machine.execSub o s
  | .mul o => Sys2Proof.Machine.execMul o s
  | .mulhs o => Sys2Proof.Machine.execMulhs o s
  | .mulhu o => Sys2Proof.Machine.execMulhu o s
  | .divs o => Sys2Proof.Machine.execDivs o s
  | .divu o => Sys2Proof.Machine.execDivu o s
  | .rems o => Sys2Proof.Machine.execRems o s
  | .remu o => Sys2Proof.Machine.execRemu o s
  | .mins o => Sys2Proof.Machine.execMins o s
  | .minu o => Sys2Proof.Machine.execMinu o s
  | .maxs o => Sys2Proof.Machine.execMaxs o s
  | .maxu o => Sys2Proof.Machine.execMaxu o s
  | .abs o => Sys2Proof.Machine.execAbs o s
  | .neg o => Sys2Proof.Machine.execNeg o s
  | .and o => Sys2Proof.Machine.execAnd o s
  | .or o => Sys2Proof.Machine.execOr o s
  | .xor o => Sys2Proof.Machine.execXor o s
  | .andn o => Sys2Proof.Machine.execAndn o s
  | .not o => Sys2Proof.Machine.execNot o s
  | .shl o => Sys2Proof.Machine.execShl o s
  | .shr o => Sys2Proof.Machine.execShr o s
  | .sar o => Sys2Proof.Machine.execSar o s
  | .rol o => Sys2Proof.Machine.execRol o s
  | .clz o => Sys2Proof.Machine.execClz o s
  | .popc o => Sys2Proof.Machine.execPopc o s
  | .brev o => Sys2Proof.Machine.execBrev o s
  | .bext o => Sys2Proof.Machine.execBext o s
  | .bins o => Sys2Proof.Machine.execBins o s
  | .sext o => Sys2Proof.Machine.execSext o s
  | .zext o => Sys2Proof.Machine.execZext o s
  | .ceq o => Sys2Proof.Machine.execCeq o s
  | .cne o => Sys2Proof.Machine.execCne o s
  | .clts o => Sys2Proof.Machine.execClts o s
  | .cles o => Sys2Proof.Machine.execCles o s
  | .cltu o => Sys2Proof.Machine.execCltu o s
  | .cleu o => Sys2Proof.Machine.execCleu o s
  | .sel o => Sys2Proof.Machine.execSel o s
  | .mov o => Sys2Proof.Machine.execMov o s
  | .movi o => Sys2Proof.Machine.execMovi o s
  | .movhi o => Sys2Proof.Machine.execMovhi o s
  | .mad o => Sys2Proof.Machine.execMad o s
  | .lea o => Sys2Proof.Machine.execLea o s
  | .crc32c o => Sys2Proof.Machine.execCrc32c o s
  | .fadd o => Sys2Proof.Machine.execFadd o s
  | .fsub o => Sys2Proof.Machine.execFsub o s
  | .fmul o => Sys2Proof.Machine.execFmul o s
  | .ffma o => Sys2Proof.Machine.execFfma o s
  | .ffms o => Sys2Proof.Machine.execFfms o s
  | .fmin o => Sys2Proof.Machine.execFmin o s
  | .fmax o => Sys2Proof.Machine.execFmax o s
  | .fabs o => Sys2Proof.Machine.execFabs o s
  | .fneg o => Sys2Proof.Machine.execFneg o s
  | .fceq o => Sys2Proof.Machine.execFceq o s
  | .fclt o => Sys2Proof.Machine.execFclt o s
  | .fcle o => Sys2Proof.Machine.execFcle o s
  | .fcun o => Sys2Proof.Machine.execFcun o s
  | .fdiv o => Sys2Proof.Machine.execFdiv o s
  | .frcp o => Sys2Proof.Machine.execFrcp o s
  | .frsq o => Sys2Proof.Machine.execFrsq o s
  | .fsqrt o => Sys2Proof.Machine.execFsqrt o s
  | .fexp2 o => Sys2Proof.Machine.execFexp2 o s
  | .flog2 o => Sys2Proof.Machine.execFlog2 o s
  | .ftanh o => Sys2Proof.Machine.execFtanh o s
  | .fclass o => Sys2Proof.Machine.execFclass o s
  | .fcvt o => Sys2Proof.Machine.execFcvt o s
  | .ftoi o => Sys2Proof.Machine.execFtoi o s
  | .itof o => Sys2Proof.Machine.execItof o s
  | .fscale o => Sys2Proof.Machine.execFscale o s
  | .frnd o => Sys2Proof.Machine.execFrnd o s
  | .vbcast o => Sys2Proof.Machine.execVbcast o s
  | .vextr o => Sys2Proof.Machine.execVextr o s
  | .vins o => Sys2Proof.Machine.execVins o s
  | .vperm o => Sys2Proof.Machine.execVperm o s
  | .vshup o => Sys2Proof.Machine.execVshup o s
  | .vshdn o => Sys2Proof.Machine.execVshdn o s
  | .vredadd o => Sys2Proof.Machine.execVredadd o s
  | .vredmax o => Sys2Proof.Machine.execVredmax o s
  | .vredmin o => Sys2Proof.Machine.execVredmin o s
  | .vscan o => Sys2Proof.Machine.execVscan o s
  | .vpack o => Sys2Proof.Machine.execVpack o s
  | .vunpk o => Sys2Proof.Machine.execVunpk o s
  | .vcmpm o => Sys2Proof.Machine.execVcmpm o s
  | .vmsel o => Sys2Proof.Machine.execVmsel o s
  | .vcompr o => Sys2Proof.Machine.execVcompr o s
  | .vexpnd o => Sys2Proof.Machine.execVexpnd o s
  | .viota o => Sys2Proof.Machine.execViota o s
  | .vseqacc o => Sys2Proof.Machine.execVseqacc o s
  | .send o => Sys2Proof.Machine.execSend o s
  | .sendl o => Sys2Proof.Machine.execSendl o s
  | .steer o => Sys2Proof.Machine.execSteer o s
  | .reqn o => Sys2Proof.Machine.execReqn o s
  | .tsget o => Sys2Proof.Machine.execTsget o s
  | .sendm o => Sys2Proof.Machine.execSendm o s
  | .join o => Sys2Proof.Machine.execJoin o s
  | .leave o => Sys2Proof.Machine.execLeave o s
  | .widen o => Sys2Proof.Machine.execWiden o s
  | .eos o => Sys2Proof.Machine.execEos o s
  | .seq o => Sys2Proof.Machine.execSeq o s
  | .chain o => Sys2Proof.Machine.execChain o s
  | .scalm o => Sys2Proof.Machine.execScalm o s
  | .ld o => Sys2Proof.Machine.execLd o s
  | .st o => Sys2Proof.Machine.execSt o s
  | .ldp o => Sys2Proof.Machine.execLdp o s
  | .stp o => Sys2Proof.Machine.execStp o s
  | .clrp o => Sys2Proof.Machine.execClrp o s
  | .atom o => Sys2Proof.Machine.execAtom o s
  | .atomr o => Sys2Proof.Machine.execAtomr o s
  | .pref o => Sys2Proof.Machine.execPref o s
  | .clean o => Sys2Proof.Machine.execClean o s
  | .inval o => Sys2Proof.Machine.execInval o s
  | .watch o => Sys2Proof.Machine.execWatch o s
  | .watchCancel => Sys2Proof.Machine.execWatchCancel s
  | .fence o => Sys2Proof.Machine.execFence o s
  | .ldv o => Sys2Proof.Machine.execLdv o s
  | .stv o => Sys2Proof.Machine.execStv o s
  | .gathv o => Sys2Proof.Machine.execGathv o s
  | .scatv o => Sys2Proof.Machine.execScatv o s
  | .strm o => Sys2Proof.Machine.execStrm o s
  | .strmq o => Sys2Proof.Machine.execStrmq o s
  | .wpwait o => Sys2Proof.Machine.execWpwait o s
  | .ordt o => Sys2Proof.Machine.execOrdt o s
  | .mxcfg o => Sys2Proof.Machine.execMxcfg o s
  | .mxldb o => Sys2Proof.Machine.execMxldb o s
  | .mxfeed o => Sys2Proof.Machine.execMxfeed o s
  | .mxdrn o => Sys2Proof.Machine.execMxdrn o s
  | .mxrel o => Sys2Proof.Machine.execMxrel o s
  | .mxrelForce o => Sys2Proof.Machine.execMxrelForce o s
  | .mxcor o => Sys2Proof.Machine.execMxcor o s
  | .mxstat o => Sys2Proof.Machine.execMxstat o s
  | .shcfg o => Sys2Proof.Machine.execShcfg o s
  | .shcut o => Sys2Proof.Machine.execShcut o s
  | .shbnd o => Sys2Proof.Machine.execShbnd o s
  | .shco o => Sys2Proof.Machine.execShco o s
  | .sphdr o => Sys2Proof.Machine.execSphdr o s
  | .isect o => Sys2Proof.Machine.execIsect o s
  | .smerge o => Sys2Proof.Machine.execSmerge o s
  | .nmsel o => Sys2Proof.Machine.execNmsel o s
  | .copy o => Sys2Proof.Machine.execCopy o s
  | .istrm o => Sys2Proof.Machine.execIstrm o s
  | .tlwait o => Sys2Proof.Machine.execTlwait o s
  | .tlrd o => Sys2Proof.Machine.execTlrd o s
  | .coll o => Sys2Proof.Machine.execColl o s
  | .rld o => Sys2Proof.Machine.execRld o s
  | .rst o => Sys2Proof.Machine.execRst o s
  | .ratom o => Sys2Proof.Machine.execRatom o s
  | .migr o => Sys2Proof.Machine.execMigr o s
  | .ownq o => Sys2Proof.Machine.execOwnq o s
  | .owninv o => Sys2Proof.Machine.execOwninv o s
  | .sgnrcl o => Sys2Proof.Machine.execSgnrcl o s
  | .br o => Sys2Proof.Machine.execBr o s
  | .bz o => Sys2Proof.Machine.execBz o s
  | .bnz o => Sys2Proof.Machine.execBnz o s
  | .beq o => Sys2Proof.Machine.execBeq o s
  | .bne o => Sys2Proof.Machine.execBne o s
  | .blt o => Sys2Proof.Machine.execBlt o s
  | .bge o => Sys2Proof.Machine.execBge o s
  | .bltu o => Sys2Proof.Machine.execBltu o s
  | .bgeu o => Sys2Proof.Machine.execBgeu o s
  | .call o => Sys2Proof.Machine.execCall o s
  | .ret o => Sys2Proof.Machine.execRet o s
  | .jmpr o => Sys2Proof.Machine.execJmpr o s
  | .waitt o => Sys2Proof.Machine.execWaitt o s
  | .swait o => Sys2Proof.Machine.execSwait o s
  | .inj o => Sys2Proof.Machine.execInj o s
  | .trap o => Sys2Proof.Machine.execTrap o s
  | .eret o => Sys2Proof.Machine.execEret o s
  | .mfs o => Sys2Proof.Machine.execMfs o s
  | .mts o => Sys2Proof.Machine.execMts o s
  | .cfgw o => Sys2Proof.Machine.execCfgw o s
  | .cfgr o => Sys2Proof.Machine.execCfgr o s
  | .cfgcom o => Sys2Proof.Machine.execCfgcom o s
  | .cfgcomSeal o => Sys2Proof.Machine.execCfgcomSeal o s
  | .cfgabt o => Sys2Proof.Machine.execCfgabt o s
  | .ctxpri o => Sys2Proof.Machine.execCtxpri o s
  | .park o => Sys2Proof.Machine.execPark o s
  | .unparkReplay o => Sys2Proof.Machine.execUnparkReplay o s
  | .unparkDrop o => Sys2Proof.Machine.execUnparkDrop o s
  | .unparkFrame o => Sys2Proof.Machine.execUnparkFrame o s
  | .drain o => Sys2Proof.Machine.execDrain o s
  | .resume o => Sys2Proof.Machine.execResume o s
  | .resumeFail o => Sys2Proof.Machine.execResumeFail o s
  | .tlbinv o => Sys2Proof.Machine.execTlbinv o s
  | .sigchk o => Sys2Proof.Machine.execSigchk o s
  | .tokenArrival => Sys2Proof.Machine.execTokenArrival s
  | .frameChoice => Sys2Proof.Machine.execFrameChoice s
  | .commitPoint => Sys2Proof.Machine.execCommitPoint s
  | .releaseSends => Sys2Proof.Machine.execReleaseSends s
  | .recordDecrements => Sys2Proof.Machine.execRecordDecrements s
  | .trapRecordLeave => Sys2Proof.Machine.execTrapRecordLeave s
  | .parkwaitRelease => Sys2Proof.Machine.execParkwaitRelease s
  | .vseqaccRetry => Sys2Proof.Machine.execVseqaccRetry s
  | .claimHandover => Sys2Proof.Machine.execClaimHandover s
  | .portEntry => Sys2Proof.Machine.execPortEntry s
  | .translationWalk => Sys2Proof.Machine.execTranslationWalk s
  | .requestPerform => Sys2Proof.Machine.execRequestPerform s
  | .deferredReadFill => Sys2Proof.Machine.execDeferredReadFill s
  | .watchNotify => Sys2Proof.Machine.execWatchNotify s
  | .ordtLeave => Sys2Proof.Machine.execOrdtLeave s
  | .streamGranule => Sys2Proof.Machine.execStreamGranule s
  | .chainTrigger => Sys2Proof.Machine.execChainTrigger s
  | .chainEmit => Sys2Proof.Machine.execChainEmit s
  | .sphdrEmit => Sys2Proof.Machine.execSphdrEmit s
  | .arrayRowEdge => Sys2Proof.Machine.execArrayRowEdge s
  | .arrayReleaseWord => Sys2Proof.Machine.execArrayReleaseWord s
  | .gateAdmissionGrant => Sys2Proof.Machine.execGateAdmissionGrant s
  | .batchClose => Sys2Proof.Machine.execBatchClose s
  | .batchApply => Sys2Proof.Machine.execBatchApply s
  | .ackBroadcast => Sys2Proof.Machine.execAckBroadcast s
  | .ackReceive => Sys2Proof.Machine.execAckReceive s
  | .milestoneDelivery => Sys2Proof.Machine.execMilestoneDelivery s
  | .ingressPacket => Sys2Proof.Machine.execIngressPacket s
  | .ingressDelivery => Sys2Proof.Machine.execIngressDelivery s
  | .roundRegisterWrite => Sys2Proof.Machine.execRoundRegisterWrite s
  | .hostEgress => Sys2Proof.Machine.execHostEgress s
  | .attestationRequest => Sys2Proof.Machine.execAttestationRequest s
  | .schedulerDecision => Sys2Proof.Machine.execSchedulerDecision s
  | .contextRetire => Sys2Proof.Machine.execContextRetire s
  | .drainMarker => Sys2Proof.Machine.execDrainMarker s
  | .reload => Sys2Proof.Machine.execReload s
  | .hedgedrop => Sys2Proof.Machine.execHedgedrop s
  | .stewardTrap => Sys2Proof.Machine.execStewardTrap s
  | .fatalNotice => Sys2Proof.Machine.execFatalNotice s
  | .stewardWaitEnd => Sys2Proof.Machine.execStewardWaitEnd s
  | .sstatWrite o => Sys2Proof.Machine.execSstatWrite o s
  | .tqpopOrdinary => Sys2Proof.Machine.execTqpopOrdinary s
  | .tqpopFatal => Sys2Proof.Machine.execTqpopFatal s
  | .ecccntClear o => Sys2Proof.Machine.execEcccntClear o s
  | .hedgecntClear o => Sys2Proof.Machine.execHedgecntClear o s
  | .mboxRead o => Sys2Proof.Machine.execMboxRead o s
  | .mboxout o => Sys2Proof.Machine.execMboxout o s
  | .rinboxRead o => Sys2Proof.Machine.execRinboxRead o s
  | .rfpop o => Sys2Proof.Machine.execRfpop o s
  | .rmselWrite o => Sys2Proof.Machine.execRmselWrite o s
  | .rmsend o => Sys2Proof.Machine.execRmsend o s
  | .kslot o => Sys2Proof.Machine.execKslot o s
  | .dbudWrite o => Sys2Proof.Machine.execDbudWrite o s
  | .polpop o => Sys2Proof.Machine.execPolpop o s
  | .polstatClear o => Sys2Proof.Machine.execPolstatClear o s
  | .pkgrstDrain => Sys2Proof.Machine.execPkgrstDrain s
  | .pkgrstCancel => Sys2Proof.Machine.execPkgrstCancel s
  | .pkgrstMask => Sys2Proof.Machine.execPkgrstMask s
  | .pkgrstFlushed => Sys2Proof.Machine.execPkgrstFlushed s
  | .pkgrstLinkdown => Sys2Proof.Machine.execPkgrstLinkdown s
  | .pkgrstReset => Sys2Proof.Machine.execPkgrstReset s
  | .pkgrstTrained => Sys2Proof.Machine.execPkgrstTrained s
  | .pkgrstReturn => Sys2Proof.Machine.execPkgrstReturn s
  | .pkgrstClear => Sys2Proof.Machine.execPkgrstClear s
  | .celsplitWrite => Sys2Proof.Machine.execCelsplitWrite s
  | .homemaskWrite => Sys2Proof.Machine.execHomemaskWrite s
  | .ectxWrite => Sys2Proof.Machine.execEctxWrite s
  | .engineAccept => Sys2Proof.Machine.execEngineAccept s
  | .engineOperationEnd => Sys2Proof.Machine.execEngineOperationEnd s
  | .collectiveComplete => Sys2Proof.Machine.execCollectiveComplete s
  | .musterOperation => Sys2Proof.Machine.execMusterOperation s
  | .remoteRequestArrival => Sys2Proof.Machine.execRemoteRequestArrival s
  | .uternTimeout => Sys2Proof.Machine.execUternTimeout s
  | .deadPeerClear => Sys2Proof.Machine.execDeadPeerClear s
  | .routeTableWrite => Sys2Proof.Machine.execRouteTableWrite s
  | .ingbWrite => Sys2Proof.Machine.execIngbWrite s
  | .linkFlitRetry => Sys2Proof.Machine.execLinkFlitRetry s
  | .ucieModuleFail => Sys2Proof.Machine.execUcieModuleFail s
  | .ownerCacheLookup => Sys2Proof.Machine.execOwnerCacheLookup s
  | .countMessage => Sys2Proof.Machine.execCountMessage s
  | .migrationCopyPass => Sys2Proof.Machine.execMigrationCopyPass s
  | .migrationFreeze => Sys2Proof.Machine.execMigrationFreeze s
  | .migrationGo => Sys2Proof.Machine.execMigrationGo s
  | .migrationAbort => Sys2Proof.Machine.execMigrationAbort s
  | .signpostRelay => Sys2Proof.Machine.execSignpostRelay s
  | .redirect => Sys2Proof.Machine.execRedirect s
  | .ownerCacheReopen => Sys2Proof.Machine.execOwnerCacheReopen s
  | .signpostInvalidation => Sys2Proof.Machine.execSignpostInvalidation s
  | .reclaim => Sys2Proof.Machine.execReclaim s
  | .energyTick => Sys2Proof.Machine.execEnergyTick s
  | .governorTick => Sys2Proof.Machine.execGovernorTick s
  | .windowEdge => Sys2Proof.Machine.execWindowEdge s
  | .celhotChange => Sys2Proof.Machine.execCelhotChange s
  | .patrolScrub => Sys2Proof.Machine.execPatrolScrub s
  | .coldStart => Sys2Proof.Machine.execColdStart s
  | .packageWarmStart => Sys2Proof.Machine.execPackageWarmStart s
  | .coreReset => Sys2Proof.Machine.execCoreReset s
  | .stewardReset => Sys2Proof.Machine.execStewardReset s
  | .obcoreRelease o => Sys2Proof.Machine.execObcoreRelease o s
  | .obctlWrite o => Sys2Proof.Machine.execObctlWrite o s
  | .traceFreeze => Sys2Proof.Machine.execTraceFreeze s
  | .trdump o => Sys2Proof.Machine.execTrdump o s
  | .hspillWrite o => Sys2Proof.Machine.execHspillWrite o s
  | .hctlEnable o => Sys2Proof.Machine.execHctlEnable o s
  | .hctlFlush => Sys2Proof.Machine.execHctlFlush s
  | .countSpill => Sys2Proof.Machine.execCountSpill s
  | .walkgo o => Sys2Proof.Machine.execWalkgo o s
  | .channelCountClear o => Sys2Proof.Machine.execChannelCountClear o s
  | .engineWritePointer => Sys2Proof.Machine.execEngineWritePointer s
  | .discardedHostWrite => Sys2Proof.Machine.execDiscardedHostWrite s
  | .lostRegionDisposal => Sys2Proof.Machine.execLostRegionDisposal s
  | .linkLevelRetry => Sys2Proof.Machine.execLinkLevelRetry s

end Sys2Proof.Machine
end

