-- ==== Sys2Proof/Machine/Turns.lean ====
section
/-! DEFINITION. What a turn comes to: the passing of core clocks and of energy, strikes, events and the agents' next instructions, and the
placing of an instruction. -/

namespace Sys2Proof.Machine

/-! ## Time and energy -/

/-- The cores that a running walk samples in `n` core clocks, one each, the clock going on from one to the next (R477). -/
def sampleCores (s : State) (cl : Nat) (w : Walk) (n : Nat) : Walk :=
  let first := w.records.length
  { w with records := w.records ++ (List.range (min n (128 - first))).map fun i =>
      walkRecord { s with clock := s.clock + i } (cl * 128 + first + i) }

/-- A cluster's walk over `n` core clocks: its samples, and at its end the write of all of them, once their homes do not hold it, with WALKED
(R421, R477; log 30). -/
def walkClocks (s : State) (cl n : Nat) : State := match (s.cluster cl).walk with
  | none => s
  | some w =>
    let w := sampleCores s cl w n
    let keep := s.setCluster cl { s.cluster cl with walk := some w }
    if w.records.length < 128 ∨ homeHolds s w.pa 4096 true (die := some (cl / 4)) then keep
    else match writeBlocks cl w.pa (w.records.map TrapRec.bytes) s with
      | .error _ => s.setCluster cl { s.cluster cl with walk := none }
      | .ok s => s.setCluster cl { s.cluster cl with walk := none, walked := true }

/-- Core clocks pass: counts, traces and walks are kept, leakage is metered (R389), the clock advances, and each COMPLETE frame that R93
lets age waits longer. -/
def passClocks (s : State) (n : Nat) : State :=
  let s := (List.range 16).foldl (fun s cl => chargeUnits (walkClocks (traceClocks s cl n) cl n) cl none)
    (countClocks s n)
  { s with
    clock := s.clock + n
    elems := s.elems.mapVals Elem.init fun e x =>
      { x with frames := x.frames.map fun f =>
        if f.state = .complete && ctxPri s e f.ctx != 0 && !isLean s (coreOf e) (ctxImage s e f.ctx) then
          { f with waited := f.waited + n } else f } }

/-- Whether the package has an agent: 16 stewards, 4 die service cores, the reeve, and the elements of the cores that no fuse switches
off (R2, R344). -/
def actorExists (s : State) : Actor → Bool
  | .steward n => decide (n < 16)
  | .dsc d => decide (d < 4)
  | .reeve => true
  | .element e => decide (e < 8192) && !isFused s (coreOf e)

/-- The soft error of a kind: an instruction slot, a scratchpad granule, a sector of an L1 or L2 line, an operand-buffer slot, the tag or
another field of a matching-store entry, a cellar granule, an HBM granule (R52, R89, R112, R219, R375, R415; log 40). The state does not hold
which slot of the operand buffer a token takes: the number, 0 to 95, that OBUFECC gives comes with the strike (R199; log 111). -/
def softError (kind unit place part : Nat) (hard : Bool) : SoftErr := match kind with
  | 0 => .slot unit place hard
  | 1 => .scr unit (place / 8 * 8) hard
  | 2 => .l1 unit place (part % 8) hard
  | 3 => .l2 unit place (part % 8) hard
  | 4 => .obuf unit place (part % 96) hard
  | 5 => .store unit place hard
  | 6 => .cellar unit (place / 8 * 8) hard
  | _ => .hbm (place / 8 * 8) hard

/-- What the turn of a state comes to, energy charged. An agent that the package does not have does nothing. -/
def fetchTurn (s : State) : Fetched := match s.turn with
  | .elapse n => .idle (passClocks s n)
  | .run a =>
    if !actorExists s a then .idle s
    else
    let s := { chargeEnergy s a (Config.energyWeight s.stepNo) with actor := a }
    match a with
    | .element e => fetchElement s e
    | .steward n => fetchSteward s n
    | .dsc d => fetchSteward s (16 + d)
    | .reeve => fetchSteward s 20
  | .happen i e => match i.code with
    | none => .run i { s with event := e }
    | some _ => .idle s
  | .strike kind unit place part hard => .idle { s with soft := s.soft ++ [softError kind unit place part hard] }

/-- The state with the next turn set: the agenda's head, or the schedule's (log 1). -/
def nextTurn (s : State) : State := match s.agenda with
  | t :: rest => { s with turn := t, agenda := rest, stepNo := s.stepNo + 1 }
  | [] => { s with turn := Config.schedule s.stepNo, stepNo := s.stepNo + 1 }

/-! ## Placing an instruction -/

/-- A context word, an entry word and a slot that run `w` as the first slot of element 0, and the firing that issues it. -/
def placeSlot (s : State) (w : W64) : State :=
  let c := s.core 0
  let c := c.setCtxWord 0 0 0 (word (2 ^ 63 + 1 * 2 ^ 59))
  let c := c.setCtxWord 0 0 1 (word (2 ^ 63 + 2 ^ 57))
  let c := c.setCtxWord 0 0 0x10 w
  let fr : Frame := { ms := 0, ctx := 0, ent := 0, ts := 0, l := none, r := none, p := none, x := none, state := .complete,
                      order := 0, waited := 0, trap0 := 0, trap3 := 0, poison := false }
  let f : Firing := { frame := fr, slot := 0, t := List.replicate 8 0, v := List.replicate 8 0, items := [], nsend := 0, nreq := 0,
                      scr := [], chL := 0, chR := 0, chP := 0, prio := 1, fed := none, ended := false }
  let s := s.setCore 0 c
  { s.setElem 0 { s.elem 0 with firing := some f } with turn := .run (.element 0) }

/-- The word stored at the reeve's PC, its instruction cache holding nothing of it. -/
def placeWord (s : State) (w : W64) : State :=
  let st := s.stew 20
  let s := s.writeNum st.pc.toNat 8 w.toNat
  { s.setStew 20 { st with halted := false, waiting := none, icache := Tab.set none st.icache st.pc.toNat none } with
    turn := .run .reeve }

end Sys2Proof.Machine
end

