-- ==== Sys2Proof/Machine/Step.lean ====
section
/-! DEFINITION. One step of the machine, and the placing of an instruction where the next step fetches it. -/

namespace Sys2Proof.Machine

/-- One step: the turn's instruction, or what the turn comes to without one; then the next turn (log 1). -/
def step (s : State) : Host.Outcome State Fault Refusal := match fetchTurn s with
  | .idle s' => .next (nextTurn s')
  | .run i s' => match exec i s' with
    | .next t => .next (nextTurn t)
    | .fault f => .fault f
    | .refused r => .refused r

/-- The state with an instruction placed where the next step fetches it: at the reeve's PC where steward mode has it, else in
slot 0 of a firing of element 0 (log 2). -/
def State.withFetchWord (s : State) (nbits w : Nat) : State :=
  let x : W64 := BitVec.ofNat 64 (w % 2 ^ nbits)
  match decode .steward x with
  | .ok _ => placeWord s x
  | .error _ => placeSlot s x

end Sys2Proof.Machine
end

