-- ==== Sys2Proof/Safety.lean ====
section
/-! DEFINITION. The terms in which claims are stated: safe steps and runs, canonical states, what an instruction computes, issues or
does, and what it leaves unchanged. -/

namespace Sys2Proof.Safety

open Machine

/-- A step is safe when it answers a next state: no fault and no refusal. -/
def SafeStep (s : State) : Prop := ∃ t, step s = .next t

/-- A run of `n` steps is safe when every step of it is. -/
def SafeRun : Nat → State → Prop
  | 0, _ => True
  | n + 1, s => ∃ t, step s = .next t ∧ SafeRun n t

/-- What a step answers when its instruction answers `r`: the turn passes on, and a stop stays the stop that it is (log 1). -/
def follow (r : Host.Outcome State Fault Refusal) : Host.Outcome State Fault Refusal := match r with
  | .next t => .next (nextTurn t)
  | .fault f => .fault f
  | .refused r => .refused r

/-- The state in which agent `a` runs its instruction: its energy charged, and the agent noted (R389; logs 2 and 8). -/
def ready (s : State) (a : Actor) : State := { chargeEnergy s a (Config.energyWeight s.stepNo) with actor := a }

/-! ## Canonical states -/

/-- The package has its units and its tables are in canonical form: 16 clusters, 4 dies, 21 steward-mode cores, memory, presence
bits, cores, elements and home aggregators. -/
def Canonical (s : State) : Prop :=
  Memory.wf s.mem = true ∧ Tab.wf false s.presence = true ∧ Tab.wf Core.init s.cores = true ∧ Tab.wf Elem.init s.elems = true ∧
    Tab.wf Home.init s.homes = true ∧ s.clusters.length = 16 ∧ s.dies.length = 4 ∧ s.stewards.length = 21

/-! ## What an instruction computes -/

/-- The operands A, B and C of every lane that an instruction computes. -/
def laneArgs (s : State) (x : Agent) (o : Ops) (ra rb rc : Reading) : List (Nat × Nat × Nat) :=
  (laneIxs o.sh).map (laneOperands s x o ra rb rc)

/-- Where no container that it reads is malformed, an instruction writes `f` of the operands of each lane, `w` bits wide, to D and
completes. -/
def Computes (i : Instr) (o : Ops) (s : State) (x : Agent) (ra rb rc : Reading) (w : Nat) (f : Nat → Nat → Nat → Nat) : Prop :=
  malformed ra rb rc (laneArgs s x o ra rb rc) = none →
    exec i s = .next (finish s o (x.setResult o w ((laneArgs s x o ra rb rc).map fun p => f p.1 p.2.1 p.2.2)))

/-- An instruction of two typed operands whose result has the width of T. -/
def Computes2 (i : Instr) (o : Ops) (s : State) (x : Agent) (f : Nat → Nat → Nat) : Prop :=
  Computes i o s x (.typed o.ty) (.typed o.ty) .whole (Ty.width o.ty) fun a b _ => f a b

/-- An instruction of two bit patterns whose result has the width of T. -/
def ComputesBits (i : Instr) (o : Ops) (s : State) (x : Agent) (f : Nat → Nat → Nat) : Prop :=
  Computes i o s x (.bits o.ty) (.bits o.ty) .whole (Ty.width o.ty) fun a b _ => f a b

/-- A compare: 1 or 0, in 64 bits or a 32-bit lane. -/
def ComputesTest (i : Instr) (o : Ops) (s : State) (x : Agent) (rel : Nat → Nat → Bool) : Prop :=
  Computes i o s x (.typed o.ty) (.typed o.ty) .whole 64 fun a b _ => if rel a b then 1 else 0

/-- A one-source instruction of a typed operand. -/
def Computes1 (i : Instr) (o : Ops) (s : State) (x : Agent) (f : Nat → Nat) : Prop :=
  Computes i o s x (.typed o.ty) .whole .whole (Ty.width o.ty) fun a _ _ => f a

/-- The lanes of a vector position. -/
def lanesOf (s : State) (x : Agent) (o : Ops) (r : Reading) (sp : Spec) : List Nat := (List.range 64).map (src s x o r sp true)

/-- An instruction whose containers are all well formed writes 64 lanes to D and completes. -/
def WritesLanes (i : Instr) (o : Ops) (s : State) (x : Agent) (reads : List Nat) (out : List Nat) : Prop :=
  reads.find? (containerBad (.bits o.ty)) = none → exec i s = .next (finish s o (x.setVector o.d (vecOfLanes out)))

/-- An instruction writes a scalar to D and completes. -/
def WritesScalar (i : Instr) (o : Ops) (s : State) (x : Agent) (v : Nat) : Prop :=
  exec i s = .next (finish s o (x.setScalar o.d v))

/-! ## Firings -/

/-- The element `e` moves, its firing is `f`, and the commit buffer is free for it (R100). -/
def Issues (s : State) (e : Nat) (f : Firing) : Prop := s.agent = some (.firing e f) ∧ bufferBusy s e f = false

/-- An instruction completes with the firing `g` in place of its own. -/
def CompletesAs (i : Instr) (o : Ops) (s : State) (e : Nat) (g : Firing) : Prop := exec i s = .next (finish s o (.firing e g))

/-- An instruction completes with one more request in the commit buffer: of its own firing, on the route that it names for the reply, with
what `P` says of it; it takes one request place (R100, R230). -/
def BuffersRequest (i : Instr) (o : Ops) (s : State) (e : Nat) (f : Firing) (P : Req → Prop) : Prop :=
  ∃ r : Req, P r ∧ r.elem = e ∧ r.ctx = f.frame.ctx ∧ r.ent = f.frame.ent ∧ r.slot = f.slot ∧ r.ts = f.frame.ts ∧
    CompletesAs i o s e { f with items := f.items ++ [.req r (routeWord s e f.frame.ctx r.route)], nreq := f.nreq + 1 }

/-- An instruction completes with one more store in the SCR group of its firing, and takes one request place (R101, R230). -/
def BuffersStore (i : Instr) (o : Ops) (s : State) (e : Nat) (f : Firing) (x : ScrStore) : Prop :=
  CompletesAs i o s e { f with scr := f.scr ++ [x], nreq := f.nreq + 1 }

/-- One run of bytes as R227 checks it. -/
def permitted (s : State) (e ctx space ea n : Nat) (rd wr : Bool) : Prop :=
  issueChecks s e ctx [{ space := space, ea := ea, len := n, align := n, rd := rd, wr := wr }] = none

/-! ## Rounding -/

/-- The whole number `i` is the rounding of the magnitude x / d by M, for a value that is negative where `neg` (R69, R71). -/
def Rounds (neg : Bool) (x d : Nat) (m : BitVec 2) (i : Nat) : Prop :=
  (x % d = 0 → i = x / d) ∧
  (x % d ≠ 0 → (m = 1#2 → i = x / d) ∧ (m = 2#2 → i = if neg then x / d + 1 else x / d) ∧ (m = 3#2 → i = if neg then x / d else x / d + 1) ∧
    (m = 0#2 → (2 * (x % d) < d → i = x / d) ∧ (d < 2 * (x % d) → i = x / d + 1) ∧
      (2 * (x % d) = d → i % 2 = 0 ∧ (i = x / d ∨ i = x / d + 1))))

/-! ## Frames -/

/-- Two agents are one agent but for the register that D names. -/
def OnlyD (d : Spec) : Agent → Agent → Prop
  | .firing e f, .firing e' f' => e' = e ∧
      (∃ t v, f' = { f with t := t, v := v } ∧
        (∀ i : Fin 8, d ≠ .t i → t.getD i.val 0 = f.t.getD i.val 0) ∧ (∀ i : Fin 8, d ≠ .v i → v.getD i.val 0 = f.v.getD i.val 0))
  | .stew n st, .stew n' st' => n' = n ∧
      ∃ g, st' = { st with g := g } ∧ ∀ i : Fin 32, d ≠ .g i → g.getD i.val 0 = st.g.getD i.val 0
  | .firing _ _, .stew _ _ => False
  | .stew _ _, .firing _ _ => False

/-- Everything but the elements, the steward-mode cores and the cores is unchanged, every byte of memory among it. -/
def OutsideAgents (s t : State) : Prop :=
  ∃ cores elems stewards, t = { s with cores := cores, elems := elems, stewards := stewards }

end Sys2Proof.Safety
end

