-- ==== Sys2Proof/Certificates/Slice0/Obligations.lean ====
section
/-! DEFINITION. The statements about the machine, for the provers. -/

open Sys2Proof Sys2Proof.Machine Sys2Proof.Safety

/-! ## Compute instructions -/

/-- O1: the integer arithmetic of R130 and the choices of R131. -/
def Obligations.IntegerArithmeticResults : Prop := ∀ (o : Ops) (s : State) (x : Agent), s.agent = some x →
  let w := Ty.width o.ty
  let byM := fun (a : Nat) => readByM o.ty o.m a
  let S := fun (a : Nat) => readS o.ty a
  let U := fun (a : Nat) => readU o.ty a
  Computes2 (.add o) o s x (fun a b => sat o.ty (byM a + byM b) o.m) ∧
  Computes2 (.sub o) o s x (fun a b => sat o.ty (byM a - byM b) o.m) ∧
  Computes2 (.mul o) o s x (fun a b => sat o.ty (byM a * byM b) o.m) ∧
  Computes (.mad o) o s x (.typed o.ty) (.typed o.ty) (.typed o.ty) w (fun a b c => sat o.ty (byM a * byM b + byM c) o.m) ∧
  Computes2 (.neg o) o s x (fun a _ => sat o.ty (-(byM a)) o.m) ∧
  Computes2 (.abs o) o s x (fun a _ => sat o.ty (if S a < 0 then -(S a) else S a) o.m) ∧
  Computes2 (.divs o) o s x (fun a b => sat o.ty (if S b = 0 then -1 else Int.tdiv (S a) (S b)) o.m) ∧
  Computes2 (.divu o) o s x (fun a b => sat o.ty (if U b = 0 then 2 ^ w - 1 else U a / U b) o.m) ∧
  Computes2 (.rems o) o s x (fun a b => sat o.ty (if S b = 0 then S a else S a - S b * Int.tdiv (S a) (S b)) o.m) ∧
  Computes2 (.remu o) o s x (fun a b => sat o.ty (if U b = 0 then U a else U a % U b) o.m) ∧
  Computes2 (.mulhs o) o s x (fun a b => sat o.ty (S a * S b / 2 ^ w) o.m) ∧
  Computes2 (.mulhu o) o s x (fun a b => sat o.ty (U a * U b / 2 ^ w) o.m) ∧
  Computes2 (.mins o) o s x (fun a b => if S a ≤ S b then a else b) ∧
  Computes2 (.minu o) o s x (fun a b => if U a ≤ U b then a else b) ∧
  Computes2 (.maxs o) o s x (fun a b => if S b ≤ S a then a else b) ∧
  Computes2 (.maxu o) o s x (fun a b => if U b ≤ U a then a else b) ∧
  exec (.nop o) s = .next (finish s o x)

/-- O2: Sat(T, n, M) of R64: the low bits, or the nearest value of the signed or unsigned range. FADD, FSUB, FMUL and FFMA of finite values are the
exact result rounded once by M, FDIV and FSQRT are rounded from the exact quotient and root, with the results of R142 and R146 for infinities,
zeros and NaNs; a computed NaN is the default NaN of T (R67). Compares follow the values and fail on a NaN, but for FCUN (R145). Rounding takes
the neighbour that M names, at the significand of T or at its subnormal spacing, and a result above the largest finite value is what R69 gives,
or R70 for e4m3 and e5m2; a value of T it leaves as it is (R69). -/
def Obligations.SaturationAndTheDefaultNan : Prop :=
  (∀ (t : Ty) (n : Int), t ≠ .aif13 →
  let w := Ty.width t
  (sat t n 0#2 : Int) = n % 2 ^ w ∧
  (readS t (sat t n 1#2) = max (-(2 ^ (w - 1))) (min n (2 ^ (w - 1) - 1))) ∧
  (readU t (sat t n 2#2) = max 0 (min n (2 ^ w - 1))) ∧
  (readS .aif13 (sat .aif13 n 0#2) = max (-4095) (min n 4095)) ∧ (readS .aif13 (sat .aif13 n 1#2) = max (-4095) (min n 4095)) ∧
  (readS .aif13 (sat .aif13 n 2#2) = max 0 (min n 4095))) ∧
  (∀ (t : Ty) (m : BitVec 2) (a b c : Nat), Ty.isFloat t = true →
  (val t a = .nan → fadd t m a b = defaultNaN t ∧ fadd t m b a = defaultNaN t ∧ fmul t m a b = defaultNaN t ∧
    fmul t m b a = defaultNaN t ∧ fdiv t m a b = defaultNaN t ∧ ffma t m a b c = defaultNaN t ∧ ffma t m b a c = defaultNaN t ∧
    ffma t m b c a = defaultNaN t) ∧
  (val t a = .nan → fsub t m a b = defaultNaN t ∧ fsub t m b a = defaultNaN t ∧ fdiv t m b a = defaultNaN t ∧ fsqrt t m a = defaultNaN t) ∧
  (val t a = .nan → fceq t a b = false ∧ fclt t a b = false ∧ fcle t a b = false ∧ fcun t a b = true)) ∧
  (∀ (t : Ty) (m : BitVec 2) (a b c : Nat), Ty.isFloat t = true →
  let inf := fun (n : Bool) => infPattern t n false
  let zero := fun (n : Bool) => signBit t n
  (∀ n1 m1 e1 n2 m2 e2, val t a = .fin n1 m1 e1 → val t b = .fin n2 m2 e2 →
    let x := fun (u : Int) => scaled n1 m1 e1 u
    let y := fun (u : Int) => scaled n2 m2 e2 u
    (∃ n mg e, fadd t m a b = roundTo t (.fin n mg e) m ∧ (∀ u, u ≤ e1 → u ≤ e2 → u ≤ e → scaled n mg e u = x u + y u) ∧
      (mg = 0 → n = if m1 = 0 ∧ m2 = 0 ∧ n1 = n2 then n1 else decide (m = 2#2))) ∧
    (∃ n mg e, fsub t m a b = roundTo t (.fin n mg e) m ∧ (∀ u, u ≤ e1 → u ≤ e2 → u ≤ e → scaled n mg e u = x u - y u) ∧
      (mg = 0 → n = if m1 = 0 ∧ m2 = 0 ∧ n1 ≠ n2 then n1 else decide (m = 2#2))) ∧
    fmul t m a b = roundTo t (.fin (n1 != n2) (m1 * m2) (e1 + e2)) m ∧
    (∀ n3 m3 e3, val t c = .fin n3 m3 e3 → ∃ n mg e, ffma t m a b c = roundTo t (.fin n mg e) m ∧
      ∀ u, u ≤ e1 + e2 → u ≤ e3 → u ≤ e → scaled n mg e u = scaled (n1 != n2) (m1 * m2) (e1 + e2) u + scaled n3 m3 e3 u) ∧
    (m1 ≠ 0 → m2 ≠ 0 → ∃ q low, fdiv t m a b = roundMag t (n1 != n2) q (e1 - e2 - 96) low m ∧ q * m2 ≤ m1 * 2 ^ 96 ∧
      m1 * 2 ^ 96 < (q + 1) * m2 ∧ (low = true ↔ q * m2 < m1 * 2 ^ 96)) ∧
    (m2 = 0 → fdiv t m a b = if m1 = 0 then defaultNaN t else inf (n1 != n2)) ∧ (m1 = 0 → m2 ≠ 0 → fdiv t m a b = zero (n1 != n2)) ∧
    (m1 ≠ 0 → n1 = false → ∃ (k : Nat) (q : Nat) (low : Bool), 96 ≤ k ∧ (e1 - k) % 2 = 0 ∧
      fsqrt t m a = roundMag t false q ((e1 - k) / 2) low m ∧ q * q ≤ m1 * 2 ^ k ∧ m1 * 2 ^ k < (q + 1) * (q + 1) ∧
      (low = true ↔ q * q < m1 * 2 ^ k)) ∧
    (m1 ≠ 0 → n1 = true → fsqrt t m a = defaultNaN t) ∧ (m1 = 0 → fsqrt t m a = zero n1) ∧
    (fceq t a b = true ↔ x (min e1 e2) = y (min e1 e2)) ∧ (fclt t a b = true ↔ x (min e1 e2) < y (min e1 e2)) ∧
    (fcle t a b = true ↔ x (min e1 e2) ≤ y (min e1 e2)) ∧ fcun t a b = false) ∧
  (∀ n1 n2, val t a = .inf n1 → val t b = .inf n2 →
    fadd t m a b = (if n1 = n2 then inf n1 else defaultNaN t) ∧ fsub t m a b = (if n1 = n2 then defaultNaN t else inf n1) ∧
    fmul t m a b = inf (n1 != n2) ∧ fdiv t m a b = defaultNaN t ∧ fsqrt t m a = (if n1 then defaultNaN t else inf false)) ∧
  (∀ n1 n2 m2 e2, val t a = .inf n1 → val t b = .fin n2 m2 e2 →
    fadd t m a b = inf n1 ∧ fadd t m b a = inf n1 ∧ fsub t m a b = inf n1 ∧ fsub t m b a = inf (!n1) ∧
    fmul t m a b = (if m2 = 0 then defaultNaN t else inf (n1 != n2)) ∧ fmul t m b a = (if m2 = 0 then defaultNaN t else inf (n1 != n2)) ∧
    fdiv t m a b = inf (n1 != n2) ∧ fdiv t m b a = zero (n1 != n2)) ∧
  (a < 2 ^ Ty.width t → val t a ≠ .nan → roundTo t (val t a) m = a)) ∧
  (∀ (t : Ty) (m : BitVec 2) (n low ovf : Bool) (mg : Nat) (e : Int), Ty.isFloat t = true →
  let big := signBit t n + maxFinite t
  let q := max (e + Nat.log2 mg - fracBits t) (1 - expBias t - fracBits t)
  let u := min e q
  let k := if low then 1 else 0
  let p := roundMag t n mg e low m ovf
  roundTo t .nan m ovf = defaultNaN t ∧
  roundTo t (.inf n) m ovf = (if t = .e4m3 then (if ovf then 0x7F else big) else big + 1) ∧
  roundTo t (.fin n 0 e) m ovf = signBit t n ∧ (mg ≠ 0 → roundTo t (.fin n mg e) m ovf = roundMag t n mg e false m ovf) ∧
  (mg ≠ 0 → (low = true → e < q) →
    ∃ i, Rounds n ((1 + k) * (mg * 2 ^ (e - u).toNat) + k) ((1 + k) * 2 ^ (q - u).toNat) m i ∧
      ∀ mx ex, val t (maxFinite t) = .fin false mx ex →
        (scaled false i q (min q ex) ≤ scaled false mx ex (min q ex) →
          ∃ mp ep, val t p = .fin n mp ep ∧ ∀ v, v ≤ ep → v ≤ q → scaled n mp ep v = scaled n i q v) ∧
        (scaled false mx ex (min q ex) < scaled false i q (min q ex) →
          p = if t = .e4m3 then (if ovf then 0x7F else big) else if t = .e5m2 ∧ ovf = false then big
            else if m = 0#2 ∨ (m = 2#2 ∧ n = true) ∨ (m = 3#2 ∧ n = false) then big + 1 else big)))

/-- O3: the logic, shifts and bit counts of R132 and R134, on patterns of Width(T) bits. -/
def Obligations.LogicAndShiftResults : Prop := ∀ (o : Ops) (s : State) (x : Agent), s.agent = some x →
  let w := Ty.width o.ty
  ComputesBits (.and o) o s x (fun a b => a &&& b) ∧
  ComputesBits (.or o) o s x (fun a b => a ||| b) ∧
  ComputesBits (.xor o) o s x (fun a b => a ^^^ b) ∧
  ComputesBits (.andn o) o s x (fun a b => a &&& (2 ^ w - 1 - b % 2 ^ w)) ∧
  ComputesBits (.not o) o s x (fun a _ => 2 ^ w - 1 - a % 2 ^ w) ∧
  ComputesBits (.shl o) o s x (fun a n => if w ≤ n then 0 else a * 2 ^ n) ∧
  ComputesBits (.shr o) o s x (fun a n => if w ≤ n then 0 else a / 2 ^ n) ∧
  ComputesBits (.sar o) o s x (fun a n => (signed w a / 2 ^ (min n w) % 2 ^ w).toNat) ∧
  ComputesBits (.rol o) o s x (fun a n => (a * 2 ^ (n % w)) % 2 ^ w ||| a / 2 ^ (w - n % w)) ∧
  ComputesBits (.clz o) o s x (fun a _ => if a = 0 then w else w - 1 - Nat.log2 a) ∧
  ComputesBits (.popc o) o s x (fun a _ => (List.range w).countP fun i => a.testBit i) ∧
  ComputesBits (.brev o) o s x (fun a _ => reverseBits w a) ∧
  ComputesBits (.sext o) o s x (fun a n => if w - 1 ≤ n then a else (signed (n + 1) a % 2 ^ w).toNat) ∧
  ComputesBits (.zext o) o s x (fun a n => if w - 1 ≤ n then a else a % 2 ^ (n + 1))

/-- O4: the bit fields of R133 and the reversal of R132, bit by bit: what BEXT and BINS compute, and what each bit is; MOVI writes SignExtend64(X)
to a scalar temporary, and MOVHI shifts 29 more bits in (R138). -/
def Obligations.BitFieldsAndConstants : Prop :=
  ((∀ (o : Ops) (s : State) (x : Agent), s.agent = some x →
    Computes (.bext o) o s x (.bits o.ty) .whole .whole (Ty.width o.ty) (fun a b _ => extractField (Ty.width o.ty) a b) ∧
    Computes (.bins o) o s x (.bits o.ty) .whole (.bits o.ty) (Ty.width o.ty) (fun a b c => insertField (Ty.width o.ty) a b c)) ∧
  ∀ (w a b c j : Nat), c < 2 ^ w →
    let pos := b % 256
    let len := b / 256 % 256
    (extractField w a b).testBit j = (decide (j < len) && decide (pos + j < w) && a.testBit (pos + j)) ∧
    (insertField w a b c).testBit j =
      (if pos ≤ j ∧ j < min (pos + len) w then a.testBit (j - pos) else c.testBit j) ∧
    (reverseBits w a).testBit j = (decide (j < w) && a.testBit (w - 1 - j))) ∧
  (∀ (o : Ops) (s : State) (e : Nat) (f : Firing) (i : Fin 8),
  s.agent = some (.firing e f) → o.sh = .scalar → o.d = .t i → f.t.length = 8 →
    (o.a = .imm → ∃ g, exec (.movi o) s = .next (finish s o (.firing e g)) ∧
      g = { f with t := g.t } ∧ g.t.getD i.val 0 = o.x.signExtend 64 ∧ ∀ j, j ≠ i.val → g.t.getD j 0 = f.t.getD j 0) ∧
    (∀ k : Fin 8, o.a = .t k → ∃ g, exec (.movhi o) s = .next (finish s o (.firing e g)) ∧
      g = { f with t := g.t } ∧ g.t.getD i.val 0 = (f.t.getD k.val 0) <<< 29 ||| o.x.setWidth 64 ∧
      ∀ j, j ≠ i.val → g.t.getD j 0 = f.t.getD j 0))

/-- O5: compares (R135), SEL, MOV, MOVI and MOVHI (R136 to R138), LEA and CRC32C (R139, R140). -/
def Obligations.CompareMoveAddressResults : Prop := ∀ (o : Ops) (s : State) (x : Agent), s.agent = some x →
  let w := Ty.width o.ty
  let S := fun (a : Nat) => readS o.ty a
  let U := fun (a : Nat) => readU o.ty a
  ComputesTest (.ceq o) o s x (fun a b => decide (S a = S b)) ∧
  ComputesTest (.cne o) o s x (fun a b => decide (S a ≠ S b)) ∧
  ComputesTest (.clts o) o s x (fun a b => decide (S a < S b)) ∧
  ComputesTest (.cles o) o s x (fun a b => decide (S a ≤ S b)) ∧
  ComputesTest (.cltu o) o s x (fun a b => decide (U a < U b)) ∧
  ComputesTest (.cleu o) o s x (fun a b => decide (U a ≤ U b)) ∧
  Computes (.sel o) o s x (.bits o.ty) (.bits o.ty) (.bits o.ty) w (fun a b c => if c % 2 = 1 then a else b) ∧
  Computes (.mov o) o s x (.bits o.ty) .whole .whole w (fun a _ _ => a) ∧
  Computes (.movi o) o s x .whole .whole .whole 64 (fun a _ _ => a) ∧
  Computes (.movhi o) o s x (.bits .b64) .whole .whole 64 (fun a _ _ => a * 2 ^ 29 % 2 ^ 64 + o.x.toNat) ∧
  Computes (.lea o) o s x .whole .whole .whole 64
    (fun a b _ => (((a : Int) + signed 64 b * ((w / 8 : Nat) : Int)) % 2 ^ 64).toNat) ∧
  Computes (.crc32c o) o s x (.wide o.ty) (.bits o.ty) .whole 64 (fun a b _ => crcBytes (w / 8) (a % 2 ^ 32) b)


/-- O6: the floating arithmetic, compares and functions of R141 to R149, and the conversions of R150 to R152: which function each instruction
computes, and what the functions are. FRCP and FRSQ are rounded from the exact reciprocal and root, FRND and FTOI from the exact value; FEXP2,
FLOG2 and FTANH are given at the special inputs of R146, at whole exponents and at powers of two. Elsewhere they round an enclosure, and the
result is free where its ends round apart (log 7). -/
def Obligations.FloatingResults : Prop :=
  (∀ (o : Ops) (s : State) (x : Agent), s.agent = some x →
  let w := Ty.width o.ty
  Computes2 (.fadd o) o s x (fadd o.ty o.m) ∧ Computes2 (.fsub o) o s x (fsub o.ty o.m) ∧
  Computes2 (.fmul o) o s x (fmul o.ty o.m) ∧ Computes2 (.fdiv o) o s x (fdiv o.ty o.m) ∧
  Computes (.ffma o) o s x (.typed o.ty) (.typed o.ty) (.typed o.ty) w (ffma o.ty o.m) ∧
  Computes (.ffms o) o s x (.typed o.ty) (.typed o.ty) (.typed o.ty) w (ffms o.ty o.m) ∧
  Computes2 (.fmin o) o s x (fminmax o.ty false) ∧ Computes2 (.fmax o) o s x (fminmax o.ty true) ∧
  Computes (.fabs o) o s x (.bits o.ty) .whole .whole w (fun a _ _ => fabs o.ty a) ∧
  Computes (.fneg o) o s x (.bits o.ty) .whole .whole w (fun a _ _ => fneg o.ty a) ∧
  ComputesTest (.fceq o) o s x (fceq o.ty) ∧ ComputesTest (.fclt o) o s x (fclt o.ty) ∧
  ComputesTest (.fcle o) o s x (fcle o.ty) ∧ ComputesTest (.fcun o) o s x (fcun o.ty) ∧
  Computes1 (.frcp o) o s x (frcp o.ty o.m) ∧ Computes1 (.frsq o) o s x (frsq o.ty o.m) ∧
  Computes1 (.fsqrt o) o s x (fsqrt o.ty o.m) ∧ Computes1 (.fexp2 o) o s x (fexp2 o.ty o.m) ∧
  Computes1 (.flog2 o) o s x (flog2 o.ty o.m) ∧ Computes1 (.ftanh o) o s x (ftanh o.ty o.m) ∧
  Computes1 (.frnd o) o s x (frnd o.ty o.m) ∧
  Computes (.fclass o) o s x (.typed o.ty) .whole .whole 64 (fun a _ _ => fclass o.ty a) ∧
  Computes (.fscale o) o s x (.typed o.ty) .whole .whole w
    (fun a b _ => fscale o.ty o.m a (signed (if o.sh = .vector then 32 else 64) b)) ∧
  (∀ t, Ty.ofCode (xField o.x 3 0) = some t →
    Computes (.fcvt o) o s x (.typed t) .whole .whole w (fun a _ _ => fcvt o.ty t (xBit o.x 4) o.m a) ∧
    Computes (.ftoi o) o s x (.typed o.ty) .whole .whole (Ty.width t) (fun a _ _ => ftoi o.ty t (xBit o.x 4) o.m a) ∧
    Computes (.itof o) o s x (.typed t) .whole .whole w (fun a _ _ => itof o.ty t (xBit o.x 4) o.m a))) ∧
  (∀ (t : Ty) (m : BitVec 2) (a b c : Nat), Ty.isFloat t = true →
  let w := Ty.width t
  let inf := fun (n : Bool) => infPattern t n false
  let nan := defaultNaN t
  let zero := fun (n : Bool) => signBit t n
  let ordered := fun (x y : Nat) => fminmax t false x y = x % 2 ^ w ∧ fminmax t false y x = x % 2 ^ w ∧ fminmax t true x y = y % 2 ^ w ∧
    fminmax t true y x = y % 2 ^ w
  (val t a = .nan → val t b = .nan → fminmax t false a b = nan ∧ fminmax t true a b = nan) ∧
  (val t a = .nan → val t b ≠ .nan → ∀ hi, fminmax t hi a b = b % 2 ^ w ∧ fminmax t hi b a = b % 2 ^ w) ∧
  (val t a = .inf true → val t b ≠ .nan → ordered a b) ∧ (val t a = .inf false → val t b ≠ .nan → ordered b a) ∧
  (∀ n1 m1 e1 n2 m2 e2, val t a = .fin n1 m1 e1 → val t b = .fin n2 m2 e2 →
    (scaled n1 m1 e1 (min e1 e2) < scaled n2 m2 e2 (min e1 e2) ∨ (m1 = 0 ∧ m2 = 0 ∧ n1 = true ∧ n2 = false) → ordered a b) ∧
    (∀ n3 m3 e3, val t c = .fin n3 m3 e3 → ∃ n mg e, ffms t m a b c = roundTo t (.fin n mg e) m ∧
      ∀ u, u ≤ e1 + e2 → u ≤ e3 → u ≤ e → scaled n mg e u = scaled (n1 != n2) (m1 * m2) (e1 + e2) u - scaled n3 m3 e3 u)) ∧
  (val t a = .nan → ffms t m a b c = nan ∧ ffms t m b a c = nan ∧ ffms t m b c a = nan) ∧
  (∀ j, (fabs t a).testBit j = (decide (j < w - 1) && a.testBit j) ∧
    (fneg t a).testBit j = (if j = w - 1 then !a.testBit j else decide (j < w) && a.testBit j)) ∧
  (val t a = .nan → frcp t m a = nan ∧ frsq t m a = nan ∧ fexp2 t m a = nan ∧ flog2 t m a = nan ∧ ftanh t m a = nan ∧ frnd t m a = nan ∧
    fclass t a = 2 ^ 8 ∧ ∀ k, fscale t m a k = nan) ∧
  (∀ n, val t a = .inf n → frcp t m a = zero n ∧ frsq t m a = (if n then nan else 0) ∧ fexp2 t m a = (if n then 0 else inf false) ∧
    flog2 t m a = (if n then nan else inf false) ∧ ftanh t m a = roundTo t (.fin n 1 0) m ∧ frnd t m a = inf n ∧
    fclass t a = (if n then 2 ^ 0 else 2 ^ 7) ∧ ∀ k, fscale t m a k = inf n) ∧
  (∀ n e, val t a = .fin n 0 e → frcp t m a = inf n ∧ frsq t m a = inf n ∧ fexp2 t m a = roundTo t (.fin false 1 0) m ∧
    flog2 t m a = inf true ∧ ftanh t m a = zero n ∧ frnd t m a = zero n ∧ fclass t a = (if n then 2 ^ 3 else 2 ^ 4) ∧
    ∀ k, fscale t m a k = zero n) ∧
  (∀ n mg e, val t a = .fin n mg e → mg ≠ 0 →
    (∃ q low, frcp t m a = roundMag t n q (-e - 96) low m ∧ q * mg ≤ 2 ^ 96 ∧ 2 ^ 96 < (q + 1) * mg ∧ (low = true ↔ q * mg < 2 ^ 96)) ∧
    (n = false → ∃ (k : Nat) (q : Nat) (low : Bool), 200 ≤ k ∧ (k + e) % 2 = 0 ∧ frsq t m a = roundMag t false q (-((k + e) / 2)) low m ∧
      q * q * mg ≤ 2 ^ k ∧ 2 ^ k < (q + 1) * (q + 1) * mg ∧ (low = true ↔ q * q * mg < 2 ^ k)) ∧
    (n = true → frsq t m a = nan ∧ flog2 t m a = nan) ∧
    (∀ k : Nat, k < 512 → scaled n mg e (min e 0) = (if n then -(k : Int) else k) * 2 ^ (-(min e 0)).toNat →
      fexp2 t m a = roundTo t (.fin false 1 (if n then -(k : Int) else k)) m) ∧
    (∀ k : Nat, n = false → mg = 2 ^ k → flog2 t m a = roundTo t (.fin (decide (e + k < 0)) (e + k).natAbs 0) m) ∧
    (∃ (lo hi : Nat) (z : Int), ftanh t m a = roundEnclosed 2 t m a n lo hi z ∧ lo ≤ hi ∧ z < 0 ∧ lo < 2 ^ (-z).toNat) ∧
    (∃ i, Rounds n (mg * 2 ^ (e - min e 0).toNat) (2 ^ (-(min e 0)).toNat) m i ∧ frnd t m a = roundTo t (.fin n i 0) m ∧
      ∀ o sgn, Ty.isFloat o = false →
        let v : Int := if n then -(i : Int) else i
        ftoi t o sgn m a = wrapInt (Ty.width o) (if o = .aif13 then max (-4095) (min 4095 v)
          else if sgn then max (-(2 ^ (Ty.width o - 1))) (min (2 ^ (Ty.width o - 1) - 1) v) else max 0 (min (2 ^ Ty.width o - 1) v))) ∧
    fclass t a = (if a / 2 ^ fracBits t % 2 ^ (w - 1 - fracBits t) = 0 then (if n then 2 ^ 2 else 2 ^ 5) else (if n then 2 ^ 1 else 2 ^ 6)) ∧
    ∀ k, fscale t m a k = roundTo t (.fin n mg (e + k)) m) ∧
  (∀ o sgn, Ty.isFloat o = false →
    (val t a = .nan → ftoi t o sgn m a = 0) ∧
    (∀ n, val t a = .inf n → ftoi t o sgn m a = wrapInt (Ty.width o) (if o = .aif13 then (if n then -4095 else 4095)
      else if sgn then (if n then -(2 ^ (Ty.width o - 1)) else 2 ^ (Ty.width o - 1) - 1) else if n then 0 else 2 ^ Ty.width o - 1)) ∧
    (let v := if sgn then readS o a else readU o a
     itof t o sgn m a = roundTo t (.fin (decide (v < 0)) v.natAbs 0) m)) ∧
  (∀ o ovf, fcvt t o ovf m a = roundTo t (val o a) m ovf))
/-! ## Vector instructions -/

/-- O7: the movement of lanes of R153 to R157, and the masks, selections and compressions of R158 and R159. That VEXTR, VINS
and VUNPK check only the containers of the lanes that they use is the model's reading (log 55), and so is that VUNPK reads its values scaled (log 52);
that VPERM never checks its index lanes as containers is the model's choice (log 119). -/
def Obligations.VectorLaneResults : Prop :=
  (∀ (o : Ops) (s : State) (x : Agent), s.agent = some x →
  let w := Ty.width o.ty
  let A := lanesOf s x o (.bits o.ty) o.a
  let b := src s x o .whole o.b false 0
  (let v := src s x o (.bits o.ty) o.a false 0
   WritesLanes (.vbcast o) o s x [v] (List.replicate 64 v)) ∧
  (let v := src s x o (.bits o.ty) o.a true (b % 64)
   containerBad (.bits o.ty) v = false → WritesScalar (.vextr o) o s x v) ∧
  (let v := src s x o (.bits o.ty) o.a true 0
   WritesLanes (.vins o) o s x [v] ((List.range 64).map fun i => if i = b % 64 then v else src s x o .whole o.d true i)) ∧
  WritesLanes (.vperm o) o s x A ((List.range 64).map fun i => A.getD (src s x o .whole o.b true i % 64) 0) ∧
  WritesLanes (.vshup o) o s x A ((List.range 64).map fun i => if b ≤ i then A.getD (i - b) 0 else 0) ∧
  WritesLanes (.vshdn o) o s x A ((List.range 64).map fun i => if i + b ≤ 63 then A.getD (i + b) 0 else 0) ∧
  (let both := A ++ lanesOf s x o (.bits o.ty) o.b
   both.find? (containerBad (.bits o.ty)) = none →
      exec (.vpack o) s = .next (finish s o (x.setVector o.d (BitVec.ofNat 2048 (packNum w both))))) ∧
  (let out := (List.range 64).map fun i => shaped x o.m o.a (packed w (vectorRaw s x o.a) (i + 64 * (b % (if w = 16 then 2 else 4)))) (.typed o.ty)
   WritesLanes (.vunpk o) o s x out out)) ∧
  (∀ (o : Ops) (s : State) (x : Agent), s.agent = some x →
  let A := lanesOf s x o (.bits o.ty) o.a
  let B := (List.range 64).map (src s x o (.bits o.ty) o.b (decide (o.sh = .vector)))
  let c := src s x o .whole (thirdSpec o) false 0
  let a := src s x o .whole o.a false 0
  WritesScalar (.vcmpm o) o s x (packNum 1 (lanesOf s x o .whole o.a)) ∧
  WritesLanes (.vmsel o) o s x (A ++ B) ((List.range 64).map fun i => if c.testBit i then A.getD i 0 else B.getD i 0) ∧
  WritesLanes (.vcompr o) o s x A
    ((List.range 64).map fun i => (((List.range 64).filter fun j => c.testBit j).map fun j => A.getD j 0).getD i 0) ∧
  WritesLanes (.vexpnd o) o s x A
    ((List.range 64).map fun i => if c.testBit i then A.getD ((List.range i).countP fun j => c.testBit j) 0 else 0) ∧
  exec (.viota o) s =
    .next (finish s o (x.setVector o.d (vecOfLanes ((List.range 64).map fun i => (List.range i).countP fun j => a.testBit j)))))

/-- O8: the reductions of R160 combine the lanes in the tree of R76, and the scan of R161 from lane 0 up, in the order of R77. -/
def Obligations.ReductionAndScanResults : Prop := ∀ (o : Ops) (s : State) (x : Agent), s.agent = some x →
  let A := fun i => (lanesOf s x o (.typed o.ty) o.a).getD i 0
  let tree := fun (f : Nat → Nat → Nat) =>
    let level := fun (n : Nat) (g : Nat → Nat) i => f (g i) (g (i + 2 ^ n))
    level 0 (level 1 (level 2 (level 3 (level 4 (level 5 A))))) 0
  let sum := fun a b => if Ty.isFloat o.ty then fadd o.ty o.m a b else sat o.ty (readByM o.ty o.m a + readByM o.ty o.m b) o.m
  WritesScalar (.vredadd o) o s x (tree sum) ∧
  WritesScalar (.vredmax o) o s x (tree fun a b =>
    if Ty.isFloat o.ty then fminmax o.ty true a b else if readS o.ty b ≤ readS o.ty a then a else b) ∧
  WritesScalar (.vredmin o) o s x (tree fun a b =>
    if Ty.isFloat o.ty then fminmax o.ty false a b else if readS o.ty a ≤ readS o.ty b then a else b) ∧
  ∃ out : List Nat, exec (.vscan o) s = .next (finish s o (x.setVector o.d (vecOfLanes out))) ∧ out.length = 64 ∧
    out.getD 0 0 = A 0 ∧ ∀ i, i < 63 → out.getD (i + 1) 0 = sum (out.getD i 0) (A (i + 1))

/-- O9: VSEQACC absorbs a partial that comes in its turn, and the run of early ones that follows it, in sequence order; an early one waits in the
early buffer. It locks the accumulator for its firing, and sends the sum when it is complete (R78, R162 to R164). -/
def Obligations.VseqaccAbsorbsAPartialInTurn : Prop := ∀ (o : Ops) (s : State) (e : Nat) (f : Firing) (tok : Token),
  Issues s e f → operandToken s e f o.a = some tok →
  let x := Agent.firing e f
  let core := s.core (coreOf e)
  let b := src s x o .whole o.b false 0
  let acc := core.accs.getD (b % 4) Acc.init
  let seq := bits tok.h1 20 15
  let last := bitOf tok.h1 25
  let p : Partial := { seq := seq, value := vecOfLanes (lanesOf s x o (.typed o.ty) o.a), last := last }
  let d := absorb o.ty o.m 65
    { acc.data with lseq := if last then some seq else acc.data.lseq, taint := acc.data.taint || tokTaint tok,
                    early := acc.data.early ++ [p] }
  let locked : Acc := { data := d, lock := some (e, match acc.lock with | some (_, old) => old | none => acc.data) }
  let s' := s.setCore (coreOf e) { core with accs := setAt core.accs (b % 4) locked }
  (acc.lock = none ∨ ∃ old, acc.lock = some (e, old)) → acc.data.repeats seq last = false →
  (seq = acc.data.exp ∨ acc.data.early.length < 16) →
    (let old := acc.data
     let sum := fun a b => if Ty.isFloat o.ty then fadd o.ty o.m a b else sat o.ty (readByM o.ty o.m a + readByM o.ty o.m b) o.m
     let value := fun (k : Nat) => (((old.early ++ [p]).find? fun q => q.seq == k).map Partial.value).getD 0
     old.early.length ≤ 16 → (∀ q ∈ old.early, old.exp < q.seq) →
      d.lseq = (if last then some seq else old.lseq) ∧ d.taint = (old.taint || tokTaint tok) ∧
      (seq ≠ old.exp → d.acc = old.acc ∧ d.exp = old.exp ∧ d.early = old.early ++ [p]) ∧
      (seq = old.exp → ∃ n, 1 ≤ n ∧ d.exp = old.exp + n ∧ (∀ i, 1 ≤ i → i < n → ∃ q ∈ old.early, q.seq = old.exp + i) ∧
        (∀ q ∈ old.early, q.seq ≠ old.exp + n) ∧ d.early = old.early.filter (fun q => decide (old.exp + n ≤ q.seq)) ∧
        d.acc = (List.range n).foldl (fun v i => if old.exp + i = 0 then value 0
          else vecOfLanes ((List.range 64).map fun l => sum (lane v l) (lane (value (old.exp + i)) l))) old.acc)) ∧
    (d.done = false → exec (.vseqacc o) s =
      .next (finish s' o ((Agent.firing e { f with nsend := f.nsend + 1 }).setScalar o.d (d.exp * 2 + d.early.length * 256)))) ∧
    (d.done = true → ∀ g, issueSend s' e f (b / 16 % 16) { last := true, taint := d.taint } d.acc = .ok g →
      exec (.vseqacc o) s = .next (finish s' o ((Agent.firing e g).setScalar o.d (1 + d.exp * 2 + d.early.length * 256))))

/-- O10: what an instruction of the compute families may change: it writes D and goes on, or a malformed aif13 container raises AIFRANGE
(R125, R126). -/
def Obligations.ComputeChangesOnlyItsDestination : Prop := ∀ (i : Instr) (o : Ops) (op : Nat) (s : State) (x : Agent),
  i.code = some (op, o) → op < 0x90 → op ≠ 0x81 → s.agent = some x →
    (∃ y, OnlyD o.d x y ∧ exec i s = .next (finish s o y)) ∨
      (o.ty = .aif13 ∨ Ty.ofCode (xField o.x 3 0) = some .aif13) ∧ ∃ c, aifMalformed c = true ∧ exec i s = .next (raise s Cause.aifrange (word c))

/-- O11: completing an instruction moves its agent to the next slot or word, ends the run where E = 1, and leaves memory and everything
else outside the agents as it was (R96, R346). -/
def Obligations.CompletionAdvancesTheAgent : Prop := ∀ (s : State) (o : Ops) (e : Nat) (f : Firing) (n : Nat) (st : Stew),
  Canonical s →
    OutsideAgents s (finish s o (.firing e f)) ∧
    ((finish s o (.firing e f)).elem e).firing = some (if o.e then { f with ended := true } else { f with slot := f.slot + 1 }) ∧
    (∀ e', e' ≠ e → (finish s o (.firing e f)).elem e' = s.elem e') ∧
    (o.e = false → ∀ c, (finish s o (.firing e f)).core c = s.core c) ∧
    (∀ c, (finish s o (.firing e f)).core c = s.core c ∨
      ∃ old, (s.core c).arrClaim = some (e, old) ∧ (finish s o (.firing e f)).core c = ({ s.core c with arrClaim := none } : Core)) ∧
    (n < 21 → finish s o (.stew n st) = s.setStew n { st with pc := st.pc + 8 } ∧
      (finish s o (.stew n st)).stew n = ({ st with pc := st.pc + 8 } : Stew) ∧ ∀ m, m ≠ n → (finish s o (.stew n st)).stew m = s.stew m) ∧
    ∀ a, (finish s o (.firing e f)).readByte a = s.readByte a ∧ (finish s o (.stew n st)).readByte a = s.readByte a

/-! ## Tokens, timestamps and routes -/

/-- O12: the timestamp that a token on a route carries, for well-formed timestamps (R167, R168), and the header of a token: the destination and the
VC of its route and the flags of its send (R60). -/
def Obligations.TimestampsAndHeaders : Prop :=
  (∀ (t : W64) (n : Nat), tsWf t = true →
  let d := tsDepth t
  tsOnRoute 1 t n = .ok t ∧ tsOnRoute 5 t n = .ok t ∧ tsOnRoute 6 t n = .ok t ∧ tsOnRoute 7 t n = .ok t ∧ tsOnRoute 8 t n = .ok t ∧
  (d < 3 → n < 4096 → ∃ u, tsOnRoute 2 t n = .ok u ∧ tsWf u = true ∧ tsDepth u = d + 1 ∧ tsCoord u (d + 1) = n ∧
    ∀ i, i ≤ d → tsCoord u i = tsCoord t i) ∧
  (1 ≤ d → tsCoord t d < 4095 → ∃ u, tsOnRoute 3 t n = .ok u ∧ tsWf u = true ∧ tsDepth u = d ∧ tsCoord u d = tsCoord t d + 1 ∧
    ∀ i, i ≤ 3 → i ≠ d → tsCoord u i = tsCoord t i) ∧
  (1 ≤ d → ∃ u, tsOnRoute 4 t n = .ok u ∧ tsWf u = true ∧ tsDepth u = d - 1 ∧ ∀ i, i < d → tsCoord u i = tsCoord t i) ∧
  (d = 0 → tsOnRoute 3 t n = .error t ∧ tsOnRoute 4 t n = .error t) ∧ (d = 3 → tsOnRoute 2 t n = .error t) ∧
  (1 ≤ d → tsCoord t d = 4095 → ∃ u, tsOnRoute 3 t n = .error u ∧ tsDepth u = d ∧ tsCoord u d = 0 ∧
    ∀ i, i ≤ 3 → i ≠ d → tsCoord u i = tsCoord t i)) ∧
  (∀ (s : State) (r : W64) (fl : Flags) (wide : Bool), s.devId < 4096 →
  let h := header1 s r fl wide
  bits h 63 52 = routeDev s r ∧ bits h 51 31 = bits r 42 22 ∧ bits h 30 26 = bits r 21 17 ∧ bitOf h 25 = fl.last ∧
    bitOf h 24 = fl.scaled ∧ bitOf h 23 = fl.eos ∧ bitOf h 22 = fl.esheaf ∧ bitOf h 21 = fl.taint ∧
    bits h 20 15 = fl.seq % 64 ∧ bits h 14 12 = (if wide then 1 else 0) ∧ bits h 11 0 = 0)


/-- O13: a send on a route puts one token into the commit buffer; a route that is off, of kind muster or of kind memory sends nothing
(R100, R168, R190). The token's header names the sending device (R60); a widening is marked in the buffer. -/
def Obligations.SendPlacesOneToken : Prop := ∀ (s : State) (e : Nat) (f : Firing) (route : Nat) (fl : Flags) (pay : Vec),
  let r := routeWord s e f.frame.ctx route
  let k := routeKind r
  (k = 0 ∨ k = 6 ∨ k = 7 → issueSend s e f route fl pay = .ok f) ∧
  (∀ ts, ¬(k = 0 ∨ k = 6 ∨ k = 7) → tsOnRoute k f.frame.ts = .ok ts → (k = 8 ∨ deadPeer s (routeDev s r) = false) →
    ∃ tok, issueSend s e f route fl pay =
        .ok { f with items := f.items ++ [.send tok route r (routeCores s e f.frame.ctx route r) false], nsend := f.nsend + 1 } ∧
      issueSend s e f route fl pay true =
        .ok { f with items := f.items ++ [.send tok route r (routeCores s e f.frame.ctx route r) true], nsend := f.nsend + 1 } ∧
      tok.ts = ts ∧ tok.h1 = header1 s r fl (decide (routeNet r ≠ 2)) ∧ tok.h2 = word (s.devId * 2 ^ 52) ∧
      tok.payload = (if routeNet r = 2 then BitVec.ofNat 2048 (pay.toNat % 2 ^ 64) else pay)) ∧
  (∀ d, ¬(k = 0 ∨ k = 6 ∨ k = 7) → tsOnRoute k f.frame.ts = .error d → issueSend s e f route fl pay = .error (Cause.stampovf, d)) ∧
  (∀ ts, ¬(k = 0 ∨ k = 6 ∨ k = 7 ∨ k = 8) → tsOnRoute k f.frame.ts = .ok ts → deadPeer s (routeDev s r) = true →
    issueSend s e f route fl pay = .error (Cause.deadpeer, word (routeDev s r)))

/-- O14: which route, flags and payload each sending instruction sends, and that it completes where the send is accepted (R190, R191). That STEER
never checks B as a container is the model's choice (log 118). -/
def Obligations.SendingInstructionsComplete : Prop := ∀ (o : Ops) (s : State) (e : Nat) (f : Firing), Issues s e f →
  let x := Agent.firing e f
  let a := src s x o (.bits o.ty) o.a false 0
  let b := src s x o .whole o.b false 0
  let value : Vec := if o.sh = .scalar then BitVec.ofNat 2048 a else vectorRaw s x o.a
  let ts := f.frame.ts
  let last := o.x.toNat.testBit 23
  let seq := o.x.toNat / 2 ^ 17 % 64
  let route := o.x.toNat / 2 ^ 24 % 32
  let sends := fun (i : Instr) (r : Nat) (fl : Flags) (pay : Vec) => ∀ g, issueSend s e f r fl pay = .ok g → CompletesAs i o s e g
  (o.sh = .scalar → containerBad (.bits o.ty) a = false) →
    sends (.send o) route { last := last, seq := seq } value ∧
    sends (.scalm o) route { last := last, seq := seq, scaled := true } value ∧
    (∀ g, issueSend s e f route { last := last, seq := seq } value true = .ok g → CompletesAs (.widen o) o s e g) ∧
    sends (.seq o) route { last := last, seq := tsCoord ts (tsDepth ts) % 64 } value ∧
    sends (.sendl o) route { last := b.testBit 6, seq := b % 64 } value ∧
    sends (.steer o) (if b % 2 = 1 then route else route + 1) { last := last, seq := seq } value ∧
    sends (.eos o) route { last := last, eos := true } 0 ∧
    ∀ t, operandToken s e f o.a = some t →
      sends (.chain o) route { last := bitOf t.h1 25, scaled := bitOf t.h1 24, eos := bitOf t.h1 23, esheaf := bitOf t.h1 22,
                               taint := bitOf t.h1 21, seq := bits t.h1 20 15 } t.payload

/-- O15: REQN registers a request at its route's destination and faults with NOTIFYBEH for a time that is malformed, of another depth or
earlier (R192). That the route makes the request's time of its own, and that one it cannot make raises STAMPOVF, is the model's reading (log
58). SENDM places its token with its muster route (R444), and on any other route sends as SEND does (R168); TSGET reads a field of a timestamp (R193). -/
def Obligations.RequestMusterAndTimestampInstructions : Prop := ∀ (o : Ops) (s : State) (e : Nat) (f : Firing), Issues s e f →
  let x := Agent.firing e f
  let route := o.x.toNat / 2 ^ 24 % 32
  let r := routeWord s e f.frame.ctx route
  let t := word (src s x o .whole o.a false 0)
  let a := src s x o (.bits o.ty) o.a false 0
  let behind := tsWf t = false ∨ tsDepth t ≠ tsDepth f.frame.ts ∨ tsEarlier t f.frame.ts = true
  (¬behind → routeKind r ≠ 0 → routeKind r ≠ 6 → routeKind r ≠ 7 → (routeKind r = 8 ∨ deadPeer s (routeDev s r) = false) →
    (∀ u, tsOnRoute (routeKind r) t = .ok u →
      CompletesAs (.reqn o) o s e { f with items := f.items ++ [.reqn (routeLoc s r) u r], nsend := f.nsend + 1 }) ∧
    ∀ d, tsOnRoute (routeKind r) t = .error d → exec (.reqn o) s = .next (raise s Cause.stampovf (if d = t then f.frame.ts else d))) ∧
  (behind → exec (.reqn o) s = .next (raise s Cause.notifybeh t)) ∧
  ((o.sh = .scalar → containerBad (.bits o.ty) a = false) → routeKind r = 6 → deadPeer s (routeDev s r) = false →
    ∃ tok, tok.ts = f.frame.ts ∧ tok.payload = (if routeNet r = 2 then BitVec.ofNat 2048 ((sendPayload s x o).toNat % 2 ^ 64)
        else sendPayload s x o) ∧
      CompletesAs (.sendm o) o s e { f with items := f.items ++ [.sendm tok route r false f.slot], nsend := f.nsend + 1 }) ∧
  ((o.sh = .scalar → containerBad (.bits o.ty) a = false) → routeKind r ≠ 6 →
    ∀ g, issueSend s e f route { last := o.x.toNat.testBit 23, seq := o.x.toNat / 2 ^ 17 % 64 } (sendPayload s x o) = .ok g →
      CompletesAs (.sendm o) o s e g) ∧
  (let sel := o.x.toNat % 8
   exec (.tsget o) s = .next (finish s o (x.setScalar o.d
    (if sel = 0 then bits t 63 62 else if sel = 1 then bits t 61 37 else if sel = 2 then bits t 36 25 else if sel = 3 then bits t 24 13
     else if sel = 4 then bits t 12 1
     else if bits t 63 62 = 0 then bits t 61 37 else if bits t 63 62 = 1 then bits t 36 25
     else if bits t 63 62 = 2 then bits t 24 13 else bits t 12 1))))
/-! ## Memory instructions -/

/-- O16: the loads and stores of a firing in its own scratchpad: the address of R223; a load reads at issue, a store joins the SCR group of
the commit (R101, R228, R234, R235, R238, R239), but a malformed aif13 container as ST's data raises AIFRANGE (R72; that it comes before the
address is log 55); a load returns the firing's latest earlier store, byte by byte, else the scratchpad's
byte (R114): ST, STV, STP and the lanes of SCATV in their order store bytes, CLRP none. -/
def Obligations.FiringScratchpadAccesses : Prop :=
  (∀ (o : Ops) (s : State) (e : Nat) (f : Firing),
  Issues s e f → memSpace o = 0 →
  let x := Agent.firing e f
  let off : Int := signed 18 (o.x.toNat % 2 ^ 18)
  let ctx := f.frame.ctx
  let ea := memEa s x o
  let n := memSize o
  let b := src s x o .whole o.b false 0
  let bad := containerBad (.bits o.ty) (low (Ty.width o.ty) b)
  let vb := (vectorRaw s x o.b).toNat
  let eas := (List.range 64).map fun i => wrapInt 64 (gatherBase s x o + signed 32 (lane (vectorRaw s x o.a) i) * n)
  ((ea : Int) = ((src s x o .whole o.a false 0 : Nat) + off) % 2 ^ 64) ∧
  (permitted s e ctx 0 ea n true false → ∀ t v, readScr s e f n [ea] = (t, .ok [v]) →
    exec (.ld o) s = .next (finish t o (x.setScalar o.d v)) ∧
    exec (.ldv o) s = .next (finish t o (x.setVector o.d (BitVec.ofNat 2048 v)))) ∧
  (permitted s e ctx 0 ea n false true →
    (bad = false → BuffersStore (.st o) o s e f (.write ea (bytesOfNum n b))) ∧ BuffersStore (.stv o) o s e f (.write ea (bytesOfNum n vb)) ∧
    BuffersStore (.clrp o) o s e f (.clrp ea n)) ∧
  (bad = true → exec (.st o) s = .next (raise s Cause.aifrange (word (low (Ty.width o.ty) b)))) ∧
  (permitted s e ctx 0 ea 8 false true →
    (stpMeetsFull s e f ea = false → BuffersStore (.stp o) o s e f (.stp ea (bytesOfNum 8 b) f.slot (f.items.countP Item.stores))) ∧
    (stpMeetsFull s e f ea = true → exec (.stp o) s = .next (raise s Cause.doublew (word ea)))) ∧
  (issueChecks s e ctx (eas.map fun a => { space := 0, ea := a, len := n, align := n, rd := true, wr := false }) = none →
    ∀ t v, readScr s e f n eas = (t, .ok v) → exec (.gathv o) s = .next (finish t o (x.setVector o.d (vecOfLanes v)))) ∧
  (issueChecks s e ctx (eas.map fun a => { space := 0, ea := a, len := n, align := n, rd := false, wr := true }) = none →
    BuffersStore (.scatv o) o s e f (.scatter (eas.zipIdx.map fun p => (p.1, bytesOfNum n (lane (vectorRaw s x o.b) p.2)))))) ∧
  (∀ (s : State) (e : Nat) (f : Firing) (a n b : Nat) (bs : List Byte),
  s.soft = [] →
  readScr s e f n [a] = (s, .ok [numOfBytes ((List.range n).map fun i => firingByte s e f (a + i))]) ∧
  (f.scr = [] → firingByte s e f a = s.readByte (scrAddr (coreOf e) a)) ∧
  (let after := fun (x : ScrStore) => firingByte s e { f with scr := f.scr ++ [x] } a
   let stored := fun (old : Byte) => if b ≤ a ∧ a < b + bs.length then bs.getD (a - b) 0 else old
   after (.write b bs) = stored (firingByte s e f a) ∧
   (∀ slot k, after (.stp b bs slot k) = stored (firingByte s e f a)) ∧
   (∀ l, after (.scatter (l ++ [(b, bs)])) = stored (after (.scatter l))) ∧ after (.scatter []) = firingByte s e f a ∧
   after (.clrp b n) = firingByte s e f a))


/-- O17: a split-phase instruction of a firing outside its scratchpad buffers one request with its operands (R100, R228, R234 to R240), of which an
fadd's is read with its type, and so scaled where its channel is (R81). An access
in any space stops at issue with SPACEOOB where its address is not in its space, else with MISALIGN, else with RANGEOUT at the first byte that no
declared range permits, and passes where each byte has one (R223, R224, R227). -/
def Obligations.FiringSplitPhaseAccesses : Prop := ∀ (o : Ops) (s : State) (e : Nat) (f : Firing), Issues s e f →
  let x := Agent.firing e f
  let ctx := f.frame.ctx
  let sp := memSpace o
  let ea := memEa s x o
  let n := memSize o
  let a := src s x o .whole o.a false 0
  let b := src s x o .whole o.b false 0
  let bad := containerBad (.bits o.ty) (low (Ty.width o.ty) b)
  let vb := (vectorRaw s x o.b).toNat
  let plain := fun (kind : ReqKind) (ea n : Nat) (r : Req) =>
    r.kind = kind ∧ r.space = sp ∧ r.ea = ea ∧ r.size = n ∧ r.route = o.x.toNat / 2 ^ 18 % 32
  (sp ≠ 0 → permitted s e ctx sp ea n true false →
    BuffersRequest (.ld o) o s e f (plain .ld ea n) ∧ BuffersRequest (.ldv o) o s e f (plain .ldv ea n)) ∧
  (permitted s e ctx sp ea 8 true false → BuffersRequest (.ldp o) o s e f (plain .ldp ea n)) ∧
  (sp ≠ 0 → permitted s e ctx sp ea n false true →
    (bad = false → BuffersRequest (.st o) o s e f (fun r => plain .st ea n r ∧ r.data = BitVec.ofNat 2048 (low (8 * n) b))) ∧
    BuffersRequest (.stv o) o s e f (fun r => plain .stv ea n r ∧ r.data = BitVec.ofNat 2048 (low (8 * n) vb)) ∧
    BuffersRequest (.clrp o) o s e f (plain .clrp ea n)) ∧
  (sp ≠ 0 → permitted s e ctx sp ea 8 false true →
    BuffersRequest (.stp o) o s e f (fun r => plain .stp ea n r ∧ r.data = BitVec.ofNat 2048 (numOfBytes (bytesOfNum 8 b)))) ∧
  (permitted s e ctx sp a n true true →
    let v := if Ty.isFloat o.ty then src s x o (.typed o.ty) o.b false 0 else b
    let P := fun (kind : ReqKind) (r : Req) => plain kind a n r ∧ r.data = BitVec.ofNat 2048 v ∧ r.op = o.x.toNat / 2 ^ 14 % 16 ∧ r.m = o.m ∧
      r.ty = o.ty ∧ r.rlse = o.x.toNat.testBit 13 ∧ r.acq = o.x.toNat.testBit 12 ∧ r.scope = o.x.toNat / 2 ^ 3 % 8 ∧
      r.cmp = word (src s x o .whole (Spec.ofCode (o.x.toNat / 2 ^ 6 % 64)) false 0)
    BuffersRequest (.atom o) o s e f (P .atom) ∧ BuffersRequest (.atomr o) o s e f (P .atomr)) ∧
  (sp ≠ 0 →
    let eas := (List.range 64).map fun i => wrapInt 64 (gatherBase s x o + signed 32 (lane (vectorRaw s x o.a) i) * n)
    (issueChecks s e ctx (laneParts sp n eas true false) = none →
      BuffersRequest (.gathv o) o s e f fun r => r.kind = .gathv ∧ r.data = vectorRaw s x o.a ∧ r.ea = gatherBase s x o ∧ r.size = n) ∧
    (issueChecks s e ctx (laneParts sp n eas false true) = none →
      BuffersRequest (.scatv o) o s e f fun r => r.kind = .scatv ∧ r.data = vectorRaw s x o.a ∧ r.data2 = vectorRaw s x o.b ∧
        r.ea = gatherBase s x o ∧ r.size = n)) ∧
  (let permits := fun (rd wr : Bool) (j : Nat) => ∃ w ∈ ctxRanges s e ctx, w.getLsbD 63 = true ∧ bits w 60 58 = sp ∧
     (rd = true → w.getLsbD 62 = true) ∧ (wr = true → w.getLsbD 61 = true) ∧
     bits w 55 8 * 256 ≤ j ∧ j < bits w 55 8 * 256 + (bits w 2 0 + 1) * 2 ^ (bits w 7 3 + 8)
   ∀ p ∈ [(Instr.ld o, true), (.ldv o, true), (.st o, false), (.stv o, false)], (p.1 = .st o → bad = false) →
    let stops := fun (c : Nat) (d : W64) => exec p.1 s = .next (raise s c d)
    (inSpace s e ctx sp ea = false → stops Cause.spaceoob (word ea)) ∧
    (inSpace s e ctx sp ea = true → ea % n ≠ 0 → stops Cause.misalign (word ea)) ∧
    (inSpace s e ctx sp ea = true → ea % n = 0 →
      (∀ j, ea ≤ j → j < ea + n → ¬permits p.2 (!p.2) j → (∀ k, ea ≤ k → k < j → permits p.2 (!p.2) k) → stops Cause.rangeout (word j)) ∧
      ((∀ j, ea ≤ j → j < ea + n → permits p.2 (!p.2) j) → permitted s e ctx sp ea n p.2 (!p.2))))

/-- O18: line operations, watches, fences, streams, waits and ordering tokens of a firing (R242, R243, R246, R247, R249, R250). -/
def Obligations.FiringLineStreamAndOrderAccesses : Prop := ∀ (o : Ops) (s : State) (e : Nat) (f : Firing), Issues s e f →
  let x := Agent.firing e f
  let ctx := f.frame.ctx
  let sp := memSpace o
  let ea := memEa s x o
  let a := src s x o .whole o.a false 0
  let b := src s x o .whole o.b false 0
  let route := o.x.toNat / 2 ^ 18 % 32
  let len := b / 2 ^ 32 % 2 ^ 32
  (permitted s e ctx 3 ea 128 true false → BuffersRequest (.pref o) o s e f fun r => r.kind = .pref ∧ r.ea = ea) ∧
  (permitted s e ctx 3 ea 128 false true →
    BuffersRequest (.clean o) o s e f (fun r => r.kind = .clean ∧ r.ea = ea) ∧
    BuffersRequest (.inval o) o s e f fun r => r.kind = .inval ∧ r.ea = ea) ∧
  (permitted s e ctx sp ea 8 true false →
    BuffersRequest (.watch o) o s e f fun r => r.kind = .watch ∧ r.ea = ea ∧ r.route = route ∧ r.cmp = word (b % 65536)) ∧
  (∃ r : Req, r.kind = .fence ∧ r.elem = e ∧ r.ctx = ctx ∧ r.scope = o.x.toNat % 8 ∧
    CompletesAs (.fence o) o s e { f with items := f.items ++ [.req r 0], nreq := f.nreq + 1 }) ∧
  (len % 8 = 0 → 8 ≤ len → len ≤ 524288 →
    let far := fun (rd : Bool) => ({ space := sp, ea := ea, len := len, align := 8, rd := rd, wr := !rd } : Part)
    let near := fun (rd : Bool) => ({ space := 0, ea := b % 2 ^ 19, len := len, align := 8, rd := rd, wr := true } : Part)
    (issueChecks s e ctx [far true, near false] = none →
      BuffersRequest (.strm o) o s e f fun r => r.kind = .strm ∧ r.ea = ea ∧ r.cmp = word b ∧ r.route = route) ∧
    (issueChecks s e ctx [far false, near true] = none →
      BuffersRequest (.strmq o) o s e f fun r => r.kind = .strmq ∧ r.ea = ea ∧ r.cmp = word b ∧ r.route = route)) ∧
  ((len % 8 ≠ 0 ∨ len < 8 ∨ 524288 < len) →
    exec (.strm o) s = .next (raise s Cause.strmlen (word b)) ∧ exec (.strmq o) s = .next (raise s Cause.strmlen (word b))) ∧
  BuffersRequest (.wpwait o) o s e f (fun r => r.kind = .wpwait ∧ r.aux = word a ∧ r.data = BitVec.ofNat 2048 b ∧ r.route = route ∧
    r.cmp = word (src s x o .whole (thirdSpec o) false 0)) ∧
  (inSpace s e ctx sp ea = true →
    BuffersRequest (.ordt o) o s e f fun r => r.kind = .ordt ∧ r.space = sp ∧ r.ea = ea ∧ r.size = b % 2 ^ 32 ∧ r.route = route)

/-- O19: an access of a steward-mode core is synchronous: a load writes D, a store writes memory, an atomic does both, at the byte that the
address names (R225, R231, R237 to R241); FENCE only completes (R246). A malformed aif13
container as ST's data traps with AIFRANGE (R72; that it comes first is log 55); an access that its home may not serve yet is tried again
(R421, R395; that a link without a working module holds it, and an access of an engine's register, is log 99). That an LDP on an empty
granule takes no place there and is tried again is the model's choice (log 112). -/
def Obligations.StewardMemoryAccesses : Prop := ∀ (o : Ops) (s : State) (n : Nat) (st : Stew) (a : Nat),
  s.agent = some (.stew n st) →
  let x := Agent.stew n st
  let sp := memSpace o
  let ea := memEa s x o
  let len := memSize o
  let b := src s x o .whole o.b false 0
  let bad := containerBad (.bits o.ty) (low (Ty.width o.ty) b)
  let done := fun (t : State) (v : Nat) => finish t o ((Agent.stew n (t.stew n)).setScalar o.d v)
  let linked := ∀ k, engineWordAt a = some k → bothReach s (stewDie n) (k.1 / 128) = true
  let may := fun (write : Bool) => sp = 4 → homeHolds s a len write (die := some (stewDie n)) = false ∧ linked
  exec (.fence o) s = .next (finish s o x) ∧
  ((sp < 3 ∨ sp = 4) → stewAddr s n st sp ea = .ok a →
    (ea % len = 0 →
      (may false → ∀ t v, readAt s (.stew n) none a len ea = (t, .ok v) → exec (.ld o) s = .next (done t v)) ∧
      (bad = false → may true → ∀ t, writeAt s (.stew n) none a (bytesOfNum len b) ea = (t, .ok ()) → exec (.st o) s = .next (done t 0)) ∧
      (sp ≠ 4 → exec (.clrp o) s = .next (done (clearPresence s a len) 0)) ∧
      (sp = 4 → inHbm a len = true → homeHolds s a len (die := some (stewDie n)) = true → exec (.ld o) s = .next s) ∧
      (sp = 4 → inHbm a len = false → ¬linked → exec (.ld o) s = .next s ∧ (bad = false → exec (.st o) s = .next s))) ∧
    (sp ≠ 4 → ea % 8 = 0 →
      (readable s a = true → ∀ t v, readAt s (.stew n) none a 8 ea = (t, .ok v) → exec (.ldp o) s = .next (done t v)) ∧
      (readable s a = false → exec (.ldp o) s = .next s) ∧
      (s.present a = false → exec (.stp o) s = .next (done (fillGranule s a (bytesOfNum 8 b)) 0)) ∧
      (s.present a = true → exec (.stp o) s = .next (raise s Cause.doublew (word ea)))) ∧
    (ea % len ≠ 0 → exec (.ld o) s = .next (raise s Cause.misalign (word ea)) ∧
      (bad = false → exec (.st o) s = .next (raise s Cause.misalign (word ea))))) ∧
  (∀ c, (sp < 3 ∨ sp = 4) → stewAddr s n st sp ea = .error c →
    exec (.ld o) s = .next (raise s c.1 c.2) ∧ (bad = false → exec (.st o) s = .next (raise s c.1 c.2))) ∧
  (sp ≠ 5 → bad = true → exec (.st o) s = .next (raise s Cause.aifrange (word (low (Ty.width o.ty) b)))) ∧
  (let ea := src s x o .whole o.a false 0
   let cmp := src s x o .whole (Spec.ofCode (o.x.toNat / 2 ^ 6 % 64)) false 0
   let v := if Ty.isFloat o.ty then src s x o (.typed o.ty) o.b false 0 else b
   (sp < 3 ∨ sp = 4) → stewAddr s n st sp ea = .ok a → may false → ea % len = 0 →
    ∀ t old, atomAt s (.stew n) a len ea (o.x.toNat / 2 ^ 14 % 16) o.m v cmp = (t, .ok old) →
      exec (.atom o) s = .next (done t old) ∧ exec (.atomr o) s = .next (done t old))

/-- O20: a global address of a steward-mode core is translated, and the access, an atomic too, performed where the page stands on this device (R231,
R240, R385, R455); on a physical line of HBM, PREF has no effect, CLEAN writes the line back from every cache, and INVAL also drops it, from the core's
instruction cache too (R242, R335): after CLEAN no cache holds a dirty sector of it but a poisoned one, which is not written back (R219), and
after INVAL none holds it. That the line's operations wait while no link leads to its home is the model's reading (log 99). -/
def Obligations.StewardGlobalAndLineAccesses : Prop :=
  (∀ (o : Ops) (s t : State) (n : Nat) (st : Stew) (a : Nat),
  s.agent = some (.stew n st) → memSpace o = 3 →
  let x := Agent.stew n st
  let ea := memEa s x o
  let len := memSize o
  let b := src s x o .whole o.b false 0
  ea < 2 ^ 56 → ea % len = 0 → a < scrBase → homeHolds t a len (die := some (stewDie n)) = false →
  homeHolds t a len true (die := some (stewDie n)) = false →
  (∀ k, engineWordAt a = some k → bothReach t (stewDie n) (k.1 / 128) = true) →
    (resolveGlb s (stewDie n) 0 ea .read (decide (len = 8)) (.steward n st.pc) = (t, .at a) → ∀ u v, readAt t (.stew n) none a len ea = (u, .ok v) →
      exec (.ld o) s = .next (finish u o ((Agent.stew n (u.stew n)).setScalar o.d v))) ∧
    (resolveGlb s (stewDie n) 0 ea .write false (.steward n st.pc) = (t, .at a) → containerBad (.bits o.ty) (low (Ty.width o.ty) b) = false → ∀ u, writeAt t (.stew n) none a (bytesOfNum len b) ea = (u, .ok ()) →
      exec (.st o) s = .next (finish u o ((Agent.stew n (u.stew n)).setScalar o.d 0)))) ∧
  (∀ (o : Ops) (s t : State) (n : Nat) (st : Stew) (a : Nat),
  s.agent = some (.stew n st) → memSpace o = 3 →
  let x := Agent.stew n st
  let ea := src s x o .whole o.a false 0
  let len := memSize o
  let v := if Ty.isFloat o.ty then src s x o (.typed o.ty) o.b false 0 else src s x o .whole o.b false 0
  let cmp := src s x o .whole (Spec.ofCode (o.x.toNat / 2 ^ 6 % 64)) false 0
  ea < 2 ^ 56 → ea % len = 0 → a < scrBase → homeHolds t a len (die := some (stewDie n)) = false →
    (∀ k, engineWordAt a = some k → bothReach t (stewDie n) (k.1 / 128) = true) →
    resolveGlb s (stewDie n) 0 ea .atomic false (.steward n st.pc) = (t, .at a) →
    ∀ u old, atomAt t (.stew n) a len ea (o.x.toNat / 2 ^ 14 % 16) o.m v cmp = (u, .ok old) →
      let done := finish u o ((Agent.stew n (u.stew n)).setScalar o.d old)
      exec (.atom o) s = .next done ∧ exec (.atomr o) s = .next done) ∧
  (∀ (o : Ops) (s : State) (n : Nat) (st : Stew),
  s.agent = some (.stew n st) → memSpace o = 4 →
  let ea := memEa s (.stew n st) o
  ea % 128 = 0 → ea + 128 ≤ 2 ^ 39 →
    let line := ea / 128
    let done := fun (t : State) => finish t o (.stew n (t.stew n))
    exec (.pref o) s = .next (done s) ∧ (cleanHolds s line (some (stewDie n)) = false → exec (.clean o) s = .next (done (cleanLine s line)) ∧
    exec (.inval o) s = .next (done (invalIcache (invalLine s line) n line))) ∧
    (cleanHolds s line (some (stewDie n)) = true → exec (.clean o) s = .next s ∧ exec (.inval o) s = .next s)) ∧
  (∀ (s : State) (line : Nat), Canonical s →
    let h := lineHome s line
    (let t := cleanLine s line
     ((t.die h).line line).dirty = 0 ∧
       ∀ c i, ((t.core c).line line).dirty.testBit i = true → ((t.core c).line line).poison.testBit i = true) ∧
    (let t := invalLine s line
     (t.die h).line line = CacheLine.init ∧ line ∉ (t.die h).pinned ∧ ∀ c, (t.core c).line line = CacheLine.init))

/-- O21: bytes written to memory are read back, and every byte outside the written range is as it was (R5, R204); two canonical memories that read
alike at every address are one memory. -/
def Obligations.MemoryReadsWhatWasWritten : Prop :=
  (∀ (s : State) (a n v b : Nat),
  (s.writeNum a n v).readNum a n = v % 2 ^ (8 * n) ∧ (b < a ∨ a + n ≤ b → (s.writeNum a n v).readByte b = s.readByte b)) ∧
  (∀ (m m' : List Host.Cell), Memory.wf m = true → Memory.wf m' = true →
  (∀ a, Tab.get Memory.unlisted m a = Tab.get Memory.unlisted m' a) → m = m')


/-- O22: the new value of an atomic for each AOP (R240). An atomic at a home without latent errors reads the old value and writes the new one, and
every byte of memory but the addressed ones stays. -/
def Obligations.AtomicNewValues : Prop :=
  (∀ (w old v cmp : Nat) (m : BitVec 2), 0 < w → old < 2 ^ w → v < 2 ^ w → cmp < 2 ^ w →
  atomNew 0 w m old v cmp = (old + v) % 2 ^ w ∧ atomNew 1 w m old v cmp = old &&& v ∧ atomNew 2 w m old v cmp = old ||| v ∧
  atomNew 3 w m old v cmp = old ^^^ v ∧
  signed w (atomNew 4 w m old v cmp) = min (signed w old) (signed w v) ∧
  signed w (atomNew 5 w m old v cmp) = max (signed w old) (signed w v) ∧
  atomNew 6 w m old v cmp = min old v ∧ atomNew 7 w m old v cmp = max old v ∧ atomNew 8 w m old v cmp = v ∧
  atomNew 9 w m old v cmp = (if old = cmp then v else old) ∧
  atomNew 10 w m old v cmp = fadd .f32 m old v ∧ atomNew 11 w m old v cmp = fadd .bf16 m old v) ∧
  (∀ (s : State) (who : Issuer) (a n ea aop v cmp : Nat) (m : BitVec 2), s.soft = [] → (scrBase ≤ a ∨ a + n ≤ 2 ^ 39) →
    (∀ d k, ((s.die d).line k).poison = 0) → (∀ x ∈ s.cores, ∀ k, (x.2.line k).poison = 0) →
    ∃ t, atomAt s who a n ea aop m v cmp = (t, .ok (s.readNum a n)) ∧
      t.readNum a n = atomNew aop (8 * n) m (s.readNum a n) v cmp % 2 ^ (8 * n) ∧
      ∀ b, b < a ∨ a + n ≤ b → t.readByte b = s.readByte b)
/-! ## The squarer array -/

/-- O23: the inner product that an array forms from squares: (P - RA - CB) / 2 is the sum of the products (R252). -/
def Obligations.SquaresGiveTheInnerProduct : Prop := ∀ (al be : List Int), al.length = be.length →
  (cellSum al be - (al.map fun v => v * v).sum - (be.map fun v => v * v).sum) / 2 = ((al.zip be).map fun p => p.1 * p.2).sum

/-- O24: the array instructions of a firing that claims the array of its core, owned by its image (R264 to R277); MXFEED where the cells have
room for its rows. On an array that no image owns, but for MXCFG, or that another image owns, they raise ARROWN (R266); that this comes before every
other check is the model's choice (log 139). -/
def Obligations.ArrayInstructionsComplete : Prop := ∀ (o : Ops) (s t : State) (e : Nat) (f : Firing),
  s.agent = some (.firing e f) → claimArray s e = some t →
  let c := coreOf e
  let own := (t.core c).arr
  let img := ctxImage s e f.frame.ctx
  let x := Agent.firing e f
  let a := (t.core (arrData t c)).arr
  let b := src t x o .whole o.b false 0
  let base := b % 64
  let tag := b / 2 ^ 12 % 4
  let seq := b / 2 ^ 16 % 64
  let last := b.testBit 22
  let rows := b / 2 ^ 8 % 8 + 1
  let vals := payloadValues t x o
  let sexp := operandSexp f o.a
  let k := if own.role = 1 then 64 else 32
  ((own.ownv = true → own.ownimg = img) → (xField o.x 1 0 = 1 → c % 128 < 120 ∧ isFused t (below c) = false) → arrBusy (arrOf t c) = 0 →
    exec (.mxcfg o) s = .next (finish (setArr t c
      { own with role := xField o.x 1 0, outf := outfOf o.ty, rm := o.m, ownv := true, ownimg := img }) o x)) ∧
  (own.ownv = false → ∀ i ∈ [Instr.mxldb o, .mxfeed o, .mxdrn o, .mxrel o, .mxrelForce o, .mxcor o, .mxstat o],
    exec i s = .next (raise t Cause.arrown (word own.ownimg))) ∧
  (own.ownv = true → own.ownimg ≠ img → ∀ i ∈ [Instr.mxcfg o, .mxldb o, .mxfeed o, .mxdrn o, .mxrel o, .mxrelForce o, .mxcor o, .mxstat o],
    exec i s = .next (raise t Cause.arrown (word own.ownimg))) ∧
  (own.ownv = true → own.ownimg = img →
    (feedsHere t c = true → partChecks a o.ty sexp = none →
      (((a.staging.head?.map Prod.snd).getD [Ty.code o.ty, (sexp + 128).toNat]).take 2 = [Ty.code o.ty, (sexp + 128).toNat] →
        32 * rows ≤ vals.length → base + rows ≤ k → (((List.range rows).map (payloadRow vals 32)).flatten.find? (containerBad (.typed o.ty))) = none →
        let staged := ((List.range rows).map (payloadRow vals 32)).zipIdx.foldl
          (fun u p => Tab.set [] u (base + p.2) (Ty.code o.ty :: (sexp + 128).toNat :: p.1)) a.staging
        let a' := { a with staging := staged }
        exec (.mxldb o) s = .next (finish (setArr t (arrData t c) (if b.testBit 11 then makeStationary a' k else a')) o x)) ∧
      (a.statv = true → k * rows ≤ vals.length → base + rows ≤ 32 → (vals.take (k * rows)).find? (containerBad (.typed o.ty)) = none →
        (∀ r, r < rows → rowChecks a tag (base + r) seq last b = none) →
        a.places + ((List.range rows).countP fun r => !a.isNext tag (base + r) seq) ≤ 16 → throttled t (dieOf c) = false →
        a.cells.length + rows ≤ cellRoom own.role →
        exec (.mxfeed o) s = .next (finish (setArr t (arrData t c) ((List.range rows).foldl (fun u r =>
            admitRow u e tag (base + r) seq last o.ty (payloadRow vals k r) sexp) a)) o
          (.firing e { f with fed := some (tag, base + rows - 1) })))) ∧
    (let n := if own.outf = 1 then 4 else 2
     let tiles := (List.range n).map fun i => own.tile tag (base + i)
     let lanes := tiles.flatMap fun u => if u.state = .complete then u.acc.map BitVec.toNat else List.replicate 32 0
     own.role ≠ 1 → outfOf o.ty = own.outf → base + n ≤ 32 → (∀ u ∈ tiles, u.state ≠ .accum) →
      ∃ a', exec (.mxdrn o) s = .next (finish (setArr t c a') o
          (x.setVector o.d (if own.outf = 1 then vecOfPacked 16 lanes else vecOfLanes lanes))) ∧
        (b.testBit 11 = true → a' = own) ∧ a'.cells = own.cells ∧ a'.early = own.early ∧ a'.stat = own.stat ∧
        (b.testBit 11 = false → a' = { own with tiles := a'.tiles } ∧
          (∀ i, i < n → (own.tile tag (base + i)).state = .complete → a'.tile tag (base + i) = TileRow.init) ∧
          (∀ i, i < n → (own.tile tag (base + i)).state ≠ .complete → a'.tile tag (base + i) = own.tile tag (base + i)) ∧
          ∀ g r, r < 32 → g ≠ tag ∨ r < base ∨ base + n ≤ r → a'.tile g r = own.tile g r)) ∧
    (arrBusy (arrOf t c) < 2 → arrPartner t c = none → exec (.mxrel o) s = .next (finish (setArr t c own.released) o x)) ∧
    exec (.mxrelForce o) s = .next (finish (forceArray t c) o x) ∧
    ((f.fed = none ∨ (arrOf t c).cells.all (fun r => r.elem != e) = true) →
      exec (.mxcor o) s = .next (finish t o (x.setVector o.d (vecOfLanes (mxcorLanes (arrOf t c) f.fed.isSome (xField o.x 1 0)))))) ∧
    (let v := if xField o.x 1 0 = 0 then astat t c else tileMasks a (xField o.x 3 2)
     exec (.mxstat o) s = .next (finish
      (if o.x.toNat.testBit 4 then setArr t (arrData t c) { a with trunc := 0, inv := false, forced := false } else t) o (x.setScalar o.d v))))

/-! ## The sheaf cutter -/

/-- O25: SHCFG, SHBND, SHCUT and SHCO of a firing that claims the cutter (R285 to R295), and SPHDR, which captures the positions of the set bits of
its combined operands for the emitter to send after the commit (R296). A route that sends nothing, or to a host, names no device that could be dead
(R429). -/
def Obligations.CutterInstructionsComplete : Prop :=
  (∀ (o : Ops) (s t : State) (e : Nat) (f : Firing),
  Issues s e f → claimCutter s e f.frame.ctx = some t →
  let cx := f.frame.ctx
  let x := Agent.firing e f
  let a := src t x o .whole o.a false 0
  let b := src t x o .whole o.b false 0
  let set := sheafOf t e cx
  (let p := word a
   let q := word b
   let c := word (src t x o .whole (thirdSpec o) false 0)
   shcfgBad p q c = false → checkAreas t e cx (occupancyAreas p ++ (if cMode c = 1 || cMode c = 2 then occupancyAreas q else [])
     ++ [(cSi c, outputBytes p c, true)]) = .ok () →
    exec (.shcfg o) s = .next (finish (setSheaf t e cx
      { v := true, scfg := c, spdesc := p, sqdesc := q, sk0 := 0, sk1 := 0, sn := 0, si := bits c 46 28, bound := bits p 34 19 + 1,
        snum := 0, done := false, skr := 0 }) o x)) ∧
  (set.v = true → a ≤ b → b ≤ bits set.spdesc 34 19 + 1 → (bits set.scfg 25 24 = 3 → a % 64 = 0 ∧ b % 64 = 0) →
    exec (.shbnd o) s = .next (finish (setSheaf t e cx
      { set with sk0 := a, sk1 := a, bound := b, sn := 0, snum := 0, done := false, skr := a + a * 2 ^ 17 }) o x)) ∧
  (set.v = true → set.done = false → set.snum ≠ 64 →
    let cur := if o.x.toNat.testBit 23 then { set with sk0 := set.sk1 } else set
    let start : Cut := { k := cur.sk0, bytes := 0, list := [], rows := [] }
    ∀ u cut g, (if bits set.scfg 25 24 = 3 then cutN64 e f cur 1025 t start else cutPlain e f cur 65537 t start) = .ok (u, cut) →
      cutCheck u e cx cur.si (outputBytes cur.spdesc cur.scfg) true = .ok () →
      let done := decide (cut.k = cur.bound)
      let w := cur.sk0 + cut.k * 2 ^ 17 + cut.list.length * 2 ^ 34 + cur.snum * 2 ^ 41 + (if cut.list = [] then 2 ^ 47 else 0)
        + (if cut.k = cur.bound then 2 ^ 48 else 0)
      issueMemSend u e f (o.x.toNat / 2 ^ 24 % 32) { seq := cur.snum, last := done, esheaf := decide (cut.list = []) }
        (BitVec.ofNat 2048 w) = .ok g →
      exec (.shcut o) s = .next (finish
        (setSheaf u e cx { cur with sk1 := cut.k, sn := cut.list.length, snum := cur.snum + 1, done := done, skr := w }) o
        ((Agent.firing e { g with scr := g.scr ++ [.write cur.si (cutOutput cur cut)], nreq := g.nreq + 1 }).setScalar o.d w))) ∧
  (let w := Ty.width o.ty / 8
   let h := 256 / (cRows set.scfg * w)
   set.v = true → set.sqdesc ≠ 0 → Ty.code o.ty = dFmt set.sqdesc → (dForm set.sqdesc = 2 ∨ a + h ≤ 32) →
    ∀ u ks u' vals, indexList e f set.si set.sn 0 t = .ok (u, ks) → (∀ k ∈ ks, k < dK set.sqdesc) →
      partnerRows e f set ks h a u = .ok (u', vals) →
      exec (.shco o) s = .next (finish u' o (x.setVector o.d (vecOfPacked (8 * w) vals))))) ∧
  (∀ (o : Ops) (s u v : State) (e : Nat) (f : Firing) (va vb : Nat),
  Issues s e f → (s.core (coreOf e)).emission = none →
  let x := Agent.firing e f
  let a := src s x o .whole o.a false 0
  let b := src s x o .whole o.b false 0
  let mode := xField o.x 23 22
  let tree := xBit o.x 21
  (mode ≠ 0 → a / 2 ^ 19 % 4096 = b / 2 ^ 19 % 4096) → bitOperand s e f a tree = .ok (u, va) →
  (mode ≠ 0 → bitOperand u e f b tree = .ok (v, vb)) → (mode = 0 → v = u ∧ vb = va) → tsDepth f.frame.ts ≠ 3 →
  sendsToDead v (routeWord s e f.frame.ctx (sendRoute o)) = false →
    let on := fun (i : Nat) => if mode = 1 then va.testBit i && vb.testBit i else va.testBit i || vb.testBit i
    exec (.sphdr o) s = .next (finish (v.setCore (coreOf e) { v.core (coreOf e) with
      emission := some { elem := e, ctx := f.frame.ctx, ent := f.frame.ent, ts := f.frame.ts, route := sendRoute o,
                         word := routeWord s e f.frame.ctx (sendRoute o),
                         cores := routeCores s e f.frame.ctx (sendRoute o) (routeWord s e f.frame.ctx (sendRoute o)),
                         bits := (List.range 4096).filter on, next := 0, live := false, rel := 0, gated := 0,
                         after := f.items.length } }) o
      (.firing e { f with nsend := f.nsend + 1 })))

/-- O26: ISECT marks the coordinates that two streams share (R298), SMERGE merges two streams and sums what they share (R299), NMSEL picks the
values of a mask (R270). That NMSEL checks only the values that it keeps, after the mask, is the model's choice (log 126). -/
def Obligations.StreamsAndMaskedValues : Prop :=
  ((∀ (o : Ops) (s : State) (x : Agent), s.agent = some x →
  let a := blockCoords s x o.a
  let b := blockCoords s x o.b
  blockFault none 0 a = none → blockFault none 0 b = none →
    ∃ v, exec (.isect o) s = .next (finish s o (x.setScalar o.d v)) ∧ v < 2 ^ 64 ∧ ∀ i, i < 32 →
      v.testBit i = (decide (a.getD i 0 ≠ 0xFFFFFFFF) && decide (a.getD i 0 ∈ b)) ∧
      v.testBit (32 + i) = (decide (b.getD i 0 ≠ 0xFFFFFFFF) && decide (b.getD i 0 ∈ a))) ∧
  (∀ (o : Ops) (s : State) (x : Agent), s.agent = some x →
  let a := blockCoords s x o.a
  let b := blockCoords s x o.b
  let value := fun (sp : Spec) (l : List Nat) (c : Nat) => src s x o (.typed o.ty) sp true (32 + l.idxOf c)
  let wanted := fun (c : Nat) => c ≠ 0xFFFFFFFF ∧ (c ∈ a ∨ c ∈ b) ∧
    ((∃ d ∈ a, d ≠ 0xFFFFFFFF) → ∃ d ∈ a, d ≠ 0xFFFFFFFF ∧ c ≤ d) ∧ ((∃ d ∈ b, d ≠ 0xFFFFFFFF) → ∃ d ∈ b, d ≠ 0xFFFFFFFF ∧ c ≤ d)
  blockFault none 0 a = none → blockFault none 0 b = none →
    ∃ u m, exec (.smerge o) s = .next (finish s o (x.setVector o.d (vecOfLanes
        (u ++ List.replicate (32 - u.length) 0xFFFFFFFF ++ m ++ List.replicate (32 - u.length) 0)))) ∧
      u.length ≤ 32 ∧ m.length = u.length ∧ u.Pairwise (· < ·) ∧ (∀ c ∈ u, wanted c) ∧
      (∀ c, wanted c → c ∈ u ∨ (u.length = 32 ∧ ∀ d ∈ u, d < c)) ∧
      ∀ j, j < u.length → let c := u.getD j 0
        m.getD j 0 = (if c ∈ a ∧ c ∈ b then sumStep o.ty o.m (value o.a a c) (value o.b b c)
          else if c ∈ a then value o.a a c else value o.b b c))) ∧
  (∀ (o : Ops) (s : State) (e : Nat) (f : Firing), s.agent = some (.firing e f) →
  let x := Agent.firing e f
  let w := Ty.width o.ty
  let b := src s x o .whole o.b false 0
  let n := (List.range 64).countP fun i => b.testBit i
  let pos := o.x.toNat % 8
  let vals := payloadValues s x o
  let keep := (List.range 64).filter fun i => b.testBit i
  let out := (List.range (vals.length / 64)).flatMap fun r => keep.map fun m => vals.getD (64 * r + m) 0
  (n = 8 ∨ n = 16 ∨ n = 32) → pos * 4 * n + 4 * n ≤ 256 → out.find? (containerBad (.bits o.ty)) = none →
    ∃ v : Vec, exec (.nmsel o) s = .next (finish s o (x.setVector o.d v)) ∧ ∀ i, i < 2048 → v.toNat.testBit i =
      if pos * 32 * n ≤ i ∧ i < pos * 32 * n + 32 * n then (packNum w out).testBit (i - pos * 32 * n)
      else (vectorRaw s x o.d).toNat.testBit i)/-! ## Engines, musters and remote memory -/

/-- O27: the engine, muster, remote and ownership instructions of a firing buffer one request with their operands (R401 to R404, R437, R438,
R442, R446, R463); a remote access that names a muster faults with BADTARGET, where it is no RST, one to a device out of reach with DEADPEER (R429, R437), and an RST of a
malformed aif13 container with AIFRANGE (R72). That BADTARGET comes before the range and the peer is log 67, and so is that COLL
checks no range at issue; that AIFRANGE comes first is log 55. -/
def Obligations.FiringFabricInstructions : Prop := ∀ (o : Ops) (s : State) (e : Nat) (f : Firing), Issues s e f →
  let x := Agent.firing e f
  let ctx := f.frame.ctx
  let a := src s x o .whole o.a false 0
  let b := src s x o .whole o.b false 0
  let c := src s x o .whole (thirdSpec o) false 0
  let reply := o.x.toNat / 2 ^ 18 % 32
  (∀ i ∈ [(Instr.copy o, ReqKind.copy), (.istrm o, .istrm)],
    let r := { engineReq s x o (newReq s e f i.2 reply) with ranges := ctxRanges s e ctx }
    engineDescBad r = false → issueChecks s e ctx (engineParts r) = none →
      BuffersRequest i.1 o s e f fun q => q.kind = i.2 ∧ q.ea = a ∧ q.aux = word b ∧ q.cmp = word c ∧ q.route = reply) ∧
  BuffersRequest (.tlwait o) o s e f (fun q => q.kind = .tlwait ∧ q.aux = word a ∧ q.data = BitVec.ofNat 2048 b ∧ q.route = reply) ∧
  BuffersRequest (.tlrd o) o s e f (fun q => q.kind = .tlrd ∧ q.aux = word a ∧ q.op = o.x.toNat % 4 ∧ q.route = reply) ∧
  (let rt := routeWord s e ctx (o.x.toNat / 2 ^ 13 % 32)
   collDescBad (word c) = false → deadPeer s (routeDev s rt) = false →
    BuffersRequest (.coll o) o s e f fun q => q.kind = .coll ∧ q.ea = a ∧ q.aux = word b ∧ q.cmp = word c ∧ q.ty = o.ty ∧ q.m = o.m ∧
      q.dev = routeDev s rt ∧ q.size = bits rt 16 9 ∧ q.route = reply) ∧
  (let rt := routeWord s e ctx (o.x.toNat / 2 ^ 24 % 32)
   deadPeer s (routeDev s rt) = false → ∀ i ∈ [(Instr.join o, ReqKind.join), (.leave o, .leave)],
    BuffersRequest i.1 o s e f fun q => q.kind = i.2 ∧ q.op = bits rt 16 9 ∧ q.dev = routeDev s rt ∧
      q.aux = word (locOf s.devId (coreOf e) (e % 4) ctx (o.x.toNat / 2 ^ 20 % 8) * 4 + o.x.toNat / 2 ^ 18 % 4) ∧
      q.cmp = word (ctxImage s e ctx) ∧ q.route = o.x.toNat / 2 ^ 13 % 32) ∧
  (let dev := if b % 4096 = 0xFFF then s.devId else b % 4096
   let ea := wrapInt 64 (a + signed 15 (o.x.toNat % 2 ^ 15))
   let n := sizeBytes (o.x.toNat / 2 ^ 15 % 8)
   (permitted s e ctx 3 ea n true false → targetMuster (word b) = false →
      (deadPeer s dev = false →
        BuffersRequest (.rld o) o s e f fun q => q.kind = .rld ∧ q.ea = ea ∧ q.size = n ∧ q.dev = dev ∧ q.route = reply) ∧
      (deadPeer s dev = true → exec (.rld o) s = .next (raise s Cause.deadpeer (word dev)))) ∧
    (containerBad (.bits o.ty) (low (Ty.width o.ty) (low (8 * n) c)) = false → permitted s e ctx 3 ea n false true →
      (deadPeer s dev = false →
        BuffersRequest (.rst o) o s e f fun q => q.kind = .rst ∧ q.ea = ea ∧ q.size = n ∧ q.dev = dev ∧ q.aux = word b ∧ q.route = reply ∧
          q.data = BitVec.ofNat 2048 (low (8 * n) c)) ∧
      (deadPeer s dev = true → exec (.rst o) s = .next (raise s Cause.deadpeer (word dev))))) ∧
  (let dev := if b % 4096 = 0xFFF then s.devId else b % 4096
   targetMuster (word b) = false → deadPeer s dev = false → permitted s e ctx 3 a (sizeBytes (xField o.x 5 3)) true true →
    BuffersRequest (.ratom o) o s e f fun q => q.kind = .ratom ∧ q.ea = a ∧ q.dev = dev ∧ q.op = o.x.toNat / 2 ^ 14 % 16 ∧ q.ty = o.ty ∧
      q.data = BitVec.ofNat 2048 (if Ty.isFloat o.ty then src s x o (.typed o.ty) (thirdSpec o) false 0 else c) ∧ q.route = reply) ∧
  (permitted s e ctx 3 a 1 true false → (fabricGlobal a = true → deadPeer s (homeDevice s (pageOfVa a)) = false) →
    BuffersRequest (.ownq o) o s e f fun q => q.kind = .ownq ∧ q.ea = a ∧ q.route = reply) ∧
  (let d := low (Ty.width o.ty) (low (8 * sizeBytes (o.x.toNat / 2 ^ 15 % 8)) c)
   containerBad (.bits o.ty) d = true → exec (.rst o) s = .next (raise s Cause.aifrange (word d))) ∧
  (targetMuster (word b) = true → exec (.rld o) s = .next (raise s Cause.badtarget (word b)) ∧
    exec (.ratom o) s = .next (raise s Cause.badtarget (word b))) ∧
  (let dev := if b % 4096 = 0xFFF then s.devId else b % 4096
   targetMuster (word b) = false → deadPeer s dev = true → permitted s e ctx 3 a (sizeBytes (xField o.x 5 3)) true true →
    exec (.ratom o) s = .next (raise s Cause.deadpeer (word dev)))

/-- O28: the engine, remote and ownership instructions of steward-mode cores: answered at once where the operation is done, else the core
waits; MIGR, OWNINV and SGNRCL belong to the reeve and trap with PRIV elsewhere (R337, R398 to R404, R438, R463, R464). That an access of the
core's own device is performed from the die of the core is log 72, the RESULTs of MIGR and SGNRCL rest on log 17, that a CLOSED
entry which OWNINV drops stays CLOSED until the home answers on log 131, and that an RST's container
is checked first is log 55. The word of OWNQ has its fields where R465 has them, against the words that R468 states: the model's choice (log
115). A remote access that names a muster traps with BADTARGET (R440), one to a device out of reach with DEADPEER (R429). -/
def Obligations.StewardFabricInstructions : Prop := ∀ (o : Ops) (s : State) (n : Nat) (st : Stew), s.agent = some (.stew n st) →
  let x := Agent.stew n st
  let a := src s x o .whole o.a false 0
  let b := src s x o .whole o.b false 0
  let waits := fun (t : State) (r : Req) => t.setStew n { t.stew n with waiting := some (.request r, Spec.code o.d) }
  (∀ i ∈ [(Instr.copy o, ReqKind.copy), (.istrm o, .istrm)],
    let r := engineReq s x o (stewReq n i.2)
    engineDescBad r = false →
    (∀ p ∈ engineParts r, (∃ u, stewAddr s n st p.space p.ea = .ok u) ∧ (∃ u, stewAddr s n st p.space (p.ea + p.len - 1) = .ok u) ∧
      (p.space = 1 → ∀ a ∈ coreSteps p.ea p.len, ∃ u, stewAddr s n st 1 a = .ok u) ∧
      p.ea % p.align = 0) →
    (∀ t v u, acceptOp s r = (t, .done v u) →
      exec i.1 s = .next (finish t o ((Agent.stew n (t.stew n)).setScalar o.d (v.toNat % 2 ^ 64)))) ∧
    (∀ t, acceptOp s r = (t, .taken) → exec i.1 s = .next (waits t r))) ∧
  (let r := { stewReq n .tlwait with aux := word a, data := BitVec.ofNat 2048 b }
   (∀ t v u, waitOp s r = (t, .done v u) →
      exec (.tlwait o) s = .next (finish t o ((Agent.stew n (t.stew n)).setScalar o.d (v.toNat % 2 ^ 64)))) ∧
   (∀ t, waitOp s r = (t, .taken) → exec (.tlwait o) s = .next (waits t r))) ∧
  (engineRefuses s { stewReq n .tlrd with aux := word a, op := xField o.x 1 0 } (handleOf (word a)) = false →
    bothReach s (stewDie n) (handleDie (handleOf (word a))) = true →
    let g := s.engine (handleOf (word a))
    let v := if o.x.toNat % 4 = 0 then g.etl else if o.x.toNat % 4 = 1 then g.faillo else g.nextOp
    v < 2 ^ 64 → exec (.tlrd o) s = .next (finish s o (x.setScalar o.d v))) ∧
  (fabricGlobal a = false → exec (.ownq o) s = .next (finish s o (x.setScalar o.d (3 * 2 ^ 38)))) ∧
  (fabricGlobal a = true → homesPage s (pageOfVa a) = true →
    let p := pageEntry s (pageOfVa a)
    exec (.ownq o) s = .next (finish s o (x.setScalar o.d (p.owner * 2 ^ 52 + homeDevice s (pageOfVa a) * 2 ^ 40
      + (match p.state with | .owned => 0 | .queued => 1 | .moving => 2) * 2 ^ 38 + p.cdev * 2 ^ 16 + p.cnt)))) ∧
  (n ≠ 20 → exec (.migr o) s = .next (raise s Cause.priv (encodeFields 0xD8 o)) ∧
    exec (.owninv o) s = .next (raise s Cause.priv (encodeFields 0xDA o)) ∧
    exec (.sgnrcl o) s = .next (raise s Cause.priv (encodeFields 0xDB o))) ∧
  (n = 20 →
    let kept := fun (y : OwnerEntry) =>
      if !(o.x.toNat.testBit 0 || y.page == pageOfVa a) then some y else if y.closed then some { y with awaits := true } else none
    let drop := fun (t : State) (d : Nat) => t.setDie d { t.die d with owner := (t.die d).owner.filterMap kept }
    let t := drop (drop (drop (drop s 0) 1) 2) 3
    exec (.owninv o) s = .next (finish t o x) ∧
    (fabricGlobal a = false → exec (.migr o) s = .next (finish s o (x.setScalar o.d 6)) ∧
      exec (.sgnrcl o) s = .next (finish s o (x.setScalar o.d 6))) ∧
    (fabricGlobal a = true → homesPage s (pageOfVa a) = true → ∀ t,
      (∀ k, homeMigr s (pageOfVa a) (deviceNamed s (b % 4096)) (b / 2 ^ 12 % 256) = some (t, some k) →
        exec (.migr o) s = .next (finish t o ((Agent.stew 20 (t.stew 20)).setScalar o.d (moveResult (pageEntry t (pageOfVa a)).owner k)))) ∧
      (∀ k, homeReclaim s (pageOfVa a) = some (t, some k) →
        exec (.sgnrcl o) s = .next (finish t o ((Agent.stew 20 (t.stew 20)).setScalar o.d (moveResult (pageEntry t (pageOfVa a)).owner k)))) ∧
      (homeMigr s (pageOfVa a) (deviceNamed s (b % 4096)) (b / 2 ^ 12 % 256) = some (t, none) →
        ∃ r : Req, r.op = 1 ∧ r.ea = a ∧ exec (.migr o) s = .next (waits t r)) ∧
      (homeReclaim s (pageOfVa a) = some (t, none) → ∃ r : Req, r.op = 2 ∧ r.ea = a ∧ exec (.sgnrcl o) s = .next (waits t r)))) ∧
  (∀ i ∈ [(Instr.rld o, remoteReq s x o (stewReq n .rld)), (.rst o, remoteReq s x o (stewReq n .rst)),
      (.ratom o, remoteAtomReq s x o (stewReq n .ratom))],
    (i.2.kind = .rst → containerBad (.bits o.ty) (low (Ty.width o.ty) i.2.data.toNat) = false) →
    (targetMuster (word b) = true → exec i.1 s = .next (raise s Cause.badtarget (word b))) ∧
    (targetMuster (word b) = false → i.2.ea < 2 ^ 56 → i.2.ea % i.2.size = 0 → deadPeer s i.2.dev = true →
      exec i.1 s = .next (raise s Cause.deadpeer (word i.2.dev))) ∧
    (targetMuster (word b) = false → i.2.ea < 2 ^ 56 → i.2.ea % i.2.size = 0 → deadPeer s i.2.dev = false →
      (i.2.dev = s.devId → ∀ t v, remoteAt s (.stew n) (stewDie n) 0 i.2 = (t, .ok (some v)) →
        exec i.1 s = .next (finish t o ((Agent.stew n (t.stew n)).setScalar o.d v))) ∧
      (i.2.dev ≠ s.devId → exec i.1 s = .next
        (sendAway (s.setStew n { st with waiting := some (.request i.2, Spec.code o.d) }) i.2))))
/-! ## Control of steward-mode cores -/

/-- O29: the branches of R345: PC moves X words where the test of the 64-bit values of A and B holds, else to the next word, and nothing
else changes. -/
def Obligations.BranchesMoveThePc : Prop := ∀ (o : Ops) (s : State) (n : Nat) (st : Stew), s.agent = some (.stew n st) →
  let a : W64 := word (src s (.stew n st) o .whole o.a false 0)
  let b : W64 := word (src s (.stew n st) o .whole o.b false 0)
  let target : W64 := st.pc + o.x.signExtend 64 <<< 3
  let goes := fun (i : Instr) (taken : Prop) =>
    (taken → exec i s = .next (s.setStew n { st with pc := target })) ∧
    (¬taken → exec i s = .next (s.setStew n { st with pc := st.pc + 8 }))
  goes (.br o) True ∧ goes (.bz o) (a = 0) ∧ goes (.bnz o) (a ≠ 0) ∧ goes (.beq o) (a = b) ∧ goes (.bne o) (a ≠ b) ∧
    goes (.blt o) (a.toInt < b.toInt) ∧ goes (.bge o) (b.toInt ≤ a.toInt) ∧ goes (.bltu o) (a.toNat < b.toNat) ∧
    goes (.bgeu o) (b.toNat ≤ a.toNat)

/-- O30: CALL, RET and JMPR put the address of the next word into D and go to their target; a computed target that is not 8-aligned traps with
MISALIGN and leaves PC (R346). -/
def Obligations.CallsAndJumps : Prop := ∀ (o : Ops) (s : State) (n : Nat) (st : Stew), s.agent = some (.stew n st) →
  let a : W64 := word (src s (.stew n st) o .whole o.a false 0)
  let off : W64 := o.x.signExtend 64 <<< 3
  let goTo := fun (t : W64) => s.setStew n (match o.d with
    | .g i => { st with pc := t, g := setAt st.g i.val (st.pc + 8) }
    | _ => { st with pc := t })
  exec (.call o) s = .next (goTo (st.pc + off)) ∧
  (a.toNat % 8 = 0 → exec (.ret o) s = .next (goTo a)) ∧ (a.toNat % 8 ≠ 0 → exec (.ret o) s = .next (raise s Cause.misalign a)) ∧
  ((a + off).toNat % 8 = 0 → exec (.jmpr o) s = .next (goTo (a + off))) ∧
  ((a + off).toNat % 8 ≠ 0 → exec (.jmpr o) s = .next (raise s Cause.misalign (a + off)))

/-- O31: WAITT and SWAIT complete at once where what they wait for has come, else the core stalls, and STEWARD_WAIT_END completes them
when it comes (R347). That a die service core and the reeve wait for the events and by the cycle count of cluster 0 of their die is the model's
reading (log 26). -/
def Obligations.WaitsStallUntilTheirEvent : Prop := ∀ (o : Ops) (s : State) (n : Nat) (st : Stew), s.agent = some (.stew n st) →
  let a := src s (.stew n st) o .whole o.a false 0
  let b := src s (.stew n st) o .whole o.b false 0
  let now := cycleOf s (stewCluster n)
  let met := eventBits s n &&& (a % 2 ^ 8)
  let stall := fun (w : Wait) => s.setStew n { st with waiting := some (w, Spec.code o.d) }
  let deadline := if o.b = .zero then none else some b
  (a ≤ now → exec (.waitt o) s = .next (finish s o ((Agent.stew n st).setScalar o.d now))) ∧
  (now < a → exec (.waitt o) s = .next (stall (.cycle a))) ∧
  (met ≠ 0 ∨ (o.b ≠ .zero ∧ b ≤ now) → exec (.swait o) s = .next (finish s o ((Agent.stew n st).setScalar o.d met))) ∧
  (met = 0 → (o.b = .zero ∨ now < b) → exec (.swait o) s = .next (stall (.event (a % 2 ^ 8) deadline))) ∧
  (∀ (w : Wait) (d v : Nat), s.event.unit = n → (s.stew n).waiting = some (w, d) → waitEnds s n w = some v →
    ∃ t, exec .stewardWaitEnd s = .next t ∧
      t = ((Agent.stew n { s.stew n with waiting := none, pc := (s.stew n).pc + 8 }).setScalar (Spec.ofCode d) v).store s) ∧
  (∀ (w : Wait) (d : Nat), s.event.unit = n → (s.stew n).waiting = some (w, d) → waitEnds s n w = none →
    exec .stewardWaitEnd s = .next s)

/-- O32: INJ counts a token for its destination's location and puts it on the control plane; a route or timestamp that it refuses traps
with INJREF (R348, R349). That the token keeps absent coordinates at zero is the model's reading (log 145). -/
def Obligations.InjSendsOneCountedToken : Prop := ∀ (o : Ops) (s : State) (n : Nat) (st : Stew), s.agent = some (.stew n st) →
  let x := Agent.stew n st
  let rw : W64 := word (src s x o .whole o.a false 0)
  let ts : W64 := word (src s x o .whole o.b false 0)
  let tok := routeToken s rw (tsTo ts 0) { last := xBit o.x 16, scaled := xBit o.x 14, eos := xBit o.x 15, seq := xField o.x 22 17 }
    (BitVec.ofNat 2048 (src s x o .whole (thirdSpec o) false 0)) 0
  let cl := clusterOf (routeCore rw)
  (injectRefused s n rw ts = true → exec (.inj o) s = .next (raise s Cause.injref rw)) ∧
  (injectRefused s n rw ts = false → unitRoom s cl [tokStamp tok] = true →
    let c := countToken s cl (tokLoc tok) tok
    exec (.inj o) s = .next (finish (launch c.1 c.2 (some (injMark + 4 * n, ofBool (xBit o.x 13))) 2) o x)) ∧
  (tsDepth ts ≠ 0 ∨ routeKind rw ≠ 1 ∨ routeNet rw ≠ 2 → exec (.inj o) s = .next (raise s Cause.injref rw))

/-! ## Exceptions -/

/-- O33: a precise trap of a steward-mode core saves PC in EPC, writes ETRAP0 and ETRAP3, sets TD and goes to TVEC, before any effect of the
word (R338); STEWARD_TRAP takes the trap that a fetch ends in: IFETCH at an address that cannot be fetched, ILLOP with the sub-cause of the
decoder for an ill-formed word (R51, R335). That a hole of the physical space cannot be fetched is the model's reading (log 47). -/
def Obligations.PreciseTrapEntry : Prop :=
  (∀ (s : State) (n cause sub : Nat) (detail pc : W64),
  n < s.stewards.length → (s.stew n).td = false → cause < 256 → sub < 16 →
  let t := stewTrap s n cause sub detail pc
  let u := t.stew n
  u.epc = pc ∧ u.etrap3 = detail ∧ u.td = true ∧ u.pc = (s.stew n).tvec ∧ bits u.etrap0 63 56 = cause ∧ bits u.etrap0 55 52 = sub ∧
    bitOf u.etrap0 46 = true ∧ u.g = (s.stew n).g ∧ u.tvec = (s.stew n).tvec ∧ u.waiting = none ∧ u.halted = (s.stew n).halted ∧
    t = s.setStew n u) ∧
  (∀ (s : State) (n : Nat), s.event.unit = n → (s.stew n).halted = false → (s.stew n).waiting = none →
  (fetchHolds s n = false → fetchWord s n = none →
    exec .stewardTrap s = .next (stewTrap s n Cause.ifetch 0 (s.stew n).pc (s.stew n).pc)) ∧
  (∀ w t c, fetchHolds s n = false → fetchWord s n = some (w, t) → decode .steward w = .error c →
    exec .stewardTrap s = .next (stewTrap t n Cause.illop (subCode c) w (s.stew n).pc)) ∧
  (Tab.get none (s.stew n).icache (s.stew n).pc.toNat = none → (s.stew n).pc.toNat + 8 ≤ 2 ^ 39 → s.soft = [] →
    (∀ d k, ((s.die d).line k).poison = 0) → (∀ c k, ((s.core c).line k).poison = 0) →
    ∃ t, fetchWord s n = some (word (s.readNum (s.stew n).pc.toNat 8), t) ∧ t.mem = s.mem) ∧
  (Tab.get none (s.stew n).icache (s.stew n).pc.toNat = none → 2 ^ 39 < (s.stew n).pc.toNat + 8 → (s.stew n).pc.toNat < 0xF000000000000 →
    fetchWord s n = none))

/-- O34: a trap while TD = 1 halts the core and sends a fatal record DBLTRAP whose DETAIL is the address of the word (R338): a steward's to its
cluster's fatal places, a die service core's and the reeve's to the reeve (R342). A fatal record enters a free fatal place, and a notice goes to
the reeve: the whole record where none is free. That the notice of a DBLTRAP is the whole record even where a place is free is the model's
reading (log 78). -/
def Obligations.SecondTrapsAndFatalRecords : Prop :=
  (∀ (s : State) (n cause sub : Nat) (detail pc : W64),
  n < 21 → s.stewards.length = 21 → s.clusters.length = 16 → (s.stew n).td = true →
  let t := stewTrap s n cause sub detail pc
  (t.stew n).halted = true ∧ (t.stew n).pc = (s.stew n).pc ∧ (t.stew n).epc = pc ∧
    ∃ r : TrapRec, (n < 16 → (t.cluster n).fatalOut = (s.cluster n).fatalOut ++ [r] ∧ t.pkg = s.pkg) ∧
      (16 ≤ n → t.pkg.fatal = s.pkg.fatal ++ [r] ∧ t.clusters = s.clusters) ∧ bits r.w0 63 56 = Cause.dbltrap ∧ r.w3 = pc ∧
      t.mem = s.mem ∧ t.elems = s.elems ∧ t.cores = s.cores) ∧
  (∀ (s : State) (cl : Nat) (r : TrapRec) (rest : List TrapRec),
  cl < s.clusters.length → s.event.unit = cl → (s.cluster cl).fatalOut = r :: rest →
    ∃ t notice, exec .fatalNotice s = .next t ∧ t.pkg.fatal = s.pkg.fatal ++ [notice] ∧ (t.cluster cl).fatalOut = rest ∧
      ((s.cluster cl).tf.length < 2 → (t.cluster cl).tf = (s.cluster cl).tf ++ [r] ∧ bits notice.w0 63 56 = bits r.w0 63 56) ∧
      (2 ≤ (s.cluster cl).tf.length → (t.cluster cl).tf = (s.cluster cl).tf ∧ notice = r) ∧
      (bits r.w0 63 56 = Cause.dbltrap → notice = r) ∧ t.mem = s.mem ∧ t.stewards = s.stewards)

/-- O35: TRAP takes TRAPINS with A as its DETAIL in both modes; ERET returns to EPC with TD = 0, and traps with NOTRAP outside a handler
(R350). -/
def Obligations.TrapAndReturn : Prop := ∀ (o : Ops) (s : State) (x : Agent), s.agent = some x →
  exec (.trap o) s = .next (raise s Cause.trapins (word (src s x o .whole o.a false 0))) ∧
  ∀ n st, x = .stew n st →
    (st.td = true → exec (.eret o) s = .next (s.setStew n { st with td := false, pc := st.epc })) ∧
    (st.td = false → exec (.eret o) s = .next (raise s Cause.notrap st.pc))

/-- O36: the fault of a firing: its issued instructions leave no effect, the claims that it holds are undone, and its frame is withdrawn into a
free fault record of the lay-by with a trap record of the cause (R105, R107 to R109); where no record is free, or others of its region wait
for one, it waits in PARKWAIT with its cause and DETAIL (R110). -/
def Obligations.FaultParksTheFiring : Prop := ∀ (s : State) (e k : Nat) (f : Firing) (cause : Nat) (detail : W64),
  (s.elem e).firing = some f →
  let u := (undoUnits s e).setElem e { (undoUnits s e).elem e with firing := none }
  let im := ctxImage u e f.frame.ctx
  let w0 := elemWord0 u cause f.slot false false e f.frame.ctx f.frame.ent
  let fr := { f.frame with ns := f.nsend, nr := f.nreq }
  (s.actor = .element e → raise s cause detail = parkFiring s e cause detail) ∧
  (parkwaits u e im = [] → freeRecord u im e 64 64 = some k →
    let v := writeRecord u im e k w0 fr false
    let record : TrapRec := { w0 := w0, w1 := f.frame.ts, w2 := laybyVa v im e k, w3 := detail }
    let w := watchConsumed (v.setElem e { v.elem e with traps := (v.elem e).traps ++ [{ ctx := f.frame.ctx, record := record }] })
      f.frame.tokens
    parkFiring s e cause detail =
      breakpoints (trace w 2 (bits w0 63 56) (bits w0 51 47) e fr record.w2) e fr (bits w0 51 47) (!bitOf w0 46) true) ∧
  (parkwaits u e im ≠ [] ∨ freeRecord u im e 64 64 = none →
    parkFiring s e cause detail =
      { u.setElem e { u.elem e with frames := (u.elem e).frames ++
          [{ fr with state := .parkwait, order := u.fresh, trap0 := w0, trap3 := detail, poison := false }] } with fresh := u.fresh + 1 })


/-! ## Special registers -/

/-- O37: what MFS reads, in a firing (R113) and in a steward-mode core (R344, R410, R417): the register's value, PRIV for a register of the
reeve elsewhere, BADSPR or SPRNUM for a number that names none. That a die service core and the
reeve read these of cluster 0 of their die is the model's reading (log 26). -/
def Obligations.MfsReadsSpecialRegisters : Prop := ∀ (o : Ops) (s : State) (x : Agent), s.agent = some x →
  let num := o.x.toNat % 2 ^ 12
  let reads := fun (k v : Nat) => num = k → exec (.mfs o) s = .next (finish s o (x.setScalar o.d v))
  (∀ e f, x = .firing e f → reads 0x010 (fself s e f) ∧ reads 0x011 (fflags s e f) ∧
    (num ≠ 0x010 → num ≠ 0x011 → exec (.mfs o) s = .next (raise s Cause.badspr (word num)))) ∧
  (∀ n st, x = .stew n st → n < 21 →
    let c := s.cluster (stewCluster n)
    reads 0x001 ((if st.td then 1 else 0) + eventBits s n * 2 ^ 8) ∧ reads 0x002 st.epc.toNat ∧ reads 0x003 st.etrap0.toNat ∧
    reads 0x004 st.etrap3.toNat ∧ reads 0x005 st.tvec.toNat ∧ reads 0x006 st.scratch.toNat ∧ reads 0x008 st.csel.toNat ∧
    reads 0x009 (cycleOf s (stewCluster n) % 2 ^ 64) ∧ reads 0x010 (sself s n).toNat ∧ reads 0x013 (tqstat s n) ∧
    reads 0x040 s.pkg.bootvec.toNat ∧ reads 0x048 s.pkg.pkgrst.toNat ∧ reads 0x058 s.pkg.govstat.toNat ∧
    reads 0x121 c.hedgecnt.toNat ∧ reads 0x130 c.obctl.toNat ∧ reads 0x134 c.hspill.toNat ∧
    (isFused s (cselCore n st) = false → reads 0x100 (corestat s (cselCore n st)) ∧ reads 0x102 (ecccnt (s.core (cselCore n st))) ∧
      reads 0x110 (astat s (cselCore n st)) ∧ reads 0x111 (acfg s (cselCore n st))) ∧
    (n = 20 → reads 0x042 s.pkg.rinsrc.toNat ∧ reads 0x043 s.pkg.rmsel.toNat ∧
      reads 0x063 (s.pkg.policy.length * 2 ^ 16 + s.pkg.polOvf)) ∧
    (n ≠ 20 → (num = 0x042 ∨ num = 0x043 ∨ num = 0x050 ∨ num = 0x060) →
      exec (.mfs o) s = .next (raise s Cause.priv (encodeFields 0xF2 o))) ∧
    (num = 0x007 ∨ num = 0x0FF ∨ num = 0x200 → exec (.mfs o) s = .next (raise s Cause.sprnum (word num))))

/-- O38: what MTS writes: EPC, TVEC, SSCRATCH, CSEL, BOOTVEC, BPT and CHSEL with their zero bits, TQPOP, and the traps PRIV and SPRNUM (R341, R344,
R351, R410). That a die service core and the reeve write these of cluster 0 of their die is the model's reading (log 26). -/
def Obligations.MtsWritesSpecialRegisters : Prop := ∀ (o : Ops) (s : State) (n : Nat) (st : Stew),
  s.agent = some (.stew n st) → n < s.stewards.length → stewCluster n < s.clusters.length →
  let v : W64 := word (src s (.stew n st) o .whole o.a false 0)
  let num := o.x.toNat % 2 ^ 12
  let core := cselCore n st
  let done := fun (t : State) => exec (.mts o) s = .next (finish t o (.stew n (t.stew n)))
  let trap := fun (c : Nat) (d : W64) => exec (.mts o) s = .next (raise s c d)
  (num = 0x002 → done (s.setStew n { st with epc := v &&& ~~~7#64 })) ∧
  (num = 0x005 → done (s.setStew n { st with tvec := v &&& ~~~7#64 })) ∧
  (num = 0x006 → done (s.setStew n { st with scratch := v })) ∧
  (num = 0x008 → done (s.setStew n { st with csel := v &&& 0xFFF#64 })) ∧
  (num = 0x018 → done (tqpop s n v)) ∧
  (num = 0x018 → n < 16 → v = 1 →
    ∃ t, exec (.mts o) s = .next t ∧ (t.cluster n).tq = (s.cluster n).tq.drop 1 ∧ (t.cluster n).tf = (s.cluster n).tf) ∧
  (num = 0x018 → n < 16 → v = 2 →
    ∃ t, exec (.mts o) s = .next t ∧ (t.cluster n).tf = (s.cluster n).tf.drop 1 ∧ (t.cluster n).tq = (s.cluster n).tq) ∧
  (num = 0x040 → n = 20 → done { s with pkg := { s.pkg with bootvec := v &&& ~~~7#64 } }) ∧
  (num = 0x040 ∨ num = 0x048 → n ≠ 20 → trap Cause.priv (encodeFields 0xF3 o)) ∧
  (num = 0x048 → n = 20 → (∀ t, pkgrst s v = .ok t → done t) ∧
    ∀ c, pkgrst s v = .error c → trap c.1 c.2) ∧
  (num = 0x101 → isFused s core = false → done (s.setCore core { s.core core with ccycleBase := s.clock - v.toNat })) ∧
  (0x138 ≤ num → num < 0x140 → bits v 54 52 = 0 → bits v 23 0 = 0 →
    done (s.setCluster (stewCluster n) { s.cluster (stewCluster n) with bpt := setAt (s.cluster (stewCluster n)).bpt (num - 0x138) v })) ∧
  (num = 0x140 → done (s.setCore core { s.core core with chsel := v.toNat % 32 })) ∧
  (num = 0x010 ∨ num = 0x003 ∨ num = 0x009 ∨ num = 0x200 → trap Cause.sprnum (word num))

/-- O39: the writes and reads of special registers that have rows of their own: SSTAT, ECCCNT, HEDGECNT, MBOX, MBOXOUT, RINBOX, RFPOP, RMSEL,
RMSEND, KSLOT, DBUD, POLPOP, POLSTAT (R221, R328, R344, R410, R413, R417, R457); KSLOT where the home of its record serves it (R421). That
HEDGECNT of a die service core and of the reeve is that of cluster 0 of their die is the model's reading (log 26). -/
def Obligations.RegisterRowsOfTheirOwn : Prop := ∀ (o : Ops) (s : State) (n : Nat) (st : Stew), s.agent = some (.stew n st) →
  let x := Agent.stew n st
  let v : W64 := word (src s x o .whole o.a false 0)
  let core := cselCore n st
  let done := fun (i : Instr) (t : State) => exec i s = .next (finish t o (.stew n (t.stew n)))
  let pkg := fun (i : Instr) (p : Package) => done i { s with pkg := p }
  done (.sstatWrite o) (s.setStew n { st with td := v.getLsbD 0, evLoad := st.evLoad && !v.getLsbD 10,
                                               evDrained := st.evDrained && !v.getLsbD 11 }) ∧
  (isFused s core = false →
    (v = 0 → done (.ecccntClear o) (s.setCore core { s.core core with eccScr := 0, eccL1 := 0, eccObuf := 0 })) ∧
    (v ≠ 0 → done (.ecccntClear o) s)) ∧
  (v = 0 → done (.hedgecntClear o) (s.setCluster (stewCluster n) { s.cluster (stewCluster n) with hedgecnt := 0 })) ∧
  exec (.mboxRead o) s = .next (finish s o ((Agent.stew n { st with mbox := st.mbox.drop 1 }).setScalar o.d (st.mbox.headD 0).toNat)) ∧
  (s.pkg.inbox.length < 64 → pkg (.mboxout o) { s.pkg with inbox := s.pkg.inbox ++ [(v, sself s n)] }) ∧
  (64 ≤ s.pkg.inbox.length → exec (.mboxout o) s = .next s) ∧
  (n = 20 →
    (∀ w r rest, s.pkg.inbox = (w, r) :: rest → exec (.rinboxRead o) s =
      .next (finish { s with pkg := { s.pkg with inbox := rest, rinsrc := r } } o (x.setScalar o.d w.toNat))) ∧
    pkg (.rfpop o) (if v.getLsbD 0 then { s.pkg with fatal := s.pkg.fatal.drop 1 } else s.pkg) ∧
    (v.toNat % 4 < 2 → pkg (.rmselWrite o) { s.pkg with rmsel := v &&& 0x3F#64 }) ∧
    (2 ≤ v.toNat % 4 → exec (.rmselWrite o) s = .next (raise s Cause.sprnum 0x043)) ∧
    (let m := selectedMailbox s.pkg.rmsel
     (s.stew m).mbox.length < 16 → done (.rmsend o) (s.setStew m { s.stew m with mbox := (s.stew m).mbox ++ [v] })) ∧
    (let l := setAt s.pkg.dbud (o.x.toNat % 2 ^ 12 - 0x050) v
     (budgetBad l v = false → pkg (.dbudWrite o) { s.pkg with dbud := l }) ∧
     (budgetBad l v = true → exec (.dbudWrite o) s = .next (raise s Cause.envsum v))) ∧
    pkg (.polpop o) (if v.getLsbD 0 then { s.pkg with policy := s.pkg.policy.drop 1 } else s.pkg) ∧
    pkg (.polstatClear o) (if v = 0 then { s.pkg with polOvf := 0 } else s.pkg) ∧
    (v.toNat < 2 ^ 52 → (inHbm v.toNat 64 = true → homeHolds s v.toNat 64 (die := some (stewDie n)) = false) → ∀ t k, readAt s (.stew 20) none v.toNat 64 v.toNat = (t, .ok k) →
      let slot := k / 2 ^ 456 % 256
      let op := k / 2 ^ 464 % 256
      k < 2 ^ 512 → 2 ≤ slot → slot ≤ 7 → op ≤ 1 → k / 2 ^ 472 = 0 →
        let key := if op = 1 then none else some (k % 2 ^ 456)
        done (.kslot o) { t with dies := t.dies.map fun d => { d with keys := setAt d.keys slot key } })) ∧
  (n ≠ 20 → exec (.rinboxRead o) s = .next (raise s Cause.priv (encodeFields 0xF2 o)) ∧
    ∀ i ∈ [Instr.rfpop o, .rmselWrite o, .rmsend o, .kslot o, .dbudWrite o, .polpop o, .polstatClear o],
      exec i s = .next (raise s Cause.priv (encodeFields 0xF3 o)))

/-! ## Configuration -/

/-- O40: CFGW and CFGR on a well-formed address in the core's reach: a write's status, its wait or its effect, the value that a read gives;
LD and ST in the configuration space do the same; CFGADDR and PRIV for other addresses (R337, R352 to R354). An accepted live write of a
route word holds that word; a staged write changes no live word (R353). That CFGADDR of a malformed address comes before PRIV, and PRIV before
the fused-off core, is the model's reading (log 76). -/
def Obligations.ConfigurationAccess : Prop := ∀ (o : Ops) (s : State) (n : Nat) (st : Stew), s.agent = some (.stew n st) →
  let x := Agent.stew n st
  let q : W64 := word (src s x o .whole o.a false 0)
  let v : W64 := word (src s x o .whole o.b false 0)
  let a := cfgFields q
  let stage := o.x.toNat % 2 = 1
  (cfgMalformed q = true → exec (.cfgw o) s = .next (raise s Cause.cfgaddr q) ∧ exec (.cfgr o) s = .next (raise s Cause.cfgaddr q)) ∧
  (cfgMalformed q = false → cfgForbidden n a = true → exec (.cfgw o) s = .next (raise s Cause.priv (encodeFields 0xF4 o)) ∧
    exec (.cfgr o) s = .next (raise s Cause.priv (encodeFields 0xF5 o))) ∧
  (cfgMalformed q = false → cfgForbidden n a = false → cfgFused s a = false →
    (∀ c sub, cfgWrite s n stage a v = .refused c sub → exec (.cfgw o) s = .next (cfgDone s o n (cfgStatus c sub q))) ∧
    (cfgWrite s n stage a v = .wait → exec (.cfgw o) s = .next s) ∧
    (∀ t, cfgWrite s n stage a v = .ok t → exec (.cfgw o) s = .next (cfgDone t o n 0)) ∧
    exec (.cfgr o) s = .next (cfgDone s o n (cfgRead s a stage)) ∧
    (¬stage → a.cls = 0 → 0x30 ≤ a.off → a.off < 0x40 → routeWordBad v = false → ctxValid s a.elem a.ctx = true →
      (s.elem a.elem).firing = none →
      ∃ t, exec (.cfgw o) s = .next t ∧ (t.core a.pkgCore).ctxWord a.el a.ctx a.off = v ∧ t.mem = s.mem ∧ t.clusters = s.clusters ∧
        ∀ k, k ≠ a.pkgCore → t.core k = s.core k) ∧
    (stage → a.cls = 0 → 0x30 ≤ a.off → a.off < 0x40 → routeWordBad v = false → ctxValid s a.elem a.ctx = false →
      (s.core a.pkgCore).txn = Txn.init →
      ∃ t, exec (.cfgw o) s = .next t ∧ (t.core a.pkgCore).cfg0 = (s.core a.pkgCore).cfg0 ∧
        (t.core a.pkgCore).txn.state = .opened ∧ (t.core a.pkgCore).txn.owner = n ∧ cfgRead t a true = v)) ∧
  (let ea := memEa s x o
   let qa : W64 := word (ea / 8)
   memSpace o = 5 → ea % 8 = 0 → cfgMalformed qa = false → cfgForbidden n (cfgFields qa) = false → cfgFused s (cfgFields qa) = false →
    exec (.ld o) s = .next (cfgDone s o n (cfgRead s (cfgFields qa) false)) ∧
    (∀ t, cfgWrite s n false (cfgFields qa) v = .ok t → exec (.st o) s = .next (finish t o (.stew n (t.stew n)))) ∧
    ∀ c sub, cfgWrite s n false (cfgFields qa) v = .refused c sub → exec (.st o) s = .next (stewTrap s n c sub qa st.pc))

/-- O41: CFGCOM, CFGCOM with SEAL and CFGABT: the status of a transaction that is not there, of another's, and of a failed check; the words of
an open transaction become live together, a seal ends a committed one, an abort drops an open one with no live word changed or undoes a
committed one (R355, R356). That a commit waits where R355 makes its words live only between firings (log 103), and that undoing a committed one
keeps the sheaf sets (log 77), is the model's reading. -/
def Obligations.TransactionsCommitAndAbort : Prop := ∀ (o : Ops) (s : State) (n : Nat) (st : Stew), s.agent = some (.stew n st) →
  let q : W64 := word (src s (.stew n st) o .whole o.a false 0)
  let a := cfgFields (q &&& ~~~cfgPlace)
  let c := a.pkgCore
  let t := (s.core c).txn
  let status := fun (i : Instr) (w : W64) => exec i s = .next (cfgDone s o n w)
  let effect := fun (i : Instr) (u : State) => exec i s = .next (cfgDone u o n 0)
  let whole := cfgMalformed q = false ∧ cfgForbidden n (cfgFields q) = false
  cfgMalformed (q &&& ~~~cfgPlace) = false → cfgForbidden n a = false → cfgFused s a = false → a.cls < 2 →
  (cfgMalformed q = true → exec (.cfgabt o) s = .next (raise s Cause.cfgaddr q)) ∧
  (t.state = .idle → (∀ i ∈ [Instr.cfgcom o, .cfgcomSeal o], status i (cfgStatus Cause.cfgstate 0 0)) ∧
    (whole → status (.cfgabt o) (cfgStatus Cause.cfgstate 0 0))) ∧
  (t.state = .opened → t.owner ≠ n → (∀ i ∈ [Instr.cfgcom o, .cfgcomSeal o], status i (cfgStatus Cause.cfgstate 0 q)) ∧
    (whole → status (.cfgabt o) (cfgStatus Cause.cfgstate 0 q))) ∧
  (t.state = .opened → t.owner = n →
    (∀ w, commitCheck s c = some w → ∀ i ∈ [Instr.cfgcom o, .cfgcomSeal o], status i w) ∧
    (commitCheck s c = none → (∀ u, applyCommit s c = some u → effect (.cfgcom o) u ∧ effect (.cfgcomSeal o) (sealTxn u c)) ∧
      (applyCommit s c = none → ∀ i ∈ [Instr.cfgcom o, .cfgcomSeal o], exec i s = .next s)) ∧
    (whole → ∃ u, exec (.cfgabt o) s = .next u ∧ (u.core c).txn = Txn.init ∧ { u.core c with txn := t } = s.core c ∧ u.mem = s.mem ∧
      u.elems = s.elems)) ∧
  (t.state = .committed → t.owner = n →
    status (.cfgcom o) (cfgStatus Cause.cfgstate 0 0) ∧ effect (.cfgcomSeal o) (sealTxn s c) ∧
    (∃ u, exec (.cfgcomSeal o) s = .next u ∧ (u.core c).txn = Txn.init ∧ (u.core c).heldCtx = [] ∧ (u.core c).cfg0 = (s.core c).cfg0) ∧
    ((t.made.any fun k => otherThanInitial s (c * 4 + k / 8) (k % 8)) = false → whole → effect (.cfgabt o) (abortCommit s c)) ∧
    ((t.made.any fun k => otherThanInitial s (c * 4 + k / 8) (k % 8)) = true → whole → status (.cfgabt o) (cfgStatus Cause.cfgstate 0 q)))

/-- O42: CTXPRI, PARK, UNPARK, RESUME, DRAIN and TLBINV: what each does to a context, a frame, a lay-by record, a port, a region or the
translation units, and the status with which it refuses (R212, R357 to R362). CTXPRI waits for the firing of its context (R104), PARK for that of
its frame, and DRAIN with ABANDON for the requests that are in flight. That a die service core or a reeve drains by the waiting table of cluster 0 of its
die is the model's reading (log 26). That UNPARK places L, R and P at once while the extra token travels is the model's reading (log 80),
and so are BADFIELD before CFGSTATE in CTXPRI (log 85), and that a DRAIN of an entry whose eviction runs begins nothing more (log 130). -/
def Obligations.StewardFrameAndPortInstructions : Prop := ∀ (o : Ops) (s : State) (n : Nat) (st : Stew), s.agent = some (.stew n st) →
  let x := Agent.stew n st
  let va := src s x o .whole o.a false 0
  let q : W64 := word va
  let v : W64 := word (src s x o .whole o.b false 0)
  let a := cfgFields q
  let status := fun (i : Instr) (w : W64) => exec i s = .next (cfgDone s o n w)
  (cfgMalformed q = false → cfgForbidden n a = false → cfgFused s a = false → a.cls = 0 →
    (v.toNat < 16 → ctxValid s a.elem a.ctx = true →
      let fires := (s.elem a.elem).firing.any fun f => f.frame.ctx == a.ctx
      (fires = true → exec (.ctxpri o) s = .next s) ∧
      (fires = false → exec (.ctxpri o) s = .next (cfgDone (s.setCore a.pkgCore
        ((s.core a.pkgCore).setCtxWord a.el a.ctx 0 (setBits (ctxWord s a.elem a.ctx) 62 59 v.toNat))) o n 0))) ∧
    (16 ≤ v.toNat → status (.ctxpri o) (cfgStatus Cause.badfield 0 q)) ∧
    (v.toNat < 16 → ctxValid s a.elem a.ctx = false → status (.ctxpri o) (cfgStatus Cause.cfgstate 0 q)) ∧
    (a.off < 8 → ((s.elem a.elem).firing.any fun f => f.frame.hasTag a.ctx a.off v) = true → exec (.park o) s = .next s) ∧
    (a.off < 8 → ((s.elem a.elem).firing.any fun f => f.frame.hasTag a.ctx a.off v) = false →
      let stored := (s.elem a.elem).frames.find? fun f => (f.state == .filling || f.state == .complete) && f.hasTag a.ctx a.off v
      (stored = none → status (.park o) 0) ∧
      (parkwaits s a.elem (ctxImage s a.elem a.ctx) ≠ [] ∨ freeRecord s (ctxImage s a.elem a.ctx) a.elem 64 64 = none → status (.park o) 0) ∧
      (∀ f k, stored = some f → parkwaits s a.elem (ctxImage s a.elem a.ctx) = [] →
        freeRecord s (ctxImage s a.elem a.ctx) a.elem 64 64 = some k →
        let im := ctxImage s a.elem a.ctx
        let w0 := withdrawn0 s Cause.parked a.elem f
        let u := writeRecord (takeFrame s a.elem f) im a.elem k w0 f false
        let u := trace (watchConsumed u f.tokens) 3 0 (bits w0 51 47) a.elem f (laybyVa u im a.elem k)
        exec (.park o) s = .next (cfgDone u o n (laybyVa u im a.elem k))))) ∧
  (findRecord s n q = none → ∀ i ∈ [Instr.unparkReplay o, .unparkDrop o, .unparkFrame o], status i (cfgStatus Cause.unparkref 0 1)) ∧
  (∀ im k pa, findRecord s n q = some (im, k, pa) →
    let p := readRecord s im pa
    let back := deliverAll s ([p.l, p.r, p.p].filterMap id)
    let done := fun (i : Instr) (kind : Nat) (t : State) =>
      exec i s = .next (cfgDone (trace (releaseParkwait (freeRecordAt t pa) p.elem im) kind 0 (bits p.w0 51 47) p.elem p.frame q) o n 0)
    (∀ r, unparkReason s k p true = some r → status (.unparkDrop o) (cfgStatus Cause.unparkref 0 (word r))) ∧
    (∀ r, unparkReason s k p false = some r → status (.unparkReplay o) (cfgStatus Cause.unparkref 0 (word r)) ∧
      status (.unparkFrame o) (cfgStatus Cause.unparkref 0 (word r))) ∧
    (unparkReason s k p true = none →
      done (.unparkDrop o) 5 (([p.l, p.r, p.p, p.x].filterMap id).foldl (fun t tok => dropParked t p.elem tok) s)) ∧
    (unparkReason s k p false = none → ∀ t, back = some t →
      (p.x = none → done (.unparkReplay o) 4 t ∧ done (.unparkFrame o) 4 t) ∧
      ∀ tok, p.x = some tok → done (.unparkFrame o) 4 (dropParked t p.elem tok) ∧
        (obufRoom t (coreOf p.elem) (p.elem % 4) p.ctx tok = true →
          done (.unparkReplay o) 4 { t with net := t.net ++ [{ tok := tok, src := none, net := if tokWide tok then 1 else 2 }] }))) ∧
  (cfgMalformed q = false → cfgForbidden n a = false → cfgFused s a = false → a.cls = 1 → a.off < 8 →
    (((s.core a.pkgCore).port a.off).held = false →
      ∀ i ∈ [Instr.resume o, .resumeFail o], status i (cfgStatus Cause.notheld 0 0)) ∧
    (((s.core a.pkgCore).port a.off).held = true →
      exec (.resume o) s = .next (cfgDone (resumePort s a.pkgCore a.off false) o n 0) ∧
      exec (.resumeFail o) s = .next (cfgDone (resumePort s a.pkgCore a.off true) o n 0) ∧
      (a.off < (s.core a.pkgCore).ports.length → ∃ t, exec (.resume o) s = .next t ∧ ((t.core a.pkgCore).port a.off).held = false ∧
        ((t.core a.pkgCore).port a.off).reqs = ((s.core a.pkgCore).port a.off).reqs))) ∧
  (let cl := stewCluster n
   let k := va % 64
   let im := bits (Tab.get 0 (s.cluster cl).wta k) 47 32
   let abandon := o.x.toNat % 2 = 1 ∧ bitOf (Tab.get 0 (s.cluster cl).wta k) 63 = true
   let u := if abandon then abandonPorts s im else s
   let left := (regionCtxs u im).any fun y => requestsLeft u y.1 y.2
   (abandon → left = true → exec (.drain o) s = .next u) ∧
   (¬abandon ∨ left = false →
    (∀ r, drainReason u cl k = some r → exec (.drain o) s = .next (cfgDone u o n (cfgStatus Cause.drainref 0 (word r)))) ∧
    (drainReason u cl k = none → ∃ t, exec (.drain o) s = .next t ∧ (t.home im).hold = true ∧ t.mem = u.mem ∧ t.elems = u.elems ∧
      (cl < u.clusters.length →
        (((u.cluster cl).evicting.any fun y => y.1 == k) = false → (t.cluster cl).evicting =
          (u.cluster cl).evicting ++ [(k, im, ((regionCtxs u im).map fun (e, _) => coreOf e).eraseDups)]) ∧
        (((u.cluster cl).evicting.any fun y => y.1 == k) = true → (t.cluster cl).evicting = (u.cluster cl).evicting))))) ∧
  (let all := decide (o.x.toNat % 2 = 1)
   (o.x.toNat / 2 % 8 ≠ 3 → exec (.tlbinv o) s =
      .next (finish (s.setDie (stewDie n) (invTlb all (va % 2 ^ 56) (s.die (stewDie n)))) o x)) ∧
   (o.x.toNat / 2 % 8 = 3 → n = 20 → exec (.tlbinv o) s = .next (finish { s with dies := s.dies.map (invTlb all (va % 2 ^ 56)) } o x)) ∧
   (o.x.toNat / 2 % 8 = 3 → n ≠ 20 → exec (.tlbinv o) s = .next (raise s Cause.priv (encodeFields 0xFD o))))

/-- O43: the writes of the observation registers, TRDUMP, WALKGO and SIGCHK (R363, R470 to R477). A walk samples one core each core clock and
writes its records; that they are written together at its end is the model's choice (log 30), and so is what HCTL FLUSH waits for (log 29). The
function that SIGCHK checks is log 31, the ring emptied at each write with TEN = 1 log 83, the address bits of TRDUMP and WALKGO that are ignored
log 105, the cluster of a die service core and of the reeve log 26, and the homes that hold a read or a write log 99. -/
def Obligations.ObservationRegistersAndSigchk : Prop := ∀ (o : Ops) (s : State) (n : Nat) (st : Stew),
  s.agent = some (.stew n st) → stewCluster n < s.clusters.length →
  let va := src s (.stew n st) o .whole o.a false 0
  let v : W64 := word va
  let cl := stewCluster n
  let c := s.cluster cl
  let core := cselCore n st
  (isFused s core = false → ∃ t, exec (.obcoreRelease o) s = .next t ∧ t.mem = s.mem ∧
    ∀ i < 4, (t.elem (core * 4 + i)).stopped = ((s.elem (core * 4 + i)).stopped && !v.getLsbD i) ∧
      (t.elem (core * 4 + i)).firing = (s.elem (core * 4 + i)).firing) ∧
  (∃ t, exec (.obctlWrite o) s = .next t ∧ bits (t.cluster cl).obctl 31 0 = bits v 31 0 ∧ bits (t.cluster cl).obctl 61 32 = 0 ∧
    (v.getLsbD 63 = true → otherTraces s cl = false → (t.cluster cl).obctl.getLsbD 63 = true ∧ (t.cluster cl).ring = [] ∧
      (t.cluster cl).trhead = 0 ∧ (t.cluster cl).frozen = false ∧ (t.cluster cl).dumped = false) ∧
    (v.getLsbD 63 = false ∨ otherTraces s cl = true → (t.cluster cl).obctl.getLsbD 63 = false ∧ (t.cluster cl).ring = c.ring)) ∧
  (∃ t, exec (.hspillWrite o) s = .next t ∧ (t.cluster cl).hspill = word (bits v 51 0) ∧ (t.cluster cl).hspillAt = 0 ∧
    (t.cluster cl).spillFull = false ∧ (t.cluster cl).hist = c.hist) ∧
  (v.getLsbD 62 = false → ∃ t, exec (.hctlEnable o) s = .next t ∧ (t.cluster cl).hen = v.getLsbD 63 ∧ (t.cluster cl).hovf = 0 ∧
    (t.cluster cl).hist = c.hist ∧ t.mem = s.mem) ∧
  (∀ t, v.getLsbD 62 = true → (let u := s.setCluster cl { c with hen := v.getLsbD 63, hovf := 0 }
    spillHeld u cl 0 (spillLength (u.cluster cl)) = false) → flushCounts (s.setCluster cl { c with hen := v.getLsbD 63, hovf := 0 }) cl = t →
    exec (.hctlEnable o) s = .next (finish t o (.stew n (t.stew n)))) ∧
  (bits v 51 12 * 4096 + 2 ^ 24 ≤ 2 ^ 39 → homeHolds s (bits v 51 12 * 4096) (2 ^ 24) true (die := some (stewDie n)) = false → ∃ t, writeBlocks n (bits v 51 12 * 4096)
      ((ringOrder c).map fun i => (Tab.get (default : TrapRec) c.ring i).bytes)
      (s.setCluster cl { c with obctl := setBits c.obctl 63 63 0 }) = .ok t ∧
    let u := t.setCluster cl { t.cluster cl with dumped := true }
    exec (.trdump o) s = .next (finish u o (.stew n (u.stew n)))) ∧
  (bits v 51 12 * 4096 + 4096 ≤ 2 ^ 39 →
    let u := s.setCluster cl { c with walk := some { pa := bits v 51 12 * 4096, records := [] }, walked := c.walked && c.walk.isNone }
    exec (.walkgo o) s = .next (finish u o (.stew n (u.stew n)))) ∧
  (∀ w k, c.walk = some w →
    let records := w.records ++ (List.range (min k (128 - w.records.length))).map fun i =>
      walkRecord { s with clock := s.clock + i } (cl * 128 + w.records.length + i)
    (records.length < 128 ∨ homeHolds s w.pa 4096 true (die := some (cl / 4)) = true →
      walkClocks s cl k = s.setCluster cl { c with walk := some { w with records := records } }) ∧
    (w.pa % 4096 = 0 → w.pa + 4096 ≤ 2 ^ 39 → records.length = 128 → homeHolds s w.pa 4096 true (die := some (cl / 4)) = false →
      ∃ t, writeBlocks cl w.pa (records.map TrapRec.bytes) s = .ok t ∧
        walkClocks s cl k = t.setCluster cl { t.cluster cl with walk := none, walked := true })) ∧
  (v ≠ 0 → exec (.channelCountClear o) s = .next (finish s o (.stew n (s.stew n)))) ∧
  (v = 0 → ∃ t, exec (.channelCountClear o) s = .next t ∧
    (o.x.toNat % 2 ^ 12 = 0x141 → channelCount t core 0 (Tab.get 0 (t.core core).chfull (t.core core).chsel) = 0) ∧
    (o.x.toNat % 2 ^ 12 = 0x142 → channelCount t core 1 (Tab.get 0 (t.core core).chempty (t.core core).chsel) = 0) ∧
    (o.x.toNat % 2 ^ 12 = 0x143 → channelCount t core 2 (Tab.get 0 (t.core core).chmove (t.core core).chsel) = 0)) ∧
  (va % 8 ≠ 0 → exec (.sigchk o) s = .next (raise s Cause.misalign v)) ∧
  (va % 8 = 0 → physHolds s n va 32 = true → exec (.sigchk o) s = .next s) ∧
  (va % 8 = 0 → physHolds s n va 32 = false → ∀ t desc, physRead s n va 32 = (t, .ok desc) →
    let w := fun (i : Nat) => numOfBytes ((desc.drop (8 * i)).take 8)
    (2 ^ 32 < w 1 ∨ 8 ≤ w 3 → exec (.sigchk o) s = .next (cfgDone t o n (cfgStatus Cause.sigfail 0 3))) ∧
    (w 1 ≤ 2 ^ 32 → w 3 < 8 → (t.die (stewDie n)).keys.getD (w 3) none = none →
      exec (.sigchk o) s = .next (cfgDone t o n (cfgStatus Cause.sigfail 0 2))) ∧
    (w 1 ≤ 2 ^ 32 → w 3 < 8 → ∀ key, (t.die (stewDie n)).keys.getD (w 3) none = some key →
      physHolds t n (w 0) (w 1) = false → physHolds t n (w 2) 114 = false → ∀ t1 msg t2 sig, physRead t n (w 0) (w 1) = (t1, .ok msg) → physRead t1 n (w 2) 114 = (t2, .ok sig) →
        exec (.sigchk o) s = .next (cfgDone t2 o n
          (if Ed448.verify key (shake256 msg 64) sig then 0 else cfgStatus Cause.sigfail 0 1))))

/-! ## Events of elements and of the units of a core -/

/-- O44: the events of an element: a token that arrives fills its place, strays or doubles an operand (R86 to R88); a chosen frame fires (R93,
R96); a firing that has ended commits (R101); sends and decrements leave (R101, R185, R213); trap records and PARKWAIT frames go on (R108,
R110); a waiting VSEQACC is retried (R165); a free unit is handed over (R198); a hedge drops a token (R327). A WIDEN is counted once its
firing's stores are performed (R190; that sends before it need not wait is log 106). A trap record needs a place (log 95), and the route word and
the branches of one that waits are those of the moment at which it leaves (log 109). -/
def Obligations.ElementEvents : Prop := ∀ (s : State),
  let ev := s.event
  let e := ev.unit
  let x := s.elem e
  let gives := fun (i : Instr) (t : State) => exec i s = .next t
  (∀ f t, ev.kind = 0 → s.net[ev.unit]? = some f → ((s.net.take ev.unit).any fun g => arrivesBefore g f) = false →
    flightDropped s f = none → flightPasses s f = true →
      deliver { s with net := s.net.eraseIdx ev.unit } f.tok f.src = some t → gives .tokenArrival t) ∧
  (∀ (u : State) (t : Token) (src : Option (Nat × Nat)),
    let core := locCore (tokLoc t)
    let el := core * 4 + locEl (tokLoc t)
    let ctx := locCtx (tokLoc t)
    let ent := locEnt (tokLoc t)
    (ctxValid u el ctx = false → deliver u t src = some (unitRecord (recordDec u (clusterOf core) (tokDec t) true) (clusterOf core)
      Cause.straytok t.ts t.h1 core (el % 4) ctx ent)) ∧
    (∀ f, ctxValid u el ctx = true → bitOf (entryWord u el ctx ent) 63 = true → src = none → (f.side (tokSide t)).isSome = true →
      (u.elem el).frames.find? (fun f => f.ctx == ctx && f.ent == ent && f.ts == t.ts && f.state != .parkwait && f.state != .lost) = some f →
      obufRoom u core (el % 4) ctx t = true → trapRoom u el = true →
      deliver u t src = some (parkBefore (takeFrame u el f) el { f with x := some t } Cause.dupop (word (tokSide t))))) ∧
  (∀ f p, x.firing = none → x.stopped = false → x.traps.length < 2 → throttled s (dieOf (coreOf e)) = false →
    pickFrame s e = some (f, p) → gives .frameChoice (chosen s e f p)) ∧
  (∀ (u : State) (f : Frame) (p : Nat), ∃ g, ((startFiring u e f p).elem e).firing = some g ∧
    g.slot = bits (entryWord u e f.ctx f.ent) 62 58 ∧ g.items = [] ∧ g.scr = [] ∧ g.nsend = 0 ∧ g.nreq = 0 ∧ g.ended = false ∧
    g.frame.ctx = f.ctx ∧ g.frame.ts = f.ts) ∧
  (∀ f, x.firing = some f → f.ended = true → gives .commitPoint (commitFiring s e false)) ∧
  (∀ r, nextRelease x = some r →
    let cl := clusterOf (coreOf e)
    let put := fun (u : State) (i : Item) => mapRelease u e r.id fun y => { y with items := [i] }
    let gone := fun (u : State) => finishRelease (popItem (chargeUnits u cl (some (ctxImage u e r.ctx))) e r.id) e r.id
    findRelease x r.id = some r →
    (∀ tok ix rw cores, r.items = [.send tok ix rw cores false] → routeKind rw ≠ 2 → routeKind rw ≠ 8 →
      unitRoom s cl ((branches s tok cores).map tokStamp) = true →
      let c := countAll s cl (branches s tok cores)
      (storesOut r = false →
        gives .releaseSends (gone (c.2.foldl (fun u t => launch u t (some (e, ix)) (routeNet rw)) (put c.1 (.counted c.2 ix rw))))) ∧
      (storesOut r = true → branches s tok cores ≠ [] → ∃ t, exec .releaseSends s = .next t ∧ t.net = s.net)) ∧
    (∀ tok ix rw cores, r.items = [.send tok ix rw cores true] → routeKind rw ≠ 2 → routeKind rw ≠ 8 →
      let u := put s (.send tok ix rw cores true)
      (storesOut r = false → unitRoom u cl ((branches u tok cores).map tokStamp) = true →
        gives .releaseSends (gone (leaveCounted u e ix (routeNet rw) (branches u tok cores)))) ∧
      (storesOut r = true → gives .releaseSends u)) ∧
    (∀ tok ix rw asked slot, r.items = [.sendm tok ix rw asked slot] → routeDev s rw = s.devId → storesOut r = false →
      let u := put s (.sendm tok ix rw asked slot)
      let ms := (musterOf u (routeMid rw)).slots
      (musterOf u (routeMid rw)).queue = [] → unitRoom u cl (memberStamps u tok ms) = true →
      gives .releaseSends (gone (sendCopies u (e, r.ctx, r.ent, slot) tok ix (routeNet rw) ms))) ∧
    (∀ loc ts rw, r.items = [.reqn loc ts rw] →
      let image := routeRegion s rw (ctxImage s e r.ctx)
      unitRoom s cl [(image, loc, ts)] = true →
        gives .releaseSends (gone (put (recordMark s (markCluster s cl image loc) image
          { loc := loc, ts := ts, plus := true, tag := none, taint := false, isReq := true }).1 (.counted [] 0 rw))))) ∧
  (∀ r, findRelease x ev.index = some r → r.items = [] → r.out = [] → r.gated = 0 → decRoom s (clusterOf (coreOf e)) r.decs = true →
    let u := r.decs.foldl (fun s d => recordDec s (clusterOf (coreOf e)) d r.taint) s
    gives .recordDecrements (u.setElem e { u.elem e with releases := (u.elem e).releases.filter fun y => y.id != r.id })) ∧
  (∀ t rest, x.traps = t :: rest → 16 ≤ bits (ctxWord s e t.ctx) 36 32 →
    let cl := clusterOf (coreOf e)
    (bits (ctxWord s e t.ctx) 55 53 ≠ 7 → (s.cluster cl).tq.length < 62 → cl < s.clusters.length →
      ∃ u, exec .trapRecordLeave s = .next u ∧ (u.cluster cl).tq = (s.cluster cl).tq ++ [t.record] ∧ (u.elem e).traps = rest ∧ u.mem = s.mem) ∧
    (bits (ctxWord s e t.ctx) 55 53 = 7 → s.pkg.rq.length < 64 →
      ∃ u, exec .trapRecordLeave s = .next u ∧ u.pkg.rq = s.pkg.rq ++ [t.record] ∧ (u.elem e).traps = rest ∧ u.mem = s.mem)) ∧
  (let waiting := x.frames.filter fun f => f.state == .parkwait && (freeRecord s (ctxImage s e f.ctx) e 64 64).isSome
   ∀ k f, (waiting.map Frame.order).min? = some k → waiting.find? (fun f => f.order == k) = some f →
    trapRoom s e = true → ∀ n, freeRecord s (ctxImage s e f.ctx) e 64 64 = some n →
    gives .parkwaitRelease (parkInto (takeFrame s e f) e n { f with state := .complete } f.trap0 f.trap3 f.poison)) ∧
  (∀ o, nextInstr s e = some (.vseqacc o) →
    ∃ t, exec .vseqaccRetry s = .next t ∧ exec (.vseqacc o) (ready s (.element e)) = .next t) ∧
  (∀ g, firstServed s (((if ev.flag then claimCores s ev.unit else [ev.unit]).flatMap elemsOf).filter (wants s ev.flag)) = some g →
    (∀ t, ev.flag = true → claimArray s g = some t → gives .claimHandover t) ∧
    ∀ t f, ev.flag = false → (s.elem g).firing = some f → claimCutter s g f.frame.ctx = some t → gives .claimHandover t) ∧
  (∀ f far, s.net[ev.unit]? = some f → flightDropped s f = some far →
    let loc := tokLoc f.tok
    gives .hedgedrop (reportDrop (dropCounted { s with net := s.net.eraseIdx ev.unit } f.tok) far (locEl loc) (locCtx loc) (locEnt loc)
      f.tok.ts f.tok.h1))

/-- O45: counter chains, the SPHDR emitter and the array's edge: a chain takes the earliest complete frame of its entry, sends its tokens in
order and counts its trigger off (R201, R202); an emission ends once its last token has left (R296); the oldest row reaches the edge (R257). What each token's way is charged is free (log 8). -/
def Obligations.ChainEmitterAndArrayEvents : Prop := ∀ (s : State),
  let core := s.event.unit
  let ch := s.event.index % 4
  let c := s.core core
  let w := Tab.get 0 c.cfg1 (0x20 + 4 * ch)
  let e := core * 4 + bits w 62 61
  let gives := fun (i : Instr) (t : State) => exec i s = .next t
  (let fs := (s.elem e).frames.filter fun f => f.state == .complete && f.ctx == bits w 60 58 && f.ent == bits w 57 55
   ∀ k f, bitOf w 63 = true → c.chains.getD ch none = none → ctxPri s e (bits w 60 58) ≠ 0 →
    isLean s core (ctxImage s e (bits w 60 58)) = false → (fs.map Frame.order).min? = some k → fs.find? (fun f => f.order == k) = some f →
    (channelCheck s e f = none →
      gives .chainTrigger (setChain (takeFrame s e f) core ch (some { trigger := f, next := 0, gated := 0 }))) ∧
    ∀ y, channelCheck s e f = some y → trapRoom s e = true → gives .chainTrigger (parkBefore (takeFrame s e f) e f y.1 y.2)) ∧
  (∀ a, c.chains.getD ch none = some a →
    (a.next < chainCount c ch → ∀ t g,
      let rw := routeWord s e a.trigger.ctx (bits w 54 50)
      emit s e a.trigger.ctx (bits w 54 50) rw (routeCores s e a.trigger.ctx (bits w 54 50) rw) a.trigger.ts a.next
        { last := (chainLevels c ch).head?.any fun (_, _, cnt) => a.next % cnt + 1 == cnt, seq := a.next }
        (chainPayload c ch a.next) ch = (t, some g) →
      gives .chainEmit (setChain (chargeUnits t (clusterOf core) (some (ctxImage t e a.trigger.ctx))) core ch (some { a with next := a.next + 1, gated := a.gated + g }))) ∧
    (chainCount c ch ≤ a.next → a.gated = 0 → decRoom s (clusterOf core) (a.trigger.tokens.map tokDec) = true →
      let toks := a.trigger.tokens
      let u := watchConsumed
        (toks.foldl (fun t tok => recordDec t (clusterOf core) (tokDec tok) (toks.any tokTaint)) s) toks
      gives .chainEmit (setChain (u.setCore core { u.core core with
        eosSeen := ((u.core core).eosSeen ++ eosSides u e a.trigger).eraseDups }) core ch none)) ∧
    (chainCount c ch ≤ a.next → a.gated ≠ 0 → gives .chainEmit s)) ∧
  (∀ m, c.emission = some m → m.live = true → emissionFree s m = true →
    (∀ p t g, m.bits[m.next]? = some p →
      emit s m.elem m.ctx m.route m.word m.cores m.ts m.next { last := m.next + 1 == m.bits.length, seq := m.next } (p + m.next * 2 ^ 16) 4
        = (t, some g) →
      let t := chargeUnits t (clusterOf core) (some (ctxImage t m.elem m.ctx))
      gives .sphdrEmit (t.setCore core { t.core core with emission := some { m with next := m.next + 1, gated := m.gated + g } })) ∧
    (∀ t g, m.bits = [] → m.next = 0 → emit s m.elem m.ctx m.route m.word m.cores m.ts 0 { last := true, esheaf := true } 0 4 = (t, some g) →
      let t := chargeUnits t (clusterOf core) (some (ctxImage t m.elem m.ctx))
      gives .sphdrEmit (t.setCore core { t.core core with emission := some { m with next := 1, gated := m.gated + g } })) ∧
    (max 1 m.bits.length ≤ m.next → m.gated = 0 →
      let t := mapRelease s m.elem m.rel fun r => { r with gated := r.gated - 1 }
      gives .sphdrEmit (t.setCore core { t.core core with emission := none }))) ∧
  (∀ r rest, c.arr.cells = r :: rest → ∃ t, exec .arrayRowEdge s = .next t ∧ (t.core core).arr = edgeRow c.arr ∧ t.mem = s.mem ∧
    t.elems = s.elems)

/-- O46: the waymark protocol: admission at the gate, after which the activation is in flight in its region's home aggregator (R175), the closing of a batch and its application at the home in sequence order,
acknowledgements, and milestones, each with what it leaves in the home aggregator (R181, R186, R187). A batch
whose increments exceed the home's capacity waits (R189). That an allocation's first batch applies whatever number was applied before, and that a
home on another device is asked by messages, is the model's reading (logs 9 and 10); which units stay in the list of changed ones is log 104. -/
def Obligations.WaymarkProtocolEvents : Prop := ∀ (s : State),
  let ev := s.event
  let gives := fun (i : Instr) (t : State) => exec i s = .next t
  (∀ g, ev.kind ≠ 1 → (s.cluster ev.unit).gate[ev.index]? = some g →
    let later := ((s.cluster ev.unit).gate.take ev.index).any fun h => h.src == g.src && h.prefixTs == g.prefixTs
    (later = true → gives .gateAdmissionGrant s) ∧
    (∀ t ∈ g.toks, admits s t.region g.loop g.prefixTs = false → gives .gateAdmissionGrant s) ∧
    (later = false → g.loop = 0 ∨ (g.toks.all fun t => admits s t.region g.loop g.prefixTs) = true →
      unitRoom s ev.unit (g.toks.map tokStamp) = true →
      let u := (g.toks.map Token.region).eraseDups.foldl (fun s i => takeAct s i g.loop g.prefixTs) s
      let u := u.setCluster ev.unit { u.cluster ev.unit with gate := (u.cluster ev.unit).gate.eraseIdx ev.index }
      let r := countAll (chargeUnits u ev.unit (some (ctxImage u g.elem (gatedCtx u g)))) ev.unit g.toks true
      gives .gateAdmissionGrant (ungate (r.2.foldl (fun t k => launch t k (some g.src) g.net none) r.1) g))) ∧
  (ev.kind = 1 →
    (homedAway s ev.addr = true ∨ admits s ev.addr ev.index ev.w0 = false → gives .gateAdmissionGrant s) ∧
    (homedAway s ev.addr = false → admits s ev.addr ev.index ev.w0 = true → ∃ t, exec .gateAdmissionGrant s = .next t ∧
      t.out = .admission ev.addr ev.index ev.w0 true :: s.out ∧ t.mem = s.mem ∧ t.net = s.net ∧ t.homes = (takeAct s ev.addr ev.index ev.w0).homes)) ∧
  (∀ (u : State) (image l : Nat) (p : W64),
    (l ≠ 0 → homedAway u image = false → ∃ a ∈ ((takeAct u image l p).home image).acts, a.loop = l ∧ a.pfx = p) ∧
    (∀ a ∈ (u.home image).acts, a ∈ ((takeAct u image l p).home image).acts) ∧
    (l = 0 ∨ (∃ a ∈ (u.home image).acts, a.loop = l ∧ a.pfx = p) → takeAct u image l p = u) ∧
    (∀ i, i ≠ image → (takeAct u image l p).home i = u.home i) ∧ (takeAct u image l p).clusters = u.clusters) ∧
  (∀ x b, (s.cluster ev.unit).slots[ev.index]? = some x → x.batch = some b →
    (b.opened + 256 ≤ s.clock ∨ 32 ≤ stamps b → x.unacked.length < 32768 → gives .batchClose (closeBatch s ev.unit x)) ∧
    (s.clock < b.opened + 256 → stamps b < 32 → gives .batchClose s) ∧ (32768 ≤ x.unacked.length → gives .batchClose s)) ∧
  (let h := s.home ev.unit
   ∀ b rest, ev.kind = 0 → Tab.get [] h.received ev.index = b :: rest →
    (b.first = false → b.seq ≠ Tab.get 0 h.applied ev.index % 65536 → gives .batchApply s) ∧
    (b.first = true ∨ b.seq = Tab.get 0 h.applied ev.index % 65536 →
      let h' := { h with received := Tab.set [] h.received ev.index rest, applied := Tab.set 0 h.applied ev.index (b.seq + 1) }
      let new := b.marks.foldl (applyMark s ev.unit ev.index b.seq) h'
      (homeCapacity s ev.unit < new.waymarks → h.waymarks < new.waymarks → gives .batchApply s) ∧
      (new.waymarks ≤ homeCapacity s ev.unit ∨ new.waymarks ≤ h.waymarks → gives .batchApply (s.setHome ev.unit (closeActs s ev.unit new))))) ∧
  (∃ t, exec .ackBroadcast s = .next t ∧ (∀ u ∈ (t.home ev.unit).fresh, Tab.get [] (s.home ev.unit).received u ≠ []) ∧
    (t.home ev.unit).counts = (s.home ev.unit).counts ∧
    (t.home ev.unit).applied = (s.home ev.unit).applied ∧
    ∀ cl < 16, (findSlot s cl ev.unit).isSome = true → ((t.home ev.unit).acks.any fun a => a.1 == cl) = true) ∧
  (∀ x a, findSlot s ev.unit ev.index = some x → ev.flag = false → (s.home ev.index).acks.find? (fun a => a.1 == ev.unit) = some a →
    gives .ackReceive (putSlot (s.setHome ev.index { s.home ev.index with acks := (s.home ev.index).acks.erase a }) ev.unit
      (takeAck s ev.unit x a.2))) ∧
  (∀ p, (s.home ev.unit).pending[ev.index]? = some p →
    (deliverable s ev.unit p = true → ∃ t, exec .milestoneDelivery s = .next t ∧ (t.home ev.unit).counts = (s.home ev.unit).counts ∧
      (t.home ev.unit).pending = (s.home ev.unit).pending.map (fun q => if q = p then { q with delivered := true } else q) ∧
      (p.loc / 2 ^ 19 = s.devId → p.loc < 2 ^ 31 →
        ∃ f, t.net = s.net ++ [f] ∧ f.net = 2 ∧ f.tok.ts = p.s ∧ tokLoc f.tok = p.loc ∧ tokSide f.tok = 3)) ∧
    (deliverable s ev.unit p = false → gives .milestoneDelivery s))

/-! ## Events of ports, memory nodes and engines -/

/-- O47: requests at the ports: entry with its reply counted and its addresses checked against the windows (R185, R208, R210), translation
(R212), performance in order and the outcomes (R103, R229, R230), deferred reads (R206), notifications, of which the next one's +1 is recorded as the
write triggers the entry (R207) or as the held token leaves (R244, log 134), and cancelling (R243),
ordering tokens (R250) and the granules of streams (R247, R248). That a request enters its port once every
send of its release is counted is R101. That a WATCH with count 0 cancels every entry of its context, granule and route is the model's reading (log
69). -/
def Obligations.PortAndMemoryEvents : Prop := ∀ (s : State),
  let ev := s.event
  let core := ev.unit
  let c := s.core core
  let gives := fun (i : Instr) (t : State) => exec i s = .next t
  (let e := core * 4 + ev.addr % 4
   ∀ rel q rw, nextRelease (s.elem e) = some rel → rel.items.head? = some (.req q rw) → q.kind ≠ .fence → q.port = ev.index →
    rel.items.any Item.uncounted = false → portUsed s core q.port < 32 → unitRoom s (clusterOf core) ((replyTokens s q rw).map tokStamp) = true →
    let k := countAll s (clusterOf core) (replyTokens s q rw)
    let r := { q with rel := rel.id, ord := k.1.fresh, reply := k.2 }
    let u := popItem { k.1 with fresh := k.1.fresh + 1 } e rel.id
    let w : Outst := { ord := r.ord, place := rel.popped, runs := r.runs, entry := decide (compareUsed u core < 16), write := r.kind.writes }
    let n := mapRelease u e rel.id fun y => { y with out := y.out ++ [w] }
    (q.kind = .ordt → gives .portEntry (u.setCore core { u.core core with ordts := (u.core core).ordts ++ [r] })) ∧
    (q.kind ≠ .ordt → q.kind.mapsGlb = false → gives .portEntry (joinPort n { r with stage := .ready })) ∧
    (q.kind.mapsGlb = true → q.space ≠ 3 →
      gives .portEntry (joinPort n (r.mapped n (r.eas.map (spaceAddr n r.elem r.ctx r.space))))) ∧
    (q.kind.mapsGlb = true → q.space = 3 → q.kind.streams = true → gives .portEntry (joinPort n r)) ∧
    (q.kind.mapsGlb = true → q.space = 3 → q.kind.streams = false →
      (∀ pas, windowMap n r r.eas r.span = .ok pas → gives .portEntry (joinPort n (r.mapped n pas))) ∧
      ∀ y, windowMap n r r.eas r.span = .error y →
        gives .portEntry (if q.kind = .pref then completeReq n r 0 else failReq n r y))) ∧
  (let e := core * 4 + ev.addr % 4
   ∀ rel, nextRelease (s.elem e) = some rel → rel.items.any Item.uncounted = true → gives .portEntry s) ∧
  (∀ r, (c.port ev.index).reqs[ev.addr]? = some r → mayGo (c.port ev.index) ev.addr = true →
    (r.stage = .walking → gives .translationWalk (walkRequest s core ev.index r)) ∧
    (r.stage = .ready → inOrder s core ev.index ev.addr r = true →
      (ev.kind = 0 → gives .requestPerform (performReq s core ev.index r)) ∧
      (r.kind = .watch → r.cmp = 0 → gives .watchCancel (performReq s core ev.index r))) ∧
    (r.stage = .ready → inOrder s core ev.index ev.addr r = false → ev.kind = 0 → gives .requestPerform s)) ∧
  (∀ r, ev.kind = 1 → s.pkg.outstanding[ev.unit]? = some r →
    gives .requestPerform (answered { s with pkg := { s.pkg with outstanding := s.pkg.outstanding.eraseIdx ev.unit } } r
      (if ev.flag then .error (ev.op % 256, ev.w0) else .ok ev.payload) ev.w0.toNat ev.w1.toNat)) ∧
  (∀ (core a : Nat) (r : Req), r.cmp = 0 → performWatch s core r a =
    (cancelWatches s core (fun w => w.elem == r.elem && w.ctx == r.ctx && w.ofScr == (r.space == 0) && w.ea == r.ea && w.route == r.route),
      .done 0 false)) ∧
  (∀ r, core < 2048 → c.deferred[ev.index]? = some r → r.stage = .ready →
    let u := s.setCore core { c with deferred := c.deferred.eraseIdx ev.index }
    gives .deferredReadFill (settle (sendReply (chargeUnits u (clusterOf (coreOf r.elem)) (some (ctxImage s r.elem r.ctx))) r r.data false) r false)) ∧
  (∀ r, core < 2048 → c.deferred[ev.index]? = some r → r.stage = .held →
    (readable s (r.pas.headD 0) = false → gives .deferredReadFill s) ∧
    (readable s (r.pas.headD 0) = true → ∀ t v, reqRead s (coreOf r.elem) r (r.pas.headD 0) r.ea 8 = (t, .ok v) →
      let u := t.setCore core { t.core core with deferred := (t.core core).deferred.eraseIdx ev.index }
      gives .deferredReadFill (settle (sendReply (chargeUnits u (clusterOf (coreOf r.elem)) (some (ctxImage t r.elem r.ctx))) r
        (BitVec.ofNat 2048 v) false) r false))) ∧
  (∀ w v rest, c.watches[ev.index]? = some w → w.queue = v :: rest →
    (w.sent ≠ [] → gives .watchNotify s) ∧
    (w.sent = [] → w.left ≤ 1 →
      let toks := w.held.map fun t =>
        { t with payload := BitVec.ofNat 2048 v.toNat, h1 := if w.lost then setBits t.h1 21 21 1 else t.h1 }
      let u := toks.foldl (fun s t => launch s t (some (w.elem, w.route)) 2) (chargeUnits s (clusterOf core) (some (ctxImage s w.elem w.ctx)))
      gives .watchNotify (u.setCore core { u.core core with watches := (u.core core).watches.eraseIdx ev.index })) ∧
    (w.sent = [] → 1 < w.left → w.next = [] → unitRoom s (clusterOf core) (w.held.map tokStamp) = false → gives .watchNotify s) ∧
    (w.sent = [] → 1 < w.left → w.next ≠ [] ∨ unitRoom s (clusterOf core) (w.held.map tokStamp) = true →
      let toks := w.held.map fun t =>
        { t with payload := BitVec.ofNat 2048 v.toNat, h1 := if w.lost then setBits t.h1 21 21 1 else t.h1 }
      let k := if w.next = [] then countAll s (clusterOf core) w.held else (s, w.next)
      let u := toks.foldl (fun s t => launch s t (some (w.elem, w.route)) 2)
        (chargeUnits k.1 (clusterOf core) (some (ctxImage k.1 w.elem w.ctx)))
      let w' := { w with held := k.2, next := [], left := w.left - 1, queue := rest, sent := toks, lost := false }
      gives .watchNotify (u.setCore core { u.core core with watches := (u.core core).watches.set ev.index w' }))) ∧
  (∀ (t : State) (w : Watch),
    (1 < w.left → w.next = [] → w.sent = [] → w.queue ≠ [] → countNext t core w =
      ((countAll t (clusterOf core) w.held).1, { w with next := (countAll t (clusterOf core) w.held).2 })) ∧
    (w.left ≤ 1 ∨ w.next ≠ [] ∨ w.sent ≠ [] ∨ w.queue = [] → countNext t core w = (t, w))) ∧
  (∀ r, c.ordts[ev.index]? = some r →
    (ordtMay s r = true →
      let u := s.setCore core { c with ordts := c.ordts.eraseIdx ev.index }
      gives .ordtLeave (sendReply (chargeUnits u (clusterOf core) (some (ctxImage u r.elem r.ctx))) r 0 false)) ∧
    (ordtMay s r = false → gives .ordtLeave s)) ∧
  (∀ k r, portStream (c.port ev.index) = some (k, r) →
    (∀ y, r.failed = some y → gives .streamGranule (failReq (dropReq s core ev.index r) r y)) ∧
    (r.failed = none → mayGo (c.port ev.index) k = true → inOrder s core ev.index k r = true →
      (r.stage = .entered →
        let b := streamBlock r.ea r.span r.done
        (∀ pas, windowMap s r [b.1] b.2 = .ok pas → gives .streamGranule (putReq s core ev.index (r.mapped s pas))) ∧
        ∀ y, windowMap s r [b.1] b.2 = .error y → gives .streamGranule (failReq (dropReq s core ev.index r) r y)) ∧
      (r.stage = .ready →
        (∀ t, streamStep s core r = (t, some (.ok ())) →
          gives .streamGranule (streamNext (chargeUnits t (clusterOf core) (some (ctxImage t r.elem r.ctx))) core ev.index r)) ∧
        (∀ t y, streamStep s core r = (t, some (.error y)) → gives .streamGranule (failReq (dropReq t core ev.index r) r y)) ∧
        (∀ t, streamStep s core r = (t, none) → gives .streamGranule t) ∧
        (r.kind = .strm → s.present (scrAddr core (bits r.cmp 18 0 + r.done)) = true →
          gives .streamGranule (failReq (dropReq s core ev.index r) r (Cause.doublew, word (bits r.cmp 18 0 + r.done)))))))

/-- O48: the engines: an accepted operation takes the next number and joins its context's queue (R399); the running one ends with ETL at its
number and its place free (R400); another block may be written before (R249). Waits are answered when they are satisfied (R403). That ENGINE_OPERATION_END runs
all the remaining blocks at once, and ENGINE_WRITE_POINTER one block, is the model's choice (log 91). That an operation waits at its issuer while a link
on its way to the engine's die, or on the way back, is down (R395), is the model's reading (log 99). -/
def Obligations.EngineEvents : Prop := ∀ (s : State),
  let ev := s.event
  let gives := fun (i : Instr) (t : State) => exec i s = .next t
  (∀ r, ((s.core ev.index).port ev.addr).reqs[ev.size]? = some r → (r.kind = .copy ∨ r.kind = .istrm) → handleOf r.cmp = ev.unit →
    mayGo ((s.core ev.index).port ev.addr) ev.size = true → inOrder s ev.index ev.addr ev.size r = true →
    (∀ t v u, acceptOp s r = (t, .done v u) → gives .engineAccept (completeReq (dropReq (chargeReq t r) ev.index ev.addr r) r v u)) ∧
    (∀ t, acceptOp s r = (t, .taken) → gives .engineAccept (settle (dropReq (chargeReq t r) ev.index ev.addr r) r false)) ∧
    (∀ t y, acceptOp s r = (t, .fail y) → gives .engineAccept (failReq (dropReq (chargeReq t r) ev.index ev.addr r) r y)) ∧
    (∀ t, acceptOp s r = (t, .stay) → gives .engineAccept s)) ∧
  (∀ r : Req, let h := handleOf r.cmp
    let e := s.engine h
    bothReach s r.issueDie (handleDie h) = true → resetStage s (handleDie h) = 0 → engineRefuses s r h = false → (r.kind = .istrm ↔ handleEng h = 3) →
    (e.queue.length < 64 → ∃ t op, (acceptOp s r).1 = t ∧ (t.engine h).queue = e.queue ++ [op] ∧ op.num = e.nextOp ∧ op.done = 0 ∧ op.req = r ∧
      (t.engine h).nextOp = e.nextOp + 1 ∧ (t.engine h).etl = e.etl ∧ t.mem = s.mem ∧
      (r.cmpl = false → (acceptOp s r).2 = .done (BitVec.ofNat 2048 e.nextOp) false) ∧
      (r.cmpl = true → (acceptOp s r).2 = .taken)) ∧
    (64 ≤ e.queue.length → acceptOp s r = (s, .stay))) ∧
  (∀ r : Req, bothReach s r.issueDie (handleDie (handleOf r.cmp)) = false → acceptOp s r = (s, .stay)) ∧
  (∀ r : Req, bothReach s r.issueDie (handleDie (handleOf r.cmp)) = true → resetStage s (handleDie (handleOf r.cmp)) = 0 → engineRefuses s r (handleOf r.cmp) = true →
    acceptOp s r = (s, .fail (Cause.engbind, word (handleOf r.cmp)))) ∧
  (∀ op, (s.engine ev.unit).queue.head? = some op → storesDone s op.req = true → bitOf s.pkg.govstat (handleDie ev.unit) = false →
    resetStage s (handleDie ev.unit) = 0 →
    gives .engineOperationEnd (runBlocks s ev.unit (opLength op.req.kind op.req.cmp / 16 + 2)) ∧
    (op.done = opLength op.req.kind op.req.cmp → gives .engineOperationEnd (endOp s ev.unit op none)) ∧
    (op.done ≠ opLength op.req.kind op.req.cmp → gives .engineWritePointer (serveWaits (runBlocks s ev.unit 1) ev.unit)) ∧
    (op.done = opLength op.req.kind op.req.cmp → (s.engine ev.unit).waits = [] → op.req.cmpl = false →
      ∃ t, exec .engineOperationEnd s = .next t ∧ (t.engine ev.unit).etl = op.num ∧
        (t.engine ev.unit).queue = (s.engine ev.unit).queue.drop 1 ∧ (t.engine ev.unit).faillo = (s.engine ev.unit).faillo ∧ t.mem = s.mem))

/-! ## Hosts and other devices -/

/-- O49: hosts: packets of an ingress window are accepted, dropped with a reason or delivered (R317, R432), the round register and other
accesses (R431, R433), egress (R434), attestation (R436) and the disposal of a lost region (R416, R435). That a write of the round register of an
unbound window, or by another device, is discarded and counted is the model's reading (log 74). -/
def Obligations.HostEvents : Prop := ∀ (s : State),
  let ev := s.event
  let i := ev.unit % 64
  let w := ingb s i
  let win := windowOf s i
  let gives := fun (i : Instr) (t : State) => exec i s = .next t
  (ev.index < 0xFF00 → win.packets.length < 32 →
    (∀ r, dropReason s i ev.index ev.addr ev.size ev.w0 ev.w1 ev.w2 ev.w3 = some r → gives .ingressPacket (dropPacket s i r)) ∧
    (dropReason s i ev.index ev.addr ev.size ev.w0 ev.w1 ev.w2 ev.w3 = none →
      ∃ t, exec .ingressPacket s = .next t ∧ (windowOf t i).packets = win.packets ++ [{ w0 := ev.w0, w1 := ev.w1, payload := ev.payload }] ∧
        (windowOf t i).dropped = win.dropped ∧ t.mem = s.mem ∧ t.net = s.net ∧ t.homes = s.homes)) ∧
  (bitOf w 63 = false → ev.index < 0xFF00 → win.packets.length < 32 → gives .ingressPacket (dropPacket s i 5)) ∧
  (∀ p rest, win.packets = p :: rest →
    let gone := fun (s : State) => advanceFloors (setWindow s i { windowOf s i with packets := rest }) i 1
    (bitOf w 63 = false ∨ registered s w = none → gives .ingressDelivery (dropPacket (gone s) i 5)) ∧
    (bitOf w 63 = true → registered s w = some 2 →
      let t := packetToken s (bits w 52 37) p
      let cl := clusterOf (locCore (tokLoc t))
      unitRoom s cl [tokStamp t] = true →
        let k := countToken s cl (tokLoc t) t
        gives .ingressDelivery (launch (gone k.1) k.2 (some (2 ^ 21 + 4 * i, 0)) (if tokWide k.2 then 1 else 2))) ∧
    (bitOf w 63 = true → (∃ k, registered s w = some k ∧ k ≠ 2) → gives .ingressDelivery s)) ∧
  (ev.addr = 0xFF00 → ev.size = 8 → bitOf w 63 = true → ev.index = bits w 36 25 →
    gives .roundRegisterWrite (advanceFloors (setWindow s i { win with floors := win.floors ++ [(win.packets.length, bits ev.w0 24 0)] }) i 0)) ∧
  (ev.addr ≠ 0xFF00 ∨ ev.size ≠ 8 ∨ bitOf w 63 = false ∨ ev.index ≠ bits w 36 25 → ∃ t, exec .roundRegisterWrite s = .next t ∧
    (windowOf t i).dropped = min (win.dropped + 1) (2 ^ 32 - 1) ∧ (windowOf t i).floors = win.floors ∧ ingb t i = w) ∧
  (∀ tok rest, egressOf s i = tok :: rest →
    (bitOf (egq s i) 63 = true → i ≠ 63 ∨ s.pkg.reports = [] → ∃ t, exec .hostEgress s = .next t ∧ egressOf t i = rest ∧
      t.out = .hostWrite i tok (bits (egq s i) 62 51) (bits (egq s i) 47 8 * 256) :: s.out) ∧
    (bitOf (egq s i) 63 = false → i ≠ 63 → gives .hostEgress s)) ∧
  (ev.kind ≠ 1 → s.pkg.attest.length < 4 → ∃ t, exec .attestationRequest s = .next t ∧
    t.pkg.attest = s.pkg.attest ++ [BitVec.ofNat 256 ev.payload.toNat]) ∧
  (ev.kind ≠ 1 → 4 ≤ s.pkg.attest.length → gives .attestationRequest s) ∧
  (∀ n rest, ev.kind = 1 → s.pkg.attest = n :: rest → reeveQueueRoom s 2 = true →
    ∃ t a b, exec .attestationRequest s = .next t ∧ t.pkg.attest = rest ∧ egressOf t 63 = egressOf s 63 ++ [a, b] ∧
      a.payload = reportHalf s n 0 ∧ b.payload = reportHalf s n 1 ∧ bits a.h1 20 15 = 0 ∧ bits b.h1 20 15 = 1) ∧
  (ev.flag = true → ev.index < 0x400000 → ev.index % 65536 = 0xFF08 → ∃ t, exec .discardedHostWrite s = .next t ∧
    t.out = .hostRead (some (windowStatus s (ev.index / 65536))) :: s.out ∧ t.mem = s.mem) ∧
  (ev.flag = false → ev.index < 0x400000 → 0xFF00 ≤ ev.index % 65536 → ∃ t, exec .discardedHostWrite s = .next t ∧
    (windowOf t (ev.index / 65536)).dropped = min ((windowOf s (ev.index / 65536)).dropped + 1) (2 ^ 32 - 1) ∧ t.mem = s.mem) ∧
  (ev.kind ≠ 1 → (s.home ev.unit).lost = true →
    ((regionCtxs s ev.unit).all fun (e, ctx) => !((s.elem e).firing.any fun f => f.frame.ctx == ctx)) = true →
    ∃ t, exec .lostRegionDisposal s = .next t ∧ t.home ev.unit = Home.init ∧ (∀ cl, findSlot t cl ev.unit = none) ∧
      (reglostToken ev.unit).payload.toNat % 2 ^ 16 = 0x0066 ∧
      (reeveQueueRoom s 1 = true → s.pkg.reports = [] → egressOf t 63 = egressOf s 63 ++ [reglostToken ev.unit] ∧ t.pkg.reports = []) ∧
      (bitOf (egq s 63) 63 = false → egressOf t 63 = egressOf s 63 ∧ t.pkg.reports = s.pkg.reports ++ [reglostToken ev.unit])) ∧
  (ev.kind = 1 → gives .lostRegionDisposal (addReport s (imgrefToken ev.unit ev.index)) ∧
    (imgrefToken ev.unit ev.index).payload.toNat % 2 ^ 16 = 0x0067)

/-- O50: other devices: requests that arrive are performed, and counted at a page's owner (R456), or reach the unit that serves them (R438, R442), the keeper's JOINs and LEAVEs
(R442), a collective that every member has joined runs (R447), a device that does not answer is dead (R430), and links that fail or retry
(R395, R426). -/
def Obligations.FabricEvents : Prop := ∀ (s : State),
  let ev := s.event
  let gives := fun (i : Instr) (t : State) => exec i s = .next t
  (let r := arrival ev
   let page := pageOfVa r.ea
   let counted := fun (t : State) => if fabricGlobal r.ea = true ∧ ownsPage s page = true then countRemote t page r.dev r.port else t
   ev.unit ≠ s.devId → ev.unit < 4096 →
    (ev.kind ≤ 2 →
      (∀ t v, remoteAt s .engine r.home r.port r = (t, .ok (some v)) →
        gives .remoteRequestArrival (counted { t with out := .answer ev.unit (BitVec.ofNat 2048 v) false :: t.out })) ∧
      (∀ t y, remoteAt s .engine r.home r.port r = (t, .error y) → gives .remoteRequestArrival (counted (failReq t r y))) ∧
      (∀ t, remoteAt s .engine r.home r.port r = (t, .ok none) → gives .remoteRequestArrival s)) ∧
    (ev.kind = 6 ∨ ev.kind = 7 → ∃ t q, exec .remoteRequestArrival s = .next t ∧
      (musterOf t (ev.op % 256)).queue = (musterOf s (ev.op % 256)).queue ++ [q] ∧
      (musterOf t (ev.op % 256)).members = (musterOf s (ev.op % 256)).members ∧ t.mem = s.mem)) ∧
  (let m := musterOf s ev.unit
   ∀ r rest, m.queue = r :: rest →
    (m.pins ≠ 0 → gives .musterOperation s) ∧
    (m.pins = 0 → (r.kind = .join → gives .musterOperation (performJoin (chargeReq (setMuster s ev.unit { m with queue := rest }) r) r)) ∧
      (r.kind ≠ .join → gives .musterOperation (performLeave (chargeReq (setMuster s ev.unit { m with queue := rest }) r) r)))) ∧
  (∀ (r : Req), (musterOf s r.op).image = none → (musterOf s r.op).slots = [] →
    performJoin s r = completeReq (setMuster s r.op { musterOf s r.op with
      image := some r.cmp.toNat, members := setAt (musterOf s r.op).members 0 (some (reqMember r)) }) r 0) ∧
  (∀ (r : Req) i, (musterOf s r.op).image = some i → i ≠ r.cmp.toNat → ((musterOf s r.op).slots.find? fun y => y.2 == reqMember r) = none →
    performJoin s r = failReq s r (Cause.mustimg, word i)) ∧
  (∀ c, s.pkg.collectives[ev.unit]? = some c →
    let absent := c.pinned.filter fun y => !(c.given.any fun g => g.1 == y.1)
    ((absent.any fun y => branchLives s y.2) = true → gives .collectiveComplete s) ∧
    ((absent.any fun y => branchLives s y.2) = false → (c.given.all fun g => contributionReady s g.2) = true →
      let c' := { c with failed := c.failed || c.pinned.any fun y => !branchLives s y.2 }
      let len := (c.given.head?.map fun g => bits g.2.cmp 63 32).getD 0
      gives .collectiveComplete (collRun c.mid c.ts len (len / 256 + 2) (putCollective s c')))) ∧
  (ev.unit ≠ s.devId → ev.unit < 4096 → s.pkg.outstanding = [] → ev.size = 0 → ∃ t, exec .uternTimeout s = .next t ∧
    isDead t ev.unit = true ∧ (∀ d < 4096, d ≠ ev.unit → isDead t d = isDead s d) ∧ t.mem = s.mem) ∧
  gives .linkFlitRetry s ∧ gives .linkLevelRetry s ∧
  (ev.unit < 4 → s.pkg.ucie.length = 4 → ∃ t, exec .ucieModuleFail s = .next t ∧
    ∀ k < 4, ∀ m < 8, (t.pkg.ucie.getD k 0).testBit m = ((s.pkg.ucie.getD k 0).testBit m && !(k == ev.unit && m == ev.index % 8)))

/-! ## Fabric-global pages -/

/-- O51: the events of fabric-global pages: lookups and redirects of the owner cache (R455, R461), count messages (R456, R457), the passes, the
freeze, the switch and the abort of a migration (R458, R459), relays (R460), and reclamation (R462). That a relay of this
device's own access counts as a first hop and makes it a sharer, that a dead device's signpost counts as freed, and that the home ends the MIGR when
the old owner tells it that its relay queue is empty, is the model's reading (log 17); so is that a freeze waits for an empty relay queue and how a WATCH
leaves that queue (log 70), and that the requests which had hit an entry as it was CLOSED leave before those that wait (log 131). -/
def Obligations.PageEvents : Prop := ∀ (s : State),
  let ev := s.event
  let page := ev.unit
  let gives := fun (i : Instr) (t : State) => exec i s = .next t
  let die := s.die ev.unit
  (∀ t, homesPage s ev.addr = false → die.lookups.contains (ev.addr, ev.index) = true →
    enterOwner s ev.unit { ten := ev.index, page := ev.addr, owner := ev.size % 4096, gen := ev.op % 65536, closed := false, awaits := false }
      = some t →
    gives .ownerCacheLookup (t.setDie ev.unit { t.die ev.unit with lookups := (t.die ev.unit).lookups.erase (ev.addr, ev.index) })) ∧
  (die.lookups.contains (ev.addr, ev.index) = false → gives .ownerCacheLookup s) ∧
  (homesPage s page = true → gives .countMessage (applyCount s page ev.index (ev.addr % 256))) ∧
  (let p := pageEntry s page
   let thresh := bits (Tab.get 0 s.pkg.fabric 0x600) 15 0
   let cnt := if ev.index = p.cdev then min (p.cnt + 64) 65535 else p.cnt - 64
   let cdev := if ev.index ≠ p.cdev ∧ p.cnt ≤ 64 then ev.index else p.cdev
   homesPage s page = true → homeMapFull s page = false →
    ∃ t q, exec .countMessage s = .next t ∧ Tab.get PageEntry.init t.pkg.pages page = q ∧ q.owner = p.owner ∧ q.cnt = cnt ∧ q.cdev = cdev ∧
      t.mem = s.mem ∧
      (thresh = 0 ∨ cnt < thresh ∨ p.state ≠ .owned →
        q.state = p.state ∧ t.pkg.policy = s.pkg.policy ∧ t.pkg.polOvf = s.pkg.polOvf) ∧
      (thresh ≠ 0 → thresh ≤ cnt → p.state = .owned → q.state = .queued ∧
        (s.pkg.policy.length < 256 → t.pkg.polOvf = s.pkg.polOvf ∧ t.pkg.policy = s.pkg.policy ++
          [{ va := word (page * 2 ^ 16), w1 := word (p.owner * 2 ^ 52 + cdev * 2 ^ 40 + ev.addr % 256 * 2 ^ 32 + cnt) }]) ∧
        (256 ≤ s.pkg.policy.length → t.pkg.policy = s.pkg.policy ∧ t.pkg.polOvf = min (s.pkg.polOvf + 1) 65535))) ∧
  (∀ m, migrationOf s page = some m →
    (∀ k, ev.flag = false → mustAbort s m = some k → gives .migrationCopyPass (abortMove s page k) ∧ gives .migrationGo (abortMove s page k)) ∧
    (ev.flag = false → mustAbort s m = none → m.phase = .copying → 256 < m.dirty.length → m.passes < 9 →
      gives .migrationCopyPass (mapMigration (copyDirty s m) page fun m => { m with passes := m.passes + 1, dirty := [] })) ∧
    (m.phase = .copying → m.dirty.length ≤ 256 ∨ 9 ≤ m.passes → ((signpostOf s page).all fun y => y.queue.isEmpty) = true →
      gives .migrationFreeze (mapMigration s page fun m => { m with phase := .frozen })) ∧
    (m.phase = .copying → 256 < m.dirty.length → m.passes < 9 → gives .migrationFreeze s) ∧
    (((signpostOf s page).all fun y => y.queue.isEmpty) = false → gives .migrationFreeze s) ∧
    (ev.flag = false → mustAbort s m = none → (m.phase = .copying ∨ admitted s m = true) → gives .migrationGo s) ∧
    (ev.flag = false → mustAbort s m = none → m.phase = .frozen → admitted s m = false →
      let p := pageEntry s page
      let gen := if homesPage s page then p.gen + 1 else ev.size
      ∃ t x, exec .migrationGo s = .next t ∧ migrationOf t page = none ∧ t.mem = s.mem ∧ Sent.message 5 m.target page m.target gen ∈ t.out ∧
        signpostOf t page = some x ∧ x.owner = m.target ∧ x.gen = gen % 65536 ∧ x.queue = ((signpostOf s page).map Signpost.queue).getD [] ∧
        (∀ d < 4, ∀ y ∈ (t.die d).owner, y.page = page → y.owner = m.target ∧ y.gen = gen % 65536 ∧ y.closed = true) ∧
        (homesPage s page = false → Sent.message 6 (homeDevice s page) page m.target gen ∈ t.out) ∧
        (homesPage s page = true → (pageEntry t page).owner = m.target ∧ (pageEntry t page).state = .owned ∧
          (pageEntry t page).gen = gen % 65536) ∧
        (m.target ≠ s.devId → x.queue = [] → x.draining = false ∧
          (homesPage s page = false → t.out.head? = some (.message 18 (homeDevice s page) page s.devId 0)) ∧
          (homesPage s page = true → (pageEntry t page).relaying = false)) ∧
        (x.queue ≠ [] → x.draining = true ∧ t.stew 20 = s.stew 20 ∧ (homesPage s page = true → (pageEntry t page).relaying = true))) ∧
    (ev.flag = false → abortHolds s m ev.index = true →
      let u := { s with pkg := { s.pkg with migrations := s.pkg.migrations.filter fun x => x.page != page } }
      let u := performQueued page 257 u
      (homesPage u page = false → gives .migrationAbort (sendMessage u 7 (homeDevice u page) page u.devId ev.index)) ∧
      (homesPage u page = true → gives .migrationAbort (homeAbort u page ev.index))) ∧
    (ev.flag = false → abortHolds s m ev.index = false → gives .migrationAbort s)) ∧
  (ev.flag = true → ev.kind = 1 → homesPage s page = true → gives .migrationGo (homeMoved s page)) ∧
  ((pageEntry s page).relaying = true → homeMoved s page = reeveDone (setPage s page { pageEntry s page with relaying := false }) 1 page
    (moveResult (pageEntry s page).owner 0)) ∧
  ((pageEntry s page).relaying = false → homeMoved s page = s) ∧
  (∀ x, signpostOf s page = some x →
    (x.draining = true → x.owner ≠ s.devId → x.queue = [] → homesPage s page = false →
      endRelay s page = sendMessage (mapSignpost s page fun y => { y with draining := false }) 18 (homeDevice s page) page s.devId 0) ∧
    (x.draining = true → x.owner ≠ s.devId → x.queue = [] → homesPage s page = true →
      endRelay s page = homeMoved (mapSignpost s page fun y => { y with draining := false }) page) ∧
    (x.draining = false ∨ x.queue ≠ [] → endRelay s page = s)) ∧
  (∀ sp r rest, ev.flag = false → signpostOf s page = some sp → sp.queue = r :: rest → sp.owner ≠ s.devId →
    let u := mapSignpost s page fun x => { x with queue := rest }
    let gone := { u with pkg := { u.pkg with outstanding := u.pkg.outstanding.eraseIdx (u.pkg.outstanding.findIdx fun q => q == r) } }
    let line := r.kind = .pref ∨ r.kind = .clean ∨ r.kind = .inval
    let gives := fun (i : Instr) (t : State) => exec i s = .next (endRelay t page)
    (r.elem < outsideMark →
      (deadPeer s sp.owner = true → gives .signpostRelay (answered gone r (.error (Cause.deadpeer, word sp.owner)) 0 0)) ∧
      (deadPeer s sp.owner = false → line → gives .signpostRelay (answered gone r (.ok 0) 0 0)) ∧
      (deadPeer s sp.owner = false → r.kind = .watch → gives .signpostRelay (watchQueued u r (farGranule r))) ∧
      (deadPeer s sp.owner = false → ¬line → r.kind ≠ .watch → gives .signpostRelay
        (sendAway (takeRedirect (addSharer gone page s.devId) (accessOf s r).1 page sp.owner sp.gen) { r with dev := sp.owner, done := r.done + 1 }))) ∧
    (outsideMark ≤ r.elem → deadPeer s sp.owner = true → gives .signpostRelay (failReq u r (Cause.deadpeer, word sp.owner))) ∧
    (outsideMark ≤ r.elem → deadPeer s sp.owner = false → 2 ≤ r.done → gives .signpostRelay (sendMessage u 2 r.dev page 0 0)) ∧
    (deadPeer s sp.owner = false → outsideMark ≤ r.elem → r.done < 2 → ∃ t, exec .signpostRelay s = .next t ∧
      Sent.message 1 r.dev page sp.owner sp.gen ∈ t.out ∧
      (rest ≠ [] ∨ sp.draining = false → t.out.head? = some (.message 1 r.dev page sp.owner sp.gen)) ∧
      Sent.request ((devicePort s sp.owner).getD 0) sp.owner { r with done := r.done + 1 } ∈ t.out ∧ t.mem = s.mem ∧
      ∀ x, signpostOf t page = some x → x.relayed = sp.relayed + 1 ∧ x.queue = rest)) ∧
  (ev.flag = false → gives .redirect (s.setDie ev.unit { die with owner := die.owner.map fun y =>
    if y.page = ev.index ∧ y.gen < ev.size then { closeEntry s ev.unit y with owner := ev.addr, gen := ev.size } else y })) ∧
  (let opened := fun (y : OwnerEntry) => if y.page = ev.index ∧ y.closed ∧ !y.awaits then reopenEntry s ev.unit y else y
   awaited s ev.unit ev.index = [] → gives .ownerCacheReopen (s.setDie ev.unit { die with owner := die.owner.map opened })) ∧
  (∀ y, (closeEntry s ev.unit y).closed = true ∧ (closeEntry s ev.unit y).ajar = false ∧ (closeEntry s ev.unit y).owner = y.owner ∧
    (∀ core q k, dieOf core = ev.unit → (core, s.core core) ∈ s.cores → tenantOf s core = y.ten → ∀ p ∈ (s.core core).ports, p.reqs[k]? = some q →
      mayGo p k = true → ownerMapped s core q y.page = true → q.ord ∉ y.early → q.ord ∈ (closeEntry s ev.unit y).early)) ∧
  (∀ y, (earlyLeft s ev.unit y = [] → reopenEntry s ev.unit y = { y with closed := false, ajar := false, early := [], reopened := s.fresh }) ∧
    (earlyLeft s ev.unit y ≠ [] → reopenEntry s ev.unit y = { y with ajar := true, early := earlyLeft s ev.unit y })) ∧
  (awaited s ev.unit ev.index ≠ [] → gives .ownerCacheReopen s) ∧
  (ev.unit ≠ s.devId → gives .signpostInvalidation (mapReclaim s ev.index fun y => { y with left := y.left.erase ev.unit })) ∧
  (let kept := fun (y : OwnerEntry) => if y.page ≠ ev.index then some y else if y.closed then some { y with awaits := true } else none
   ev.unit = s.devId → homesPage s ev.index = false → ∃ t, exec .signpostInvalidation s = .next t ∧ t.mem = s.mem ∧
    (∀ d < 4, d < s.dies.length → (t.die d).owner = (s.die d).owner.filterMap kept) ∧
    (oldAnswered s ev.index (ev.addr % 4096) = true → t.out = .message 10 (homeDevice s ev.index) ev.index s.devId 0 :: s.out) ∧
    (oldAnswered s ev.index (ev.addr % 4096) = false → t.out = s.out)) ∧
  (ev.flag = false → homesPage s page = false → (s.pkg.reclaims.all fun y => y.page != page) = true → ∀ x, signpostOf s page = some x →
    x.owner ≠ s.devId → (x.queue = [] → x.relayed = 0 → oldAnswered s page x.owner = true →
      ∃ t, exec .reclaim s = .next t ∧ signpostOf t page = none ∧ t.mem = s.mem ∧
        t.out = .message 17 (homeDevice s page) page s.devId 0 :: s.out) ∧
    (x.queue ≠ [] ∨ x.relayed ≠ 0 ∨ oldAnswered s page x.owner = false → gives .reclaim s)) ∧
  (∀ y, ev.flag = false → homesPage s page = true → signpostOf s page = none → s.pkg.reclaims.find? (fun y => y.page == page) = some y →
    (y.posts = none → (y.left.all fun d => isDead s d) = false → gives .reclaim s) ∧
    (∀ l, y.posts = some l → (l.all fun d => isDead s d) = false → gives .reclaim s) ∧
    (∀ l, y.posts = some l → (l.all fun d => isDead s d) = true → (pageEntry s page).owner < 4096 → ∃ t, exec .reclaim s = .next t ∧ t.mem = s.mem ∧
      (t.pkg.reclaims.any fun z => z.page == page) = false ∧ (pageEntry t page).posts = [] ∧
      (pageEntry t page).owner = (pageEntry s page).owner))

/-! ## The block scheduler, eviction, energy and starts -/

/-- O52: the block scheduler's choice and its PLACEREQ (R318), the retirement of a spliced predecessor, with which the ingress windows drop what they
hold for an image that is registered no longer (R317, R319, R320), the markers of an
eviction, which keeps what its contexts have consumed with EOS = 1, and the reload after it (R323, R324). An entry whose home aggregator has no place returns to WAITING, with a PLACEREQ (R371). That all contexts of a core retire together, and only with a placed successor, is the model's
reading (log 81). -/
def Obligations.RegionEvents : Prop := ∀ (s : State),
  let ev := s.event
  let gives := fun (i : Instr) (t : State) => exec i s = .next t
  (∀ n, ev.unit < 16 → ev.unit < s.clusters.length → resetStage s (ev.unit / 4) = 0 → topEntry s ev.unit = some n →
    ((s.cluster ev.unit).placed ≠ none → gives .schedulerDecision s) ∧
    ((s.cluster ev.unit).placed = none →
    (hasPlace s ev.unit n = true → homeRoom s ev.unit (bits (wtaOf s ev.unit n) 47 32) = true → ∃ t, exec .schedulerDecision s = .next t ∧ (t.stew ev.unit).pc = (s.stew ev.unit).pc ∧
      (ev.unit < s.stewards.length → (t.stew ev.unit).evLoad = true) ∧ (t.cluster ev.unit).placed = none ∧ t.mem = s.mem ∧
      wtaOf t ev.unit n = setBits (wtaOf s ev.unit n) 62 61 1) ∧
    (hasPlace s ev.unit n = true → homeRoom s ev.unit (bits (wtaOf s ev.unit n) 47 32) = false →
      let u := setEntry s ev.unit n 0
      gives .schedulerDecision (sendPlacereq u ev.unit n) ∧ wtaOf u ev.unit n = setBits (wtaOf s ev.unit n) 62 61 0) ∧
    (hasPlace s ev.unit n = false → gives .schedulerDecision (sendPlacereq s ev.unit n)))) ∧
  (resetStage s (ev.unit / 4) ≠ 0 → gives .schedulerDecision s) ∧
  (let core := ev.unit
   let cl := clusterOf core
   let n := ev.index % 64
   let w := wtaOf s cl n
   let old := bits (wtaOf s cl (bits w 59 54)) 47 32
   let cs := ctxsOn s old core
   bitOf w 63 = true → bitOf w 60 = true → entryState s cl (bits w 59 54) = some 2 → cs ≠ [] → regionCtxs s (bits w 47 32) ≠ [] →
    ((cs.all fun y => eosEverywhere s y.1 y.2 && mayRetire s y.1 y.2) = false → gives .contextRetire s) ∧
    ((cs.all fun y => eosEverywhere s y.1 y.2 && mayRetire s y.1 y.2) = true →
      let u := cs.foldl (fun s y => invalidateContext s y.1 y.2) s
      let u := givePriority u (bits w 53 50) (ctxsOn u (bits w 47 32) core)
      (regionCtxs u old ≠ [] → gives .contextRetire u) ∧
      (regionCtxs u old = [] →
        let shared := (Tab.get [] s.places old).map fun k => k / 32
        let u := givePriority u (bits w 53 50) ((regionCtxs u (bits w 47 32)).filter fun y => !shared.contains (coreOf y.1))
        let c := u.cluster cl
        gives .contextRetire (dropUnregistered (u.setCluster cl { c with
          wta := Tab.set 0 (Tab.set 0 c.wta (bits w 59 54) 0) n (setBits w 62 61 2), placed := none }) cl)))) ∧
  (let core := ev.unit
   let cl := clusterOf core
   ∀ n image cores, (s.cluster cl).evicting.find? (fun y => y.2.2.contains core) = some (n, image, cores) →
    (markersIn s image core = false → gives .drainMarker s) ∧
    (markersIn s image core = true →
      let cs := (regionCtxs s image).filter fun y => coreOf y.1 == core
      let u := (cs.map Prod.fst).eraseDups.foldl (fun s e => spillElem s image e) s
      let u := cs.foldl (fun s y => invalidateContext s y.1 y.2) (keepEos u image core cs)
      let c := u.cluster cl
      let left := cores.filter fun y => y != core
      let rest := c.evicting.filter fun y => y.1 != n
      (left ≠ [] → gives .drainMarker (u.setCluster cl { c with evicting := rest ++ [(n, image, left)] })) ∧
      (left = [] →
        let u := u.setCluster cl { c with evicting := rest, wta := Tab.set 0 c.wta n (setBits (Tab.get 0 c.wta n) 62 61 3), placed := none }
        gives .drainMarker (u.setStew cl { u.stew cl with evDrained := true })))) ∧
  ((s.cluster ev.unit).reloading.contains ev.index = true → ev.unit < s.clusters.length → regionElems s ev.index = [] →
    Tab.get [] s.places ev.index = [] →
    ∃ t, exec .reload s = .next t ∧ (t.home ev.index).hold = false ∧ (t.cluster ev.unit).reloading.contains ev.index = false ∧
      ((t.cluster ev.unit).keptEos.any fun k => k.1 == ev.index) = false ∧ t.mem = s.mem) ∧
  ((s.cluster ev.unit).reloading.contains ev.index = false → gives .reload s)

/-- O53: energy and time: the lean images of a tick (R390), a tick's budget (R418) and a window's edge (R377, R390, R418, R419), the cellar's
temperature (R376), patrol scrubs (R415), the freezing of the trace ring and the spilling of counts (R471, R475). That a disabled or full
spill area loses the count to HOVF is the model's choice (log 29), and so is that the other units' share of a tick comes with the event (log 38). -/
def Obligations.EnergyAndObservationEvents : Prop := ∀ (s : State),
  let ev := s.event
  let n := ev.unit
  let gives := fun (i : Instr) (t : State) => exec i s = .next t
  (n < s.dies.length → ∃ t, exec .energyTick s = .next t ∧ (t.die n).leanNow = (s.die n).lean ∧
    (∀ i, i ∈ (t.die n).lean ↔ i ∈ (s.die n).lean ∨ i ∈ overAllowance (s.die n)) ∧ t.mem = s.mem) ∧
  (n < 4 → n < s.dies.length →
    let used := (s.die n).emc.sum - (s.die n).emMark + ev.size
    let b := s.pkg.dbud.getD n 0
    ∃ t, exec .governorTick s = .next t ∧ (t.die n).ewindow = (s.die n).ewindow + used ∧ (t.die n).emMark = (s.die n).emc.sum ∧
      (bitOf t.pkg.govstat (4 + n) = true ↔ bitOf s.pkg.govstat (4 + n) = true ∨ bits b 31 0 * 1024 ≤ (s.die n).ewindow + used) ∧
      (bits b 47 32 * 1024 ≤ (used :: (s.die n).ticks.take 9).sum → bitOf t.pkg.govstat n = true) ∧
      ∀ d < 4, d ≠ n → bitOf t.pkg.govstat d = bitOf s.pkg.govstat d ∧ bitOf t.pkg.govstat (4 + d) = bitOf s.pkg.govstat (4 + d)) ∧
  (∃ t, exec .windowEdge s = .next t ∧ t.pkg.gwin = s.pkg.gwin + 1 ∧ bits t.pkg.govstat 7 4 = 0 ∧ t.mem = s.mem ∧ t.cores = s.cores ∧
    ∀ d < s.dies.length, (t.die d).eused = [] ∧ (t.die d).lean = [] ∧ (t.die d).ewin = (s.die d).ewin + 1 ∧ (t.die d).ewindow = 0 ∧
      (t.die d).emc = (s.die d).emc ∧ ∀ k, Tab.get 0 (t.die d).freq k = Tab.get 0 (s.die d).freq k / 2) ∧
  (n < s.dies.length → ∃ t, exec .celhotChange s = .next t ∧ (t.die n).celhot = ev.flag ∧ (t.die n).celsplit = (s.die n).celsplit ∧
    t.mem = s.mem) ∧
  (n < s.dies.length → ∃ t, exec .patrolScrub s = .next t ∧
    (t.die n).corrected = (s.die n).corrected + s.soft.countP (scrubMeets n ev.kind false) ∧
    (t.soft.any fun e => scrubMeets n ev.kind false e) = false ∧ t.mem = s.mem ∧
    (t.die n).eccLog = (s.die n).eccLog + (if ev.kind = 0 then s.soft.countP (scrubMeets n ev.kind true) else 0)) ∧
  (n < s.clusters.length → ∀ k, (s.cluster n).trigger = some k → k + bits (s.cluster n).obctl 15 0 ≤ s.clock →
    ∃ t, exec .traceFreeze s = .next t ∧ (t.cluster n).frozen = true ∧ (t.cluster n).ring = (s.cluster n).ring ∧ t.mem = s.mem) ∧
  (n < s.clusters.length → ∀ x rest, (s.cluster n).evicted = x :: rest →
    let u := s.setCluster n { s.cluster n with evicted := rest }
    let c := s.cluster n
    (spillHeld s n c.hspillAt 16 = true → gives .countSpill s) ∧
    (spillHeld s n c.hspillAt 16 = false → gives .countSpill (spillEntry u n x)) ∧
    (spillLength c < c.hspillAt + 16 → ∃ t, exec .countSpill s = .next t ∧ (t.cluster n).evicted = rest ∧
      (t.cluster n).hovf = min (c.hovf + x.count) (2 ^ 32 - 1) ∧ (t.cluster n).hspillAt = c.hspillAt ∧ (t.cluster n).hist = c.hist ∧
      t.mem = s.mem))

/-- O54: the resets and the starts: what core reset (R222), which frees what the core's firings have claimed of a chained array (R267), steward reset (R336), a cold start (R411, R412) and a package warm start leave, and
the instants of a die's warm reset that the machine makes itself (R420 to R422). BOOTVEC, the first PC and the destinations come with the event,
and the state after a start that fails is the model's choice (log 34). That a reset or a start leaves 0 in what the spec gives no reset value,
slots and constants among it, is the model's choice too (log 6). -/
def Obligations.ResetsAndStarts : Prop := ∀ (s : State),
  let ev := s.event
  (let core := ev.unit % 2048
   ∃ t, exec .coreReset s = .next t ∧ (t.core core).cfg0 = [] ∧ (t.core core).cfg1 = [] ∧ (t.core core).arr = Arr.init ∧
    (t.core core).txn = Txn.init ∧ (t.core core).l1 = [] ∧ (t.core core).watches = [] ∧ (t.core core).ports = Core.init.ports ∧
    (∀ i < 4, t.elem (core * 4 + i) = Elem.init) ∧
    (let chained := fun (k : Nat) => k = core + 8 ∨ (8 ≤ core % 128 ∧ k + 8 = core)
     (∀ k, chained k → t.core k = { s.core k with arrClaim := (s.core k).arrClaim.filter fun y => y.1 / 4 != core }) ∧
     ∀ k, k ≠ core → ¬chained k → t.core k = s.core k) ∧
    (t.core core).chsel = (s.core core).chsel ∧ (t.core core).chfull = (s.core core).chfull ∧
    (∀ e, e / 4 ≠ core → t.elem e = s.elem e) ∧ t.stewards = s.stewards ∧ t.net = s.net) ∧
  (ev.unit < 21 → s.stewards.length = 21 →
    ∃ t, exec .stewardReset s = .next t ∧ (t.stew ev.unit).pc = s.pkg.bootvec ∧ (t.stew ev.unit).td = false ∧
      (t.stew ev.unit).waiting = none ∧ (t.stew ev.unit).halted = false ∧ t.mem = s.mem ∧ t.elems = s.elems ∧
      (ev.unit < 16 → s.clusters.length = 16 → (t.cluster ev.unit).tq = [] ∧ (t.cluster ev.unit).tf = [] ∧ (t.cluster ev.unit).lost = 0) ∧
      ∀ k, (t.core k).cfg0 = (s.core k).cfg0) ∧
  (∃ t, exec .coldStart s = .next t ∧ t.cores = [] ∧ t.elems = [] ∧ t.homes = [] ∧ t.net = [] ∧ t.presence = [] ∧ t.fused = s.fused ∧
    t.devId = s.devId ∧ t.pkg.starts = s.pkg.starts + 1 ∧ t.pkg.homemask = 0 ∧ t.pkg.pkgrst = 0 ∧ t.clusters = State.reset.clusters ∧
    (bootVerifies s = false → (∀ a < 2 ^ 39, t.readByte a = 0) ∧ (∀ n < 21, (t.stew n).halted = true) ∧ t.pkg.bootvec = 0 ∧
      (∀ d, (t.die d).keys = Die.init.keys) ∧ t.out = .bootFailure :: s.out) ∧
    (bootVerifies s = true → t.out = s.out ∧ t.pkg.measured = measure s ∧ (t.stew 20).halted = false ∧
      (t.stew 20).pc = setBits ev.w2 2 0 0 ∧
      (ev.flag = true → t.pkg.bootvec = setBits ev.w0 2 0 0 ∧
        ∀ n < 20, (t.stew n).halted = false ∧ (t.stew n).pc = setBits ev.w0 2 0 0) ∧
      (ev.flag = false → t.pkg.bootvec = 0 ∧ (∀ n < 20, (t.stew n).halted = true) ∧
        let dest := ev.w3.toNat % 2 ^ 39
        let image := reeveImage s
        t.readBytes dest image.length = image ∧
        ∀ a < 2 ^ 39, a < dest ∨ dest + image.length ≤ a → t.readByte a = 0))) ∧
  (∃ t, exec .packageWarmStart s = .next t ∧ t.cores = [] ∧ t.elems = [] ∧ t.homes = [] ∧ t.net = [] ∧ t.pkg.starts = s.pkg.starts + 1 ∧
    t.pkg.homemask = 0 ∧ (∀ h, (t.engine h).etl = (s.engine h).etl ∧ (t.engine h).queue = []) ∧
    (bootVerifies s = false → t.out = .bootFailure :: s.out ∧ (∀ n < 21, (t.stew n).halted = true) ∧
      (s.cores = [] → (∀ d, (s.die d).l2 = []) → ev.kind = 1 → ∀ a < 2 ^ 39, t.readByte a = s.readByte a) ∧
      (ev.kind ≠ 1 → ∀ a < 2 ^ 39, t.readByte a = 0)) ∧
    (bootVerifies s = true → t.out = s.out ∧ t.pkg.measured = measure s ∧ (t.stew 20).halted = false ∧
      (t.stew 20).pc = setBits ev.w2 2 0 0 ∧ ∀ n < 20, (t.stew n).halted = !ev.flag)) ∧
  (ev.unit < 4 →
    (resetStage s ev.unit = 2 → exec .pkgrstFlushed s = .next (setStage (purgeLines s ev.unit fun _ => true) ev.unit 3)) ∧
    (resetStage s ev.unit = 5 → s.stewards.length = 21 → ∃ t, exec .pkgrstTrained s = .next t ∧ resetStage t ev.unit = 6 ∧
      (∀ n ∈ dieStewards ev.unit, (t.stew n).halted = false ∧ (t.stew n).pc = (s.stew n).pc) ∧
      ∀ d < 4, d ≠ ev.unit → resetStage t d = resetStage s d) ∧
    (resetStage s ev.unit = 7 → ∃ t, exec .pkgrstClear s = .next t ∧ resetStage t ev.unit = 0 ∧ t.pkg.homemask = 0) ∧
    (resetStage s ev.unit = 0 → ∀ i ∈ [Instr.pkgrstFlushed, .pkgrstTrained, .pkgrstClear], exec i s = .next s))

/-- O55: the rows that are part of a steward-mode core's instruction are what its next instruction does, where that is the one that the row
is about, and each completes with its effect (R277, R341, R373, R391, R398, R420, R427, R430, R433, R475): where the address names no other
core's words and the word's rule accepts the value, and, for PKGRST, where the step's condition holds. That such a
row executes the core's next instruction is the model's choice (log 2); the dropped zero bits of ECTX are log 64, the route-table write that waits
is log 100, an ingress term that goes to a home on another device log 9, the cluster of a die service core and of the reeve log 26, FLUSH's wait
and order log 29, which image a lowered FLOOR tests log 135, and the packets that a write of INGB drops log 144. -/
def Obligations.RowsOfStewardInstructions : Prop := ∀ (s t : State) (n : Nat) (i : Instr),
  s.event.unit = n → n < 21 → stewNext s n = some (i, t) →
  let u := ready t (stewActor n)
  let x := Agent.stew n (s.stew n)
  let isMts := fun (o : Ops) (k : Nat) (test : W64 → Prop) => i = .mts o ∧ o.x.toNat % 2 ^ 12 = k ∧ test (word (src s x o .whole o.a false 0))
  let isWrite := fun (o : Ops) (test : CfgAddr → Prop) =>
    (i = .cfgw o ∧ o.x.toNat % 2 = 0 ∧ test (cfgFields (word (src s x o .whole o.a false 0)))) ∨
    (i = .st o ∧ memSpace o = 5 ∧ test (cfgFields (word (memEa s x o / 8))))
  let same := fun (e : Instr) => ∃ v, exec i u = .next v ∧ exec e s = .next v
  (∀ o, isMts o 0x018 (fun v => v.getLsbD 0 = true) → same .tqpopOrdinary) ∧
  (∀ o, isMts o 0x018 (fun v => v.getLsbD 1 = true) → same .tqpopFatal) ∧
  (∀ o, i = .hctlEnable o → (word (src s x o .whole o.a false 0)).getLsbD 62 = true → same .hctlFlush) ∧
  (∀ o, isWrite o (fun a => a.cls = 1 ∧ a.off = 0x30) → same .arrayReleaseWord) ∧
  (∀ o, isWrite o (fun a => a.cls = 3 ∧ a.off = 0) → same .celsplitWrite) ∧
  (∀ o, isWrite o (fun a => a.cls = 3 ∧ a.off = 1) → same .homemaskWrite) ∧
  (∀ o, isWrite o (fun a => a.cls = 3 ∧ 0x440 ≤ a.off ∧ a.off < 0x480) → same .ingbWrite) ∧
  (∀ o, isWrite o (fun a => a.cls = 3 ∧ 0x500 ≤ a.off ∧ a.off < 0x540) → same .deadPeerClear) ∧
  (s.event.kind ≠ 1 → ∀ o, isWrite o (fun a => a.cls = 3 ∧ 0x800 ≤ a.off) → same .routeTableWrite) ∧
  (s.event.kind = 1 → exec .routeTableWrite s = .next (reroute s)) ∧
  (∀ o k, i = .st o → memSpace o = 4 → engineWordAt (memEa s x o) = some (k, 0) → same .ectxWrite) ∧
  (n = 20 → ∀ o a b, isMts o 0x048 (fun v => ∃ d, pkgrstStep s.pkg.pkgrst v = some (d, a, b)) →
    (a = 0 → b = 1 → same .pkgrstDrain) ∧ (a = 1 → b = 0 → same .pkgrstCancel) ∧ (a = 1 → b = 2 → same .pkgrstMask) ∧
    (a = 3 → b = 4 → same .pkgrstLinkdown) ∧ (a = 4 → b = 5 → same .pkgrstReset) ∧ (a = 6 → b = 7 → same .pkgrstReturn)) ∧
  (∀ (y : State) (v : W64) (d a b : Nat), pkgrstStep y.pkg.pkgrst v = some (d, a, b) →
    (stepOk y (d, a, b) = true → pkgrst y v = .ok (makeStep y (d, a, b))) ∧
    (stepOk y (d, a, b) = false → pkgrst y v = .error (Cause.rstseq, v)) ∧
    (b = 2 → makeStep y (d, a, b) = setHomemask (setStage y d 2) (word (2 ^ d))) ∧
    (b ≠ 2 → b ≠ 5 → b ≠ 7 → makeStep y (d, a, b) = setStage y d b)) ∧
  let y := Agent.stew n (u.stew n)
  (∀ o, i = .cfgw o →
    let q : W64 := word (src u y o .whole o.a false 0)
    let v : W64 := word (src u y o .whole o.b false 0)
    let a := cfgFields q
    let done := fun (e : Instr) (w : State) => exec e s = .next (cfgDone w o n 0)
    isWrite o (fun b => b = a) → cfgMalformed q = false → cfgForbidden n a = false →
      (a.cls = 1 → a.off = 0x30 → isFused u a.pkgCore = false → v = 1 → (u.core a.pkgCore).txn.state ≠ .opened →
        ∀ w, releaseArray u a.pkgCore = some w → done .arrayReleaseWord w) ∧
      (a.cls = 3 → a.off = 0 → splitOk u a.die v = true → splitHolds u a.die v = false → done .celsplitWrite (setSplit u a.die v)) ∧
      (a.cls = 3 → a.off = 1 → n = 20 → maskOk v = true → done .homemaskWrite (setHomemask u v)) ∧
      (a.cls = 3 → 0x440 ≤ a.off → a.off < 0x480 → a.die = 0 → n = 20 → (v.getLsbD 63 = true ∨ v = 0) →
        let old := ingb u (a.off - 0x440)
        (old.getLsbD 63 = true → bits v 24 0 < bits old 24 0 → quiescent u (bits old 52 37) = true) →
        ∃ w, done .ingbWrite w ∧ w.mem = u.mem ∧ ((windowOf u (a.off - 0x440)).floors = [] → Tab.get 0 w.pkg.fabric a.off = v) ∧
          ((windowOf u (a.off - 0x440)).packets = [] → w.pkg = (setFabric u a.off v).pkg) ∧
          (homedAway u (bits old 52 37) = false → homedAway u (bits v 52 37) = false →
            ((windowOf u (a.off - 0x440)).packets = [] ∨ bits v 52 37 = bits old 52 37 ∧ v.getLsbD 63 = true ∧ (registered (setFabric u a.off v) v).isSome = true →
              w = setFabric u a.off v) ∧
            (bits v 52 37 = bits old 52 37 → (v.getLsbD 63 = false ∨ registered (setFabric u a.off v) v = none) →
              w = dropWindow (setFabric u a.off v) (a.off - 0x440)))) ∧
      (a.cls = 3 → 0x500 ≤ a.off → a.off < 0x540 → a.die = 0 → n = 20 →
        done .deadPeerClear (setFabric u a.off (Tab.get 0 u.pkg.fabric a.off &&& ~~~v))) ∧
      (a.cls = 3 → 0x800 ≤ a.off → a.die = 0 → n = 20 → s.event.kind ≠ 1 → dieWordBad u 0 a.off v true = false →
        done .routeTableWrite (writeRoute u a.off v))) ∧
  (∀ o k, i = .st o → memSpace o = 4 → engineWordAt (memEa s x o) = some (k, 0) →
    memEa u y o = memEa s x o → memSize o = 8 → (memEa u y o) % 8 = 0 → memEa u y o < 2 ^ 52 →
    n = 20 ∨ n = 16 + k / 64 / 2 → bothReach u (stewDie n) (k / 128) = true → (u.engine k).queue = [] →
    let v : W64 := word (src u y o .whole o.b false 0)
    let w := u.setEngine k { u.engine k with
      ectx := setBits v 38 0 0, faillo := if v.getLsbD 63 then 0 else (u.engine k).faillo }
    exec .ectxWrite s = .next (finish w o ((Agent.stew n (w.stew n)).setScalar o.d 0))) ∧
  (∀ o, i = .mts o → o.x.toNat % 2 ^ 12 = 0x018 →
    let v : W64 := word (src u y o .whole o.a false 0)
    let done := fun (e : Instr) => exec e s = .next (finish (tqpop u n v) o (.stew n ((tqpop u n v).stew n)))
    ((word (src s x o .whole o.a false 0)).getLsbD 0 = true → done .tqpopOrdinary) ∧
    ((word (src s x o .whole o.a false 0)).getLsbD 1 = true → done .tqpopFatal)) ∧
  (∀ o, i = .hctlEnable o → (word (src s x o .whole o.a false 0)).getLsbD 62 = true →
    let v : W64 := word (src u y o .whole o.a false 0)
    let cl := stewCluster n
    let w := u.setCluster cl { u.cluster cl with hen := v.getLsbD 63, hovf := 0 }
    let flushed := if v.getLsbD 62 then flushCounts w cl else w
    (v.getLsbD 62 = true → spillHeld w cl 0 (spillLength (w.cluster cl)) = false) →
    exec .hctlFlush s = .next (finish flushed o (.stew n (flushed.stew n)))) ∧
  (n = 20 → ∀ o d a b, i = .mts o → o.x.toNat % 2 ^ 12 = 0x048 →
    pkgrstStep s.pkg.pkgrst (word (src s x o .whole o.a false 0)) = some (d, a, b) →
    pkgrstStep u.pkg.pkgrst (word (src u y o .whole o.a false 0)) = some (d, a, b) → stepOk u (d, a, b) = true →
    let w := makeStep u (d, a, b)
    let done := fun (e : Instr) => exec e s = .next (finish w o (.stew 20 (w.stew 20)))
    (a = 0 → b = 1 → done .pkgrstDrain) ∧ (a = 1 → b = 0 → done .pkgrstCancel) ∧ (a = 1 → b = 2 → done .pkgrstMask) ∧
    (a = 3 → b = 4 → done .pkgrstLinkdown) ∧ (a = 4 → b = 5 → done .pkgrstReset) ∧ (a = 6 → b = 7 → done .pkgrstReturn))

/-! ## The step, the words and the machine as a whole -/

/-- O56: a step runs the instruction that the word at the PC, or the slot of the firing, decodes to. A steward-mode core takes the word from its
instruction cache, from the flash window, or through the L2 from HBM, where no error is latent and the home does not hold the fetch; the fetch
may fill the line at the PC into the caches, and moves no register; a step sets the next turn and adds nothing else (R32, R52, R96, R335; logs
1 and 2). -/
def Obligations.StepRunsTheDecodedInstruction : Prop :=
  (∀ (s : State) (n : Nat) (i : Instr), n < 21 → s.stewards.length = 21 → s.turn = .run (stewActor n) →
    let st := s.stew n
    let pc := st.pc.toNat
    let u := ready s (stewActor n)
    let bytes := s.readBytes pc 8
    st.halted = false → st.waiting = none →
    (∀ w, icacheWord u n = some w → decode .steward w = .ok i → step s = follow (exec i u)) ∧
    (icacheWord u n = none → decodeBytes .steward bytes = .ok i →
      (inFlash pc 8 = true → ∃ ic, step s = follow (exec i (u.setStew n { st with icache := ic })) ∧
        ∀ a, a / 128 ≠ pc / 128 → Tab.get none ic a = Tab.get none st.icache a) ∧
      (inHbm pc 8 = true → s.soft = [] → poisoned s none pc 8 = false → homeHolds s pc 8 (die := some (stewDie n)) = false →
        ∃ v, step s = follow (exec i v) ∧ v.elems = s.elems ∧ v.actor = stewActor n ∧ v.event = s.event ∧
          ∃ ic, v.stewards = setAt s.stewards n { st with icache := ic }))) ∧
  (∀ (s : State) (e : Nat) (f : Firing) (i : Instr), e < 8192 → isFused s (coreOf e) = false → s.turn = .run (.element e) →
    (s.elem e).firing = some f → f.ended = false → f.slot < 32 → slotErrors s (e * 8 + f.frame.ctx) f.slot = [] →
    decode .firing ((s.core (coreOf e)).ctxWord (e % 4) f.frame.ctx (0x10 + f.slot)) = .ok i →
    step s = follow (exec i (ready s (.element e)))) ∧
  (∀ (s : State) (i : Instr) (e : Event), s.turn = .happen i e → i.code = none → step s = follow (exec i { s with event := e })) ∧
  (∀ (s : State) (k u a b : Nat) (h : Bool), s.turn = .strike k u a b h →
    step s = .next (nextTurn { s with soft := s.soft ++ [softError k u a b h] })) ∧
  (∀ (s : State) (k : Nat), s.turn = .elapse k → step s = .next (nextTurn (passClocks s k)) ∧ (passClocks s k).clock = s.clock + k) ∧
  ∀ (s : State) (a : Actor), (ready s a).mem = s.mem ∧ (ready s a).cores = s.cores ∧ (ready s a).elems = s.elems ∧
    (ready s a).clusters = s.clusters ∧ (ready s a).stewards = s.stewards ∧ (ready s a).pkg = s.pkg ∧ (ready s a).actor = a

/-- O57: words written out from the encodings decode to the instructions that they stand for, in their modes, and a steward-mode word is
refused in firing mode (R32 to R43). -/
def Obligations.WordsDecode : Prop :=
  let ops := fun (e : Bool) (ty : Ty) (sh : Shape) (m : BitVec 2) (d a b : Spec) (x : BitVec 29) =>
    ({ e := e, ty := ty, sh := sh, m := m, d := d, a := a, b := b, x := x } : Ops)
  decode .firing 0x422000C3A7E00000#64 = .ok (.fmul (ops false .f32 .scalar 0 (.t 0) .il .imm 0x07E00000)) ∧
  decode .firing 0x01088403BFFFFFFB#64 = .ok (.add (ops false .b32 .scalar 1 (.t 2) (.t 0) .imm 0x1FFFFFFB)) ∧
  decode .firing 0x432006C201800000#64 = .ok (.ffma (ops false .f32 .scalar 0 (.t 3) .il (.k 0) 0x01800000)) ∧
  decode .firing 0x90883EC382860000#64 = .ok (.send (ops true .b32 .scalar 0 .nul .il .zero 0x02860000)) ∧
  decode .firing 0xC32214E240000000#64 = .ok (.mxdrn (ops false .f32 .vector 0 (.v 2) .zero (.k 2) 0)) ∧
  decode .firing 0xCC02024120000000#64 = .ok (.isect (ops false .b64 .vector 0 (.t 1) (.v 0) (.v 1) 0)) ∧
  decode .steward 0xE3003F24A0000003#64 = .ok (.beq (ops false .b64 .scalar 0 .nul (.g 4) (.g 5) 3)) ∧
  decode .steward 0xF20044E380000014#64 = .ok (.mfs (ops false .b64 .scalar 0 (.g 2) .zero .zero 0x14)) ∧
  decode .steward 0xF40071AEC0000001#64 = .ok (.cfgw (ops false .b64 .scalar 0 (.g 24) (.g 21) (.g 22) 1)) ∧
  decode .steward 0xFA004F1B80000001#64 = .ok (.unparkDrop (ops false .b64 .scalar 0 (.g 7) (.g 3) .zero 1)) ∧
  decode .steward 0xE0003EE39FFFFFF5#64 = .ok (.br (ops false .b64 .scalar 0 .nul .zero .zero 0x1FFFFFF5)) ∧
  decode .firing 0xE0003EE39FFFFFF5#64 = .error .mode

/-- O58: decoding and encoding agree. A word decodes to an instruction in a mode exactly where the instruction is well-formed in that mode and
its encoding is that word: no bit of a word is dropped, and no two words are one instruction (R32, R49). -/
def Obligations.DecodeAndEncodeAgree : Prop := ∀ (mode : Mode) (w : W64) (i : Instr),
  decode mode w = .ok i ↔ i.WellFormed mode = true ∧ encode i = some w

/-- O59: every step keeps the canonical form: the package has its 16 clusters, 4 dies and 21 steward-mode cores, and memory, presence bits,
cores, elements and home aggregators are tables with rising keys and no entry that an absent key reads as (R1, R2; log 2). -/
def Obligations.StepKeepsCanonicalForm : Prop := ∀ (s t : State), Safety.Canonical s → step s = .next t → Safety.Canonical t

/-- O60: the machine after reset: canonical, every context invalid, every matching store, port, cache, trap queue and presence bit empty, every
steward's registers zero, HLIMIT 1000, PINTHR 64, CELSPLIT and HOMEMASK 0, memory zero (R222, R336, R391, R411). That every steward-mode
core starts with PC 0 is the model's choice (log 6), and so is that memory the spec does not call zero reads 0 (log 3). -/
def Obligations.ResetState : Prop :=
  let r := State.reset
  Safety.Canonical r ∧
  (∀ e c, ctxValid r e c = false) ∧
  (∀ e, (r.elem e).frames = [] ∧ (r.elem e).firing = none ∧ (r.elem e).traps = []) ∧
  (∀ c, (r.core c).deferred = [] ∧ (r.core c).watches = [] ∧ (r.core c).l1 = [] ∧ (r.core c).txn = Txn.init ∧
    (r.core c).chains = [none, none, none, none] ∧ (r.core c).ports = List.replicate 8 { held := false, kept := none, since := 0, reqs := [] } ∧
    (∀ k, Tab.get 0 (r.core c).cfg1 k = 0 ∧ Tab.get 0 (r.core c).wva k = 0 ∧ Tab.get 0 (r.core c).wlen k = 0 ∧
      Tab.get 0 (r.core c).wpa k = 0) ∧ (r.core c).ccycleBase = 0 ∧ (r.core c).eccScr = 0 ∧ (r.core c).eccL1 = 0 ∧ (r.core c).eccObuf = 0) ∧
  r.clock = 0 ∧
  (∀ a, r.readByte a = 0 ∧ r.present a = false) ∧
  (∀ n < 21, (r.stew n).g = List.replicate 32 0 ∧ (r.stew n).td = false ∧ (r.stew n).csel = 0 ∧ (r.stew n).tvec = 0 ∧
    (r.stew n).evLoad = false ∧ (r.stew n).evDrained = false ∧ (r.stew n).pc = 0 ∧ (r.stew n).halted = false) ∧
  (∀ c < 16, (r.cluster c).tq = [] ∧ (r.cluster c).tf = [] ∧ (r.cluster c).lost = 0 ∧ cycleOf r c = 0) ∧
  (∀ d < 4, (r.die d).celsplit = 0 ∧ (r.die d).hlimit = 1000 ∧ (r.die d).pinthr = 64) ∧
  r.pkg.homemask = 0
end

