-- ==== Sys2Proof/Laws/Blocks.lean ====
section
/-! SUPPORT. Writes of blocks in HBM by steward-mode cores never fail: whole sectors meet no latent error. -/

namespace Sys2Proof.Machine
theorem testBit_run {p q i : Nat} (h : (2 ^ p - 2 ^ q).testBit i = true) : q ≤ i ∧ i < p := by
  rcases Nat.lt_or_ge p q with hpq | hpq
  · rw [Nat.sub_eq_zero_of_le (Nat.pow_le_pow_right (by omega) (by omega))] at h
    simp at h
  · rw [show 2 ^ p - 2 ^ q = (2 ^ (p - q) - 1) * 2 ^ q by rw [Nat.sub_mul, ← Nat.pow_add, Nat.sub_add_cancel hpq]; simp] at h
    simp [Nat.testBit_mul_two_pow, Nat.testBit_two_pow_sub_one] at h
    omega
/-- The sectors of a run of whole sectors lie within it. -/
theorem sectorMask_inside {pa n line i : Nat} (ha : pa % 16 = 0) (hn : n % 16 = 0) (h : (sectorMask pa n line).testBit i = true) :
    pa ≤ line * 128 + 16 * i ∧ line * 128 + 16 * i + 16 ≤ pa + n := by
  simp only [sectorMask] at h
  split at h
  · simp at h
  · have := testBit_run h
    omega
theorem partMask_whole {pa n : Nat} (line : Nat) (ha : pa % 16 = 0) (hn : n % 16 = 0) : partMask pa n line = 0 := by
  have : (maskSectors (sectorMask pa n line)).filter
      (fun i => let a := line * 128 + 16 * i; decide (a < pa) || decide (pa + n < a + 16)) = [] := by
    simp only [List.filter_eq_nil_iff, maskSectors, List.mem_filter]
    rintro i ⟨-, h⟩
    have := sectorMask_inside ha hn h
    simp
    omega
  rw [partMask, this]
  rfl
theorem writeAt_hbm (s : State) (who : Issuer) (a : Nat) (bs : List Byte) (ea : Nat) (h : a + bs.length ≤ 2 ^ 39)
    (ha : a % 16 = 0) (hn : bs.length % 16 = 0) :
    writeAt s who none a bs ea = (storeBytes (homeTouch s a bs.length true) a bs, .ok ()) := by
  have h0 : scrBase = 2 ^ 52 := rfl
  have h1 : ¬ scrBase ≤ a := by omega
  have h2 : ¬ celBase ≤ a := by
    have : scrBase ≤ celBase := by decide
    omega
  have h3 : inHbm a bs.length = true := by simp [inHbm]; omega
  simp [writeAt, enterStore, storeMeets, holdsBytes, h1, h2, h3, partMask_whole _ ha hn, maskSectors]
theorem writeBlocks_ok (n : Nat) : ∀ (bs : List (List Byte)) (a : Nat) (s : State), a + bs.flatten.length ≤ 2 ^ 39 →
    a % 16 = 0 → (∀ b ∈ bs, b.length % 16 = 0) → ∃ t, writeBlocks n a bs s = .ok t
  | [], _, s, _, _, _ => ⟨s, rfl⟩
  | b :: rest, a, s, h, ha, hb => by
    simp only [List.flatten_cons, List.length_append] at h
    have hn := hb b (by simp)
    rw [writeBlocks, writeAt_hbm _ _ _ _ _ (by omega) ha hn]
    exact writeBlocks_ok n rest _ _ (by omega) (by omega) fun x hx => hb x (by simp [hx])
end Sys2Proof.Machine
end

