-- ==== Sys2Proof/Laws/Table.lean ====
section
/-! SUPPORT. Sparse tables: what a key reads as after a write, and that a write keeps the canonical form. -/

namespace Sys2Proof

variable {α : Type} [DecidableEq α] {d : α}

/-- A table whose keys are above a bound is canonical whatever smaller bound is asked for. -/
theorem Tab.wfFrom_mono {t : Tab α} {lo lo' : Nat} (h : Tab.wfFrom d (some lo) t = true) (hl : lo' ≤ lo) :
    Tab.wfFrom d (some lo') t = true := by
  cases t with
  | nil => rfl
  | cons p rest =>
    obtain ⟨k, v⟩ := p
    simp only [Tab.wfFrom, Bool.and_eq_true, decide_eq_true_eq] at h ⊢
    exact ⟨⟨by omega, h.1.2⟩, h.2⟩

/-- A table canonical above a bound is canonical. -/
theorem Tab.wf_of_wfFrom {t : Tab α} {lo : Nat} (h : Tab.wfFrom d (some lo) t = true) : Tab.wf d t = true := by
  cases t with
  | nil => rfl
  | cons p rest =>
    obtain ⟨k, v⟩ := p
    simp only [Tab.wf, Tab.wfFrom, Bool.and_eq_true, decide_eq_true_eq, Bool.true_and] at h ⊢
    exact ⟨h.1.2, h.2⟩

/-- The head and the tail of a canonical table. -/
theorem Tab.wf_cons {k : Nat} {v : α} {rest : Tab α} :
    Tab.wf d ((k, v) :: rest) = true ↔ v ≠ d ∧ Tab.wfFrom d (some k) rest = true := by
  simp [Tab.wf, Tab.wfFrom]

theorem Tab.wfFrom_cons {lo k : Nat} {v : α} {rest : Tab α} :
    Tab.wfFrom d (some lo) ((k, v) :: rest) = true ↔ lo < k ∧ v ≠ d ∧ Tab.wfFrom d (some k) rest = true := by
  simp [Tab.wfFrom, and_assoc]

/-- Leaving out entries keeps a table canonical above a bound. -/
theorem Tab.wfFrom_filter {p : Nat × α → Bool} : ∀ {t : Tab α} {lo : Nat}, Tab.wfFrom d (some lo) t = true →
    Tab.wfFrom d (some lo) (t.filter p) = true
  | [], _, _ => rfl
  | (k, v) :: rest, lo, h => by
    obtain ⟨h1, h2, h3⟩ := Tab.wfFrom_cons.mp h
    rw [List.filter_cons]
    split
    · exact Tab.wfFrom_cons.mpr ⟨h1, h2, Tab.wfFrom_filter h3⟩
    · exact Tab.wfFrom_mono (Tab.wfFrom_filter h3) (by omega)

/-- Leaving out entries keeps the canonical form. -/
theorem Tab.wf_filter {t : Tab α} {p : Nat × α → Bool} (h : Tab.wf d t = true) : Tab.wf d (t.filter p) = true := by
  cases t with
  | nil => rfl
  | cons q rest =>
    obtain ⟨k, v⟩ := q
    obtain ⟨h2, h3⟩ := Tab.wf_cons.mp h
    rw [List.filter_cons]
    split
    · exact Tab.wf_cons.mpr ⟨h2, Tab.wfFrom_filter h3⟩
    · exact Tab.wf_of_wfFrom (Tab.wfFrom_filter h3)

/-- Leaving out a key keeps a table canonical above a bound. -/
theorem Tab.wfFrom_without {t : Tab α} {lo i : Nat} (h : Tab.wfFrom d (some lo) t = true) : Tab.wfFrom d (some lo) (t.without i) = true :=
  Tab.wfFrom_filter h

/-- Listing a new key above a bound keeps a table canonical above it. -/
theorem Tab.wfFrom_insert {i : Nat} {x : α} (hx : x ≠ d) : ∀ {t : Tab α} {lo : Nat}, lo < i → (∀ p ∈ t, p.1 ≠ i) →
    Tab.wfFrom d (some lo) t = true → Tab.wfFrom d (some lo) (Tab.insert t i x) = true
  | [], lo, hi, _, _ => by simp [Tab.insert, Tab.wfFrom, hi, hx]
  | (k, v) :: rest, lo, hi, hn, h => by
    obtain ⟨h1, h2, h3⟩ := Tab.wfFrom_cons.mp h
    have hk : k ≠ i := hn (k, v) (by simp)
    unfold Tab.insert
    split
    · exact Tab.wfFrom_cons.mpr ⟨hi, hx, Tab.wfFrom_cons.mpr ⟨‹_›, h2, h3⟩⟩
    · exact Tab.wfFrom_cons.mpr ⟨h1, h2, Tab.wfFrom_insert hx (by omega) (fun p hp => hn p (by simp [hp])) h3⟩

omit [DecidableEq α] in
theorem Tab.without_ne {t : Tab α} {i : Nat} : ∀ p ∈ t.without i, p.1 ≠ i := by
  intro p hp
  simpa using (List.mem_filter.mp hp).2

/-- A write above a bound keeps a table canonical above it. -/
theorem Tab.wfFrom_set {t : Tab α} {lo i : Nat} {x : α} (hi : lo < i) (h : Tab.wfFrom d (some lo) t = true) :
    Tab.wfFrom d (some lo) (Tab.set d t i x) = true := by
  unfold Tab.set
  split
  · exact Tab.wfFrom_without h
  · exact Tab.wfFrom_insert ‹_› hi Tab.without_ne (Tab.wfFrom_without h)

/-- A write keeps the canonical form. -/
theorem Tab.wf_set {t : Tab α} {i : Nat} {x : α} (h : Tab.wf d t = true) : Tab.wf d (Tab.set d t i x) = true := by
  have hw : Tab.wf d (t.without i) = true := Tab.wf_filter h
  unfold Tab.set
  split
  · exact hw
  · have hn := Tab.without_ne (t := t) (i := i)
    revert hw hn
    cases t.without i with
    | nil => intros; simp [Tab.insert, Tab.wf, Tab.wfFrom, *]
    | cons p rest =>
      obtain ⟨k, v⟩ := p
      intro hw hn
      obtain ⟨h2, h3⟩ := Tab.wf_cons.mp hw
      have hk : k ≠ i := hn (k, v) (by simp)
      unfold Tab.insert
      split
      · exact Tab.wf_cons.mpr ⟨‹_›, Tab.wfFrom_cons.mpr ⟨‹_›, h2, h3⟩⟩
      · exact Tab.wf_cons.mpr ⟨h2, Tab.wfFrom_insert ‹_› (by omega) (fun p hp => hn p (by simp [hp])) h3⟩

omit [DecidableEq α] in
/-- A key that is left out reads as the default. -/
@[simp] theorem Tab.get_without_self {t : Tab α} {i : Nat} : Tab.get d (t.without i) i = d := by
  induction t with
  | nil => rfl
  | cons p rest ih =>
    obtain ⟨k, v⟩ := p
    by_cases hk : k = i
    · simpa [Tab.without, List.filter_cons, hk] using ih
    · simpa [Tab.without, List.filter_cons, hk, Tab.get, Ne.symm hk] using ih

omit [DecidableEq α] in
/-- Leaving out a key leaves every other one as it was. -/
theorem Tab.get_without_ne {t : Tab α} {i j : Nat} (hij : j ≠ i) : Tab.get d (t.without i) j = Tab.get d t j := by
  induction t with
  | nil => rfl
  | cons p rest ih =>
    obtain ⟨k, v⟩ := p
    by_cases hk : k = i
    · have hj : j ≠ k := fun h => hij (h.trans hk)
      simpa [Tab.without, List.filter_cons, hk, Tab.get, hj, hij] using ih
    · simp only [Tab.without, List.filter_cons, bne_iff_ne, ne_eq, hk, not_false_eq_true, if_true, Tab.get] at ih ⊢
      rw [ih]

omit [DecidableEq α] in
theorem Tab.get_insert_self {i : Nat} {x : α} : ∀ {t : Tab α}, (∀ p ∈ t, p.1 ≠ i) → Tab.get d (Tab.insert t i x) i = x
  | [], _ => by simp [Tab.insert, Tab.get]
  | (k, v) :: rest, hn => by
    have hk : k ≠ i := hn (k, v) (by simp)
    unfold Tab.insert
    split
    · simp [Tab.get]
    · have ih := Tab.get_insert_self (x := x) (t := rest) fun p hp => hn p (List.mem_cons_of_mem _ hp)
      simp [Tab.get, Ne.symm hk, ih]

omit [DecidableEq α] in
theorem Tab.get_insert_ne {i j : Nat} {x : α} (hij : j ≠ i) : ∀ {t : Tab α}, Tab.get d (Tab.insert t i x) j = Tab.get d t j
  | [] => by simp [Tab.insert, Tab.get, hij]
  | (k, v) :: rest => by
    unfold Tab.insert
    split
    · simp [Tab.get, hij]
    · simp only [Tab.get, Tab.get_insert_ne hij]

/-- A key reads what was written to it. -/
@[simp] theorem Tab.get_set_self {t : Tab α} {i : Nat} {x : α} : Tab.get d (Tab.set d t i x) i = x := by
  unfold Tab.set
  split
  · simp [*]
  · exact Tab.get_insert_self Tab.without_ne

/-- A write leaves every other key as it was. -/
theorem Tab.get_set_ne {t : Tab α} {i j : Nat} {x : α} (hij : j ≠ i) : Tab.get d (Tab.set d t i x) j = Tab.get d t j := by
  unfold Tab.set
  split
  · exact Tab.get_without_ne hij
  · rw [Tab.get_insert_ne hij, Tab.get_without_ne hij]

omit [DecidableEq α] in
/-- Leaving out the key that has just been listed gives the table back. -/
theorem Tab.without_insert {i : Nat} {x : α} : ∀ {t : Tab α}, (∀ p ∈ t, p.1 ≠ i) → (Tab.insert t i x).without i = t
  | [], _ => by simp [Tab.insert, Tab.without]
  | (k, v) :: rest, hn => by
    have hk : k ≠ i := hn (k, v) (by simp)
    have hr : ∀ p ∈ rest, p.1 ≠ i := fun p hp => hn p (List.mem_cons_of_mem _ hp)
    unfold Tab.insert
    split
    · simpa [Tab.without, hk, List.filter_eq_self] using fun a b hp => hr (a, b) hp
    · have ih := Tab.without_insert (x := x) hr
      simp only [Tab.without, List.filter_cons, bne_iff_ne, ne_eq, hk, not_false_eq_true, if_true] at ih ⊢
      rw [ih]

/-- Of two writes of a key, the second stands. -/
@[simp] theorem Tab.set_set {t : Tab α} {i : Nat} {x y : α} : Tab.set d (Tab.set d t i x) i y = Tab.set d t i y := by
  have h : (Tab.set d t i x).without i = t.without i := by
    unfold Tab.set
    split
    · simp [Tab.without, List.filter_filter]
    · exact Tab.without_insert Tab.without_ne
  unfold Tab.set at h ⊢
  rw [h]

/-- A change of the values that keeps the default changes what every key reads as. -/
theorem Tab.get_mapVals {f : Nat → α → α} {i : Nat} (hf : f i d = d) : ∀ {t : Tab α}, Tab.get d (t.mapVals d f) i = f i (Tab.get d t i)
  | [] => by simp [Tab.mapVals, Tab.get, hf]
  | (k, v) :: rest => by
    unfold Tab.mapVals
    split
    · by_cases hk : i = k
      · subst hk; simp [Tab.get, *]
      · rw [Tab.get_without_ne hk, Tab.get_mapVals hf]; simp [Tab.get, hk]
    · by_cases hk : i = k
      · subst hk; simp [Tab.get]
      · simp [Tab.get, hk, Tab.get_mapVals hf]

omit [DecidableEq α] in
/-- Leaving out keys by a test on the key: the others read as before. -/
theorem Tab.get_filter {p : Nat → Bool} {i : Nat} : ∀ (t : Tab α),
    Tab.get d (t.filter fun q => p q.1) i = if p i then Tab.get d t i else d
  | [] => by simp [Tab.get]
  | (k, v) :: rest => by
    have ih := Tab.get_filter (p := p) (i := i) rest
    rw [List.filter_cons]
    by_cases hk : i = k
    · subst hk
      by_cases hp : p i <;> simp [hp, Tab.get] at ih ⊢
      exact ih
    · by_cases hp : p k <;> simp [hp, Tab.get, hk, ih]

/-- Changing the values keeps a table canonical above a bound. -/
theorem Tab.wfFrom_mapVals {f : Nat → α → α} : ∀ {t : Tab α} {lo : Nat}, Tab.wfFrom d (some lo) t = true →
    Tab.wfFrom d (some lo) (t.mapVals d f) = true
  | [], _, _ => rfl
  | (k, v) :: rest, lo, h => by
    obtain ⟨h1, _, h3⟩ := Tab.wfFrom_cons.mp h
    unfold Tab.mapVals
    split
    · exact Tab.wfFrom_without (Tab.wfFrom_mono (Tab.wfFrom_mapVals h3) (by omega))
    · exact Tab.wfFrom_cons.mpr ⟨h1, ‹_›, Tab.wfFrom_mapVals h3⟩

/-- Changing the values keeps the canonical form. -/
theorem Tab.wf_mapVals {t : Tab α} {f : Nat → α → α} (h : Tab.wf d t = true) : Tab.wf d (t.mapVals d f) = true := by
  cases t with
  | nil => rfl
  | cons q rest =>
    obtain ⟨k, v⟩ := q
    obtain ⟨_, h3⟩ := Tab.wf_cons.mp h
    unfold Tab.mapVals
    split
    · exact Tab.wf_filter (Tab.wf_of_wfFrom (Tab.wfFrom_mapVals h3))
    · exact Tab.wf_cons.mpr ⟨‹_›, Tab.wfFrom_mapVals h3⟩

end Sys2Proof
end

