-- ==== Sys2Proof/Laws/Canonical.lean ====
section
/-! SUPPORT. The writes that every operation is made of keep the canonical form of a state. -/

namespace Sys2Proof.Safety

open Machine

variable {s : State}

/-- A change of a list at a place keeps its length. -/
@[simp] theorem length_setAt {α : Type} (l : List α) (n : Nat) (x : α) : (setAt l n x).length = l.length := List.length_set

theorem Canonical.setCore (h : Canonical s) (c : Nat) (x : Core) : Canonical (s.setCore c x) := by
  obtain ⟨h1, h2, h3, h4, h5, h6, h7, h8⟩ := h
  exact ⟨h1, h2, Tab.wf_set h3, h4, h5, h6, h7, h8⟩

theorem Canonical.setElem (h : Canonical s) (e : Nat) (x : Elem) : Canonical (s.setElem e x) := by
  obtain ⟨h1, h2, h3, h4, h5, h6, h7, h8⟩ := h
  exact ⟨h1, h2, h3, Tab.wf_set h4, h5, h6, h7, h8⟩

theorem Canonical.setHome (h : Canonical s) (i : Nat) (x : Home) : Canonical (s.setHome i x) := by
  obtain ⟨h1, h2, h3, h4, h5, h6, h7, h8⟩ := h
  exact ⟨h1, h2, h3, h4, Tab.wf_set h5, h6, h7, h8⟩

theorem Canonical.setCluster (h : Canonical s) (c : Nat) (x : Cluster) : Canonical (s.setCluster c x) := by
  obtain ⟨h1, h2, h3, h4, h5, h6, h7, h8⟩ := h
  exact ⟨h1, h2, h3, h4, h5, (length_setAt ..).trans h6, h7, h8⟩

theorem Canonical.setDie (h : Canonical s) (d : Nat) (x : Die) : Canonical (s.setDie d x) := by
  obtain ⟨h1, h2, h3, h4, h5, h6, h7, h8⟩ := h
  exact ⟨h1, h2, h3, h4, h5, h6, (length_setAt ..).trans h7, h8⟩

theorem Canonical.setStew (h : Canonical s) (n : Nat) (x : Stew) : Canonical (s.setStew n x) := by
  obtain ⟨h1, h2, h3, h4, h5, h6, h7, h8⟩ := h
  exact ⟨h1, h2, h3, h4, h5, h6, h7, (length_setAt ..).trans h8⟩

theorem Canonical.setEngine (h : Canonical s) (n : Nat) (x : Engine) : Canonical (s.setEngine n x) := h

theorem Canonical.setPresent (h : Canonical s) (a : Nat) (b : Bool) : Canonical (s.setPresent a b) := by
  obtain ⟨h1, h2, h3, h4, h5, h6, h7, h8⟩ := h
  exact ⟨h1, Tab.wf_set h2, h3, h4, h5, h6, h7, h8⟩

theorem Canonical.writeByte (h : Canonical s) (a : Nat) (b : Byte) : Canonical (s.writeByte a b) := by
  obtain ⟨h1, h2, h3, h4, h5, h6, h7, h8⟩ := h
  exact ⟨Tab.wf_set h1, h2, h3, h4, h5, h6, h7, h8⟩

theorem Canonical.writeBytes (h : Canonical s) (a : Nat) (bs : List Byte) : Canonical (s.writeBytes a bs) := by
  induction bs generalizing s a with
  | nil => exact h
  | cons b rest ih => exact ih (h.writeByte a b) (a + 1)

theorem Canonical.writeNum (h : Canonical s) (a n v : Nat) : Canonical (s.writeNum a n v) := h.writeBytes a _

/-- A fold of a change that keeps the canonical form keeps it. -/
theorem Canonical.foldl {β : Type} {f : State → β → State} (hf : ∀ s b, Canonical s → Canonical (f s b)) (l : List β) (h : Canonical s) :
    Canonical (l.foldl f s) := by
  induction l generalizing s with
  | nil => exact h
  | cons b rest ih => exact ih (hf s b h)

/-- The energy of an instruction and the agent that runs it leave the form alone. -/
theorem Canonical.ready (h : Canonical s) (a : Actor) : Canonical (ready s a) := by
  unfold Safety.ready chargeEnergy
  cases a with
  | steward n => exact h.setDie _ _
  | dsc d => exact h
  | reeve => exact h
  | element e =>
    simp only
    split <;> exact h.setDie _ _

/-- The setting of the next turn leaves the form alone. -/
theorem Canonical.nextTurn (h : Canonical s) : Canonical (nextTurn s) := by
  unfold Machine.nextTurn
  split <;> exact h

/-- An outcome keeps the canonical form where its next state, if it is one, has it. -/
def KeepsForm (r : Host.Outcome State Fault Refusal) : Prop := ∀ t, r = .next t → Canonical t

theorem KeepsForm.next (h : Canonical s) : KeepsForm (.next s) := by
  intro t e
  cases e
  exact h

theorem KeepsForm.fault (f : Fault) : KeepsForm (.fault f) := by
  intro t e
  cases e

theorem KeepsForm.refused (r : Refusal) : KeepsForm (.refused r) := by
  intro t e
  cases e

/-- A step keeps the form where its instruction does. -/
theorem KeepsForm.follow {r : Host.Outcome State Fault Refusal} (h : KeepsForm r) : KeepsForm (follow r) := by
  intro t e
  cases r with
  | next u =>
    cases e
    exact (h u rfl).nextTurn
  | fault f => cases e
  | refused x => cases e

end Sys2Proof.Safety
end

