-- ==== Sys2Proof/Laws/Encoding.lean ====
section
/-! SUPPORT. The codes of fields, the fields of an encoded word, and the opcode and fields of a decoded instruction. -/

namespace Sys2Proof.Laws

open Machine (SubCause opRow Row)

/-! ## Codes of fields -/

theorem spec_code_lt (p : Spec) : Machine.Spec.code p < 64 := by
  cases p <;> simp only [Machine.Spec.code] <;> omega

theorem spec_ofCode_code (p : Spec) : Machine.Spec.ofCode (Machine.Spec.code p) = p := by
  cases p with
  | t i => revert i; decide
  | v i => revert i; decide
  | k i => revert i; decide
  | g i => revert i; decide
  | _ => rfl

theorem spec_code_ofCode : ∀ n : Fin 64, Machine.Spec.code (Machine.Spec.ofCode n.val) = n.val := by decide

theorem ty_code_lt (t : Ty) : Machine.Ty.code t < 16 := by cases t <;> decide

theorem ty_ofCode_code (t : Ty) : Machine.Ty.ofCode (Machine.Ty.code t) = some t := by cases t <;> rfl

theorem ty_code_ofCode {n : Nat} {t : Ty} (h : Machine.Ty.ofCode n = some t) : Machine.Ty.code t = n := by
  unfold Machine.Ty.ofCode at h
  split at h <;> cases h <;> rfl

theorem shape_code_lt (p : Shape) : Machine.Shape.code p < 4 := by cases p <;> decide

theorem shape_ofCode_code (p : Shape) : Machine.Shape.ofCode (Machine.Shape.code p) = some p := by cases p <;> rfl

theorem shape_code_ofCode {n : Nat} {p : Shape} (h : Machine.Shape.ofCode n = some p) : Machine.Shape.code p = n := by
  unfold Machine.Shape.ofCode at h
  split at h <;> cases h <;> rfl

/-! ## Fields of an encoded word -/

/-- The number that an opcode and fields encode, before it is a word. -/
theorem encodeFields_toNat {op : Nat} (h : op < 256) (o : Ops) : (encodeFields op o).toNat =
    op * 2 ^ 56 + (if o.e then 2 ^ 55 else 0) + Machine.Ty.code o.ty * 2 ^ 51 + Machine.Shape.code o.sh * 2 ^ 49 + o.m.toNat * 2 ^ 47
      + Machine.Spec.code o.d * 2 ^ 41 + Machine.Spec.code o.a * 2 ^ 35 + Machine.Spec.code o.b * 2 ^ 29 + o.x.toNat := by
  have h1 := ty_code_lt o.ty
  have h2 := shape_code_lt o.sh
  have h3 := spec_code_lt o.d
  have h4 := spec_code_lt o.a
  have h5 := spec_code_lt o.b
  have h6 := o.m.isLt
  have h7 := o.x.isLt
  simp only [encodeFields, BitVec.toNat_ofNat]
  apply Nat.mod_eq_of_lt
  split <;> omega

theorem encodeFields_opcode {op : Nat} (h : op < 256) (o : Ops) : wordField (encodeFields op o) 63 56 = op := by
  have h1 := ty_code_lt o.ty
  have h2 := shape_code_lt o.sh
  have h3 := spec_code_lt o.d
  have h4 := spec_code_lt o.a
  have h5 := spec_code_lt o.b
  have h6 := o.m.isLt
  have h7 := o.x.isLt
  simp only [wordField, encodeFields_toNat h, Nat.shiftRight_eq_div_pow]
  split <;> omega

theorem encodeFields_type {op : Nat} (h : op < 256) (o : Ops) : wordField (encodeFields op o) 54 51 = Machine.Ty.code o.ty := by
  have h1 := ty_code_lt o.ty
  have h2 := shape_code_lt o.sh
  have h3 := spec_code_lt o.d
  have h4 := spec_code_lt o.a
  have h5 := spec_code_lt o.b
  have h6 := o.m.isLt
  have h7 := o.x.isLt
  simp only [wordField, encodeFields_toNat h, Nat.shiftRight_eq_div_pow]
  split <;> omega

theorem encodeFields_shape {op : Nat} (h : op < 256) (o : Ops) : wordField (encodeFields op o) 50 49 = Machine.Shape.code o.sh := by
  have h1 := ty_code_lt o.ty
  have h2 := shape_code_lt o.sh
  have h3 := spec_code_lt o.d
  have h4 := spec_code_lt o.a
  have h5 := spec_code_lt o.b
  have h6 := o.m.isLt
  have h7 := o.x.isLt
  simp only [wordField, encodeFields_toNat h, Nat.shiftRight_eq_div_pow]
  split <;> omega

theorem encodeFields_end {op : Nat} (h : op < 256) (o : Ops) : (encodeFields op o).toNat.testBit 55 = o.e := by
  have h1 := ty_code_lt o.ty
  have h2 := shape_code_lt o.sh
  have h3 := spec_code_lt o.d
  have h4 := spec_code_lt o.a
  have h5 := spec_code_lt o.b
  have h6 := o.m.isLt
  have h7 := o.x.isLt
  rw [encodeFields_toNat h, Nat.testBit_eq_decide_div_mod_eq]
  cases o.e
  · simp; omega
  · simp; omega

/-- The other fields of an encoded word are those that it was made from. -/
theorem wordOps_encodeFields {op : Nat} (h : op < 256) (o : Ops) : wordOps (encodeFields op o) o.ty o.sh = o := by
  have h1 := ty_code_lt o.ty
  have h2 := shape_code_lt o.sh
  have h3 := spec_code_lt o.d
  have h4 := spec_code_lt o.a
  have h5 := spec_code_lt o.b
  have h6 := o.m.isLt
  have h7 := o.x.isLt
  have hm : wordField (encodeFields op o) 48 47 = o.m.toNat := by
    simp only [wordField, encodeFields_toNat h, Nat.shiftRight_eq_div_pow]; split <;> omega
  have hd : wordField (encodeFields op o) 46 41 = Machine.Spec.code o.d := by
    simp only [wordField, encodeFields_toNat h, Nat.shiftRight_eq_div_pow]; split <;> omega
  have ha : wordField (encodeFields op o) 40 35 = Machine.Spec.code o.a := by
    simp only [wordField, encodeFields_toNat h, Nat.shiftRight_eq_div_pow]; split <;> omega
  have hb : wordField (encodeFields op o) 34 29 = Machine.Spec.code o.b := by
    simp only [wordField, encodeFields_toNat h, Nat.shiftRight_eq_div_pow]; split <;> omega
  have hx : wordField (encodeFields op o) 28 0 = o.x.toNat := by
    simp only [wordField, encodeFields_toNat h, Nat.shiftRight_eq_div_pow]; split <;> omega
  simp only [wordOps, hm, hd, ha, hb, hx, encodeFields_end h, spec_ofCode_code, BitVec.ofNat_toNat, BitVec.setWidth_eq]

/-- The number of a word is the sum of its fields at their places. -/
theorem fields_sum (n : Nat) (h : n < 2 ^ 64) :
    n / 2 ^ 56 % 256 * 2 ^ 56 + n / 2 ^ 55 % 2 * 2 ^ 55 + n / 2 ^ 51 % 16 * 2 ^ 51 + n / 2 ^ 49 % 4 * 2 ^ 49 + n / 2 ^ 47 % 4 * 2 ^ 47
      + n / 2 ^ 41 % 64 * 2 ^ 41 + n / 2 ^ 35 % 64 * 2 ^ 35 + n / 2 ^ 29 % 64 * 2 ^ 29 + n % 2 ^ 29 = n := by
  omega

/-- A word is what its fields encode. -/
theorem encodeFields_wordOps (w : W64) {ty : Ty} {sh : Shape} (ht : Machine.Ty.ofCode (wordField w 54 51) = some ty)
    (hs : Machine.Shape.ofCode (wordField w 50 49) = some sh) : encodeFields (wordField w 63 56) (wordOps w ty sh) = w := by
  have sp : ∀ n < 64, Machine.Spec.code (Machine.Spec.ofCode n) = n := fun n h => spec_code_ofCode ⟨n, h⟩
  apply BitVec.eq_of_toNat_eq
  have hop : wordField w 63 56 < 256 := Nat.mod_lt _ (by decide)
  rw [encodeFields_toNat hop]
  have hk : (if (wordOps w ty sh).e then 2 ^ 55 else 0) = w.toNat / 2 ^ 55 % 2 * 2 ^ 55 := by
    rw [show (wordOps w ty sh).e = w.toNat.testBit 55 from rfl, Nat.testBit_eq_decide_div_mod_eq]
    rcases Nat.mod_two_eq_zero_or_one (w.toNat / 2 ^ 55) with h | h <;> rw [h] <;> rfl
  have hd := sp (wordField w 46 41) (Nat.mod_lt _ (by decide))
  have ha := sp (wordField w 40 35) (Nat.mod_lt _ (by decide))
  have hb := sp (wordField w 34 29) (Nat.mod_lt _ (by decide))
  rw [hk]
  simp only [wordOps, ty_code_ofCode ht, shape_code_ofCode hs, hd, ha, hb, BitVec.toNat_ofNat]
  clear hk hd ha hb sp hop
  have := fields_sum w.toNat w.isLt
  simp only [Nat.reducePow] at this
  simp only [wordField, Nat.shiftRight_eq_div_pow, Nat.reduceSub, Nat.reduceAdd, Nat.reducePow, Nat.mod_mod, Nat.div_one]
  exact this

/-! ## Opcodes of decoded instructions -/

theorem mtsRow_code {o : Ops} {n : Nat} {i : Instr} (h : mtsRow o n = some i) : i.code = some (0xF3, o) := by
  unfold mtsRow at h
  split at h <;> cases h <;> rfl

theorem mfsRow_code {o : Ops} {n : Nat} {i : Instr} (h : mfsRow o n = some i) : i.code = some (0xF2, o) := by
  unfold mfsRow at h
  split at h <;> cases h <;> rfl

theorem mts_code (o : Ops) (n : Nat) : ((mtsRow o n).getD (.mts o)).code = some (0xF3, o) := by
  cases h : mtsRow o n with
  | none => rfl
  | some i => exact mtsRow_code h

theorem mfs_code (o : Ops) (n : Nat) : ((mfsRow o n).getD (.mfs o)).code = some (0xF2, o) := by
  cases h : mfsRow o n with
  | none => rfl
  | some i => exact mfsRow_code h

theorem ite_code {c : Prop} [Decidable c] {i j : Instr} {op : Nat} {o : Ops} (hi : i.code = some (op, o)) (hj : j.code = some (op, o)) :
    (if c then i else j).code = some (op, o) := by split <;> assumption

set_option maxRecDepth 8000 in
/-- The instruction that an opcode and fields are has that opcode and those fields. -/
theorem code_of_instrOf {mode : Mode} {op : Nat} {o : Ops} {i : Instr} (h : instrOf mode op o = some i) : i.code = some (op, o) := by
  unfold instrOf at h
  split at h <;> cases h <;> first
    | rfl
    | exact mts_code o _
    | (refine ite_code ?_ ?_ <;> first | rfl | exact mfs_code o _ | (refine ite_code ?_ ?_ <;> rfl))

end Sys2Proof.Laws
end

