-- ==== Sys2Proof/Laws/PerInstr.lean ====
section
/-! SUPPORT. Facts about every instruction as syntax, one lemma for each constructor. -/

namespace Sys2Proof.Laws.CodeInTable

/-- Whatever opcode an instruction has, it fits its eight bits and the encoding rules know it. -/
def Statement (i : Instr) : Prop := ∀ op o, i.code = some (op, o) → op < 256 ∧ (Machine.opRow op).isSome = true

/-- An instruction with a given opcode and fields has no other. -/
theorem of_code {i : Instr} {op : Nat} {o : Ops} (h : i.code = some (op, o)) (h1 : op < 256) (h2 : (Machine.opRow op).isSome = true) :
    Statement i := by
  intro op' o' h'
  rw [h] at h'
  cases h'
  exact ⟨h1, h2⟩

/-- An event has no opcode. -/
theorem of_event {i : Instr} (h : i.code = none) : Statement i := by
  intro op o h'
  rw [h] at h'
  cases h'

/-- NOP. -/
theorem nop (o : Ops) : Statement (.nop o) := of_code rfl (by decide) (by decide)
/-- ADD. -/
theorem add (o : Ops) : Statement (.add o) := of_code rfl (by decide) (by decide)
/-- SUB. -/
theorem sub (o : Ops) : Statement (.sub o) := of_code rfl (by decide) (by decide)
/-- MUL. -/
theorem mul (o : Ops) : Statement (.mul o) := of_code rfl (by decide) (by decide)
/-- MULHS. -/
theorem mulhs (o : Ops) : Statement (.mulhs o) := of_code rfl (by decide) (by decide)
/-- MULHU. -/
theorem mulhu (o : Ops) : Statement (.mulhu o) := of_code rfl (by decide) (by decide)
/-- DIVS. -/
theorem divs (o : Ops) : Statement (.divs o) := of_code rfl (by decide) (by decide)
/-- DIVU. -/
theorem divu (o : Ops) : Statement (.divu o) := of_code rfl (by decide) (by decide)
/-- REMS. -/
theorem rems (o : Ops) : Statement (.rems o) := of_code rfl (by decide) (by decide)
/-- REMU. -/
theorem remu (o : Ops) : Statement (.remu o) := of_code rfl (by decide) (by decide)
/-- MINS. -/
theorem mins (o : Ops) : Statement (.mins o) := of_code rfl (by decide) (by decide)
/-- MINU. -/
theorem minu (o : Ops) : Statement (.minu o) := of_code rfl (by decide) (by decide)
/-- MAXS. -/
theorem maxs (o : Ops) : Statement (.maxs o) := of_code rfl (by decide) (by decide)
/-- MAXU. -/
theorem maxu (o : Ops) : Statement (.maxu o) := of_code rfl (by decide) (by decide)
/-- ABS. -/
theorem abs (o : Ops) : Statement (.abs o) := of_code rfl (by decide) (by decide)
/-- NEG. -/
theorem neg (o : Ops) : Statement (.neg o) := of_code rfl (by decide) (by decide)
/-- AND. -/
theorem and (o : Ops) : Statement (.and o) := of_code rfl (by decide) (by decide)
/-- OR. -/
theorem or (o : Ops) : Statement (.or o) := of_code rfl (by decide) (by decide)
/-- XOR. -/
theorem xor (o : Ops) : Statement (.xor o) := of_code rfl (by decide) (by decide)
/-- ANDN. -/
theorem andn (o : Ops) : Statement (.andn o) := of_code rfl (by decide) (by decide)
/-- NOT. -/
theorem not (o : Ops) : Statement (.not o) := of_code rfl (by decide) (by decide)
/-- SHL. -/
theorem shl (o : Ops) : Statement (.shl o) := of_code rfl (by decide) (by decide)
/-- SHR. -/
theorem shr (o : Ops) : Statement (.shr o) := of_code rfl (by decide) (by decide)
/-- SAR. -/
theorem sar (o : Ops) : Statement (.sar o) := of_code rfl (by decide) (by decide)
/-- ROL. -/
theorem rol (o : Ops) : Statement (.rol o) := of_code rfl (by decide) (by decide)
/-- CLZ. -/
theorem clz (o : Ops) : Statement (.clz o) := of_code rfl (by decide) (by decide)
/-- POPC. -/
theorem popc (o : Ops) : Statement (.popc o) := of_code rfl (by decide) (by decide)
/-- BREV. -/
theorem brev (o : Ops) : Statement (.brev o) := of_code rfl (by decide) (by decide)
/-- BEXT. -/
theorem bext (o : Ops) : Statement (.bext o) := of_code rfl (by decide) (by decide)
/-- BINS. -/
theorem bins (o : Ops) : Statement (.bins o) := of_code rfl (by decide) (by decide)
/-- SEXT. -/
theorem sext (o : Ops) : Statement (.sext o) := of_code rfl (by decide) (by decide)
/-- ZEXT. -/
theorem zext (o : Ops) : Statement (.zext o) := of_code rfl (by decide) (by decide)
/-- CEQ. -/
theorem ceq (o : Ops) : Statement (.ceq o) := of_code rfl (by decide) (by decide)
/-- CNE. -/
theorem cne (o : Ops) : Statement (.cne o) := of_code rfl (by decide) (by decide)
/-- CLTS. -/
theorem clts (o : Ops) : Statement (.clts o) := of_code rfl (by decide) (by decide)
/-- CLES. -/
theorem cles (o : Ops) : Statement (.cles o) := of_code rfl (by decide) (by decide)
/-- CLTU. -/
theorem cltu (o : Ops) : Statement (.cltu o) := of_code rfl (by decide) (by decide)
/-- CLEU. -/
theorem cleu (o : Ops) : Statement (.cleu o) := of_code rfl (by decide) (by decide)
/-- SEL. -/
theorem sel (o : Ops) : Statement (.sel o) := of_code rfl (by decide) (by decide)
/-- MOV. -/
theorem mov (o : Ops) : Statement (.mov o) := of_code rfl (by decide) (by decide)
/-- MOVI. -/
theorem movi (o : Ops) : Statement (.movi o) := of_code rfl (by decide) (by decide)
/-- MOVHI. -/
theorem movhi (o : Ops) : Statement (.movhi o) := of_code rfl (by decide) (by decide)
/-- MAD. -/
theorem mad (o : Ops) : Statement (.mad o) := of_code rfl (by decide) (by decide)
/-- LEA. -/
theorem lea (o : Ops) : Statement (.lea o) := of_code rfl (by decide) (by decide)
/-- CRC32C. -/
theorem crc32c (o : Ops) : Statement (.crc32c o) := of_code rfl (by decide) (by decide)
/-- FADD. -/
theorem fadd (o : Ops) : Statement (.fadd o) := of_code rfl (by decide) (by decide)
/-- FSUB. -/
theorem fsub (o : Ops) : Statement (.fsub o) := of_code rfl (by decide) (by decide)
/-- FMUL. -/
theorem fmul (o : Ops) : Statement (.fmul o) := of_code rfl (by decide) (by decide)
/-- FFMA. -/
theorem ffma (o : Ops) : Statement (.ffma o) := of_code rfl (by decide) (by decide)
/-- FFMS. -/
theorem ffms (o : Ops) : Statement (.ffms o) := of_code rfl (by decide) (by decide)
/-- FMIN. -/
theorem fmin (o : Ops) : Statement (.fmin o) := of_code rfl (by decide) (by decide)
/-- FMAX. -/
theorem fmax (o : Ops) : Statement (.fmax o) := of_code rfl (by decide) (by decide)
/-- FABS. -/
theorem fabs (o : Ops) : Statement (.fabs o) := of_code rfl (by decide) (by decide)
/-- FNEG. -/
theorem fneg (o : Ops) : Statement (.fneg o) := of_code rfl (by decide) (by decide)
/-- FCEQ. -/
theorem fceq (o : Ops) : Statement (.fceq o) := of_code rfl (by decide) (by decide)
/-- FCLT. -/
theorem fclt (o : Ops) : Statement (.fclt o) := of_code rfl (by decide) (by decide)
/-- FCLE. -/
theorem fcle (o : Ops) : Statement (.fcle o) := of_code rfl (by decide) (by decide)
/-- FCUN. -/
theorem fcun (o : Ops) : Statement (.fcun o) := of_code rfl (by decide) (by decide)
/-- FDIV. -/
theorem fdiv (o : Ops) : Statement (.fdiv o) := of_code rfl (by decide) (by decide)
/-- FRCP. -/
theorem frcp (o : Ops) : Statement (.frcp o) := of_code rfl (by decide) (by decide)
/-- FRSQ. -/
theorem frsq (o : Ops) : Statement (.frsq o) := of_code rfl (by decide) (by decide)
/-- FSQRT. -/
theorem fsqrt (o : Ops) : Statement (.fsqrt o) := of_code rfl (by decide) (by decide)
/-- FEXP2. -/
theorem fexp2 (o : Ops) : Statement (.fexp2 o) := of_code rfl (by decide) (by decide)
/-- FLOG2. -/
theorem flog2 (o : Ops) : Statement (.flog2 o) := of_code rfl (by decide) (by decide)
/-- FTANH. -/
theorem ftanh (o : Ops) : Statement (.ftanh o) := of_code rfl (by decide) (by decide)
/-- FCLASS. -/
theorem fclass (o : Ops) : Statement (.fclass o) := of_code rfl (by decide) (by decide)
/-- FCVT. -/
theorem fcvt (o : Ops) : Statement (.fcvt o) := of_code rfl (by decide) (by decide)
/-- FTOI. -/
theorem ftoi (o : Ops) : Statement (.ftoi o) := of_code rfl (by decide) (by decide)
/-- ITOF. -/
theorem itof (o : Ops) : Statement (.itof o) := of_code rfl (by decide) (by decide)
/-- FSCALE. -/
theorem fscale (o : Ops) : Statement (.fscale o) := of_code rfl (by decide) (by decide)
/-- FRND. -/
theorem frnd (o : Ops) : Statement (.frnd o) := of_code rfl (by decide) (by decide)
/-- VBCAST. -/
theorem vbcast (o : Ops) : Statement (.vbcast o) := of_code rfl (by decide) (by decide)
/-- VEXTR. -/
theorem vextr (o : Ops) : Statement (.vextr o) := of_code rfl (by decide) (by decide)
/-- VINS. -/
theorem vins (o : Ops) : Statement (.vins o) := of_code rfl (by decide) (by decide)
/-- VPERM. -/
theorem vperm (o : Ops) : Statement (.vperm o) := of_code rfl (by decide) (by decide)
/-- VSHUP. -/
theorem vshup (o : Ops) : Statement (.vshup o) := of_code rfl (by decide) (by decide)
/-- VSHDN. -/
theorem vshdn (o : Ops) : Statement (.vshdn o) := of_code rfl (by decide) (by decide)
/-- VREDADD. -/
theorem vredadd (o : Ops) : Statement (.vredadd o) := of_code rfl (by decide) (by decide)
/-- VREDMAX. -/
theorem vredmax (o : Ops) : Statement (.vredmax o) := of_code rfl (by decide) (by decide)
/-- VREDMIN. -/
theorem vredmin (o : Ops) : Statement (.vredmin o) := of_code rfl (by decide) (by decide)
/-- VSCAN. -/
theorem vscan (o : Ops) : Statement (.vscan o) := of_code rfl (by decide) (by decide)
/-- VPACK. -/
theorem vpack (o : Ops) : Statement (.vpack o) := of_code rfl (by decide) (by decide)
/-- VUNPK. -/
theorem vunpk (o : Ops) : Statement (.vunpk o) := of_code rfl (by decide) (by decide)
/-- VCMPM. -/
theorem vcmpm (o : Ops) : Statement (.vcmpm o) := of_code rfl (by decide) (by decide)
/-- VMSEL. -/
theorem vmsel (o : Ops) : Statement (.vmsel o) := of_code rfl (by decide) (by decide)
/-- VCOMPR. -/
theorem vcompr (o : Ops) : Statement (.vcompr o) := of_code rfl (by decide) (by decide)
/-- VEXPND. -/
theorem vexpnd (o : Ops) : Statement (.vexpnd o) := of_code rfl (by decide) (by decide)
/-- VIOTA. -/
theorem viota (o : Ops) : Statement (.viota o) := of_code rfl (by decide) (by decide)
/-- VSEQACC. -/
theorem vseqacc (o : Ops) : Statement (.vseqacc o) := of_code rfl (by decide) (by decide)
/-- SEND. -/
theorem send (o : Ops) : Statement (.send o) := of_code rfl (by decide) (by decide)
/-- SENDL. -/
theorem sendl (o : Ops) : Statement (.sendl o) := of_code rfl (by decide) (by decide)
/-- STEER. -/
theorem steer (o : Ops) : Statement (.steer o) := of_code rfl (by decide) (by decide)
/-- REQN. -/
theorem reqn (o : Ops) : Statement (.reqn o) := of_code rfl (by decide) (by decide)
/-- TSGET. -/
theorem tsget (o : Ops) : Statement (.tsget o) := of_code rfl (by decide) (by decide)
/-- SENDM. -/
theorem sendm (o : Ops) : Statement (.sendm o) := of_code rfl (by decide) (by decide)
/-- JOIN. -/
theorem join (o : Ops) : Statement (.join o) := of_code rfl (by decide) (by decide)
/-- LEAVE. -/
theorem leave (o : Ops) : Statement (.leave o) := of_code rfl (by decide) (by decide)
/-- WIDEN. -/
theorem widen (o : Ops) : Statement (.widen o) := of_code rfl (by decide) (by decide)
/-- EOS. -/
theorem eos (o : Ops) : Statement (.eos o) := of_code rfl (by decide) (by decide)
/-- SEQ. -/
theorem seq (o : Ops) : Statement (.seq o) := of_code rfl (by decide) (by decide)
/-- CHAIN. -/
theorem chain (o : Ops) : Statement (.chain o) := of_code rfl (by decide) (by decide)
/-- SCALM. -/
theorem scalm (o : Ops) : Statement (.scalm o) := of_code rfl (by decide) (by decide)
/-- LD. -/
theorem ld (o : Ops) : Statement (.ld o) := of_code rfl (by decide) (by decide)
/-- ST. -/
theorem st (o : Ops) : Statement (.st o) := of_code rfl (by decide) (by decide)
/-- LDP. -/
theorem ldp (o : Ops) : Statement (.ldp o) := of_code rfl (by decide) (by decide)
/-- STP. -/
theorem stp (o : Ops) : Statement (.stp o) := of_code rfl (by decide) (by decide)
/-- CLRP. -/
theorem clrp (o : Ops) : Statement (.clrp o) := of_code rfl (by decide) (by decide)
/-- ATOM. -/
theorem atom (o : Ops) : Statement (.atom o) := of_code rfl (by decide) (by decide)
/-- ATOMR. -/
theorem atomr (o : Ops) : Statement (.atomr o) := of_code rfl (by decide) (by decide)
/-- PREF. -/
theorem pref (o : Ops) : Statement (.pref o) := of_code rfl (by decide) (by decide)
/-- CLEAN. -/
theorem clean (o : Ops) : Statement (.clean o) := of_code rfl (by decide) (by decide)
/-- INVAL. -/
theorem inval (o : Ops) : Statement (.inval o) := of_code rfl (by decide) (by decide)
/-- WATCH. -/
theorem watch (o : Ops) : Statement (.watch o) := of_code rfl (by decide) (by decide)
/-- WATCH_CANCEL. -/
theorem watchCancel : Statement .watchCancel := of_event rfl
/-- FENCE. -/
theorem fence (o : Ops) : Statement (.fence o) := of_code rfl (by decide) (by decide)
/-- LDV. -/
theorem ldv (o : Ops) : Statement (.ldv o) := of_code rfl (by decide) (by decide)
/-- STV. -/
theorem stv (o : Ops) : Statement (.stv o) := of_code rfl (by decide) (by decide)
/-- GATHV. -/
theorem gathv (o : Ops) : Statement (.gathv o) := of_code rfl (by decide) (by decide)
/-- SCATV. -/
theorem scatv (o : Ops) : Statement (.scatv o) := of_code rfl (by decide) (by decide)
/-- STRM. -/
theorem strm (o : Ops) : Statement (.strm o) := of_code rfl (by decide) (by decide)
/-- STRMQ. -/
theorem strmq (o : Ops) : Statement (.strmq o) := of_code rfl (by decide) (by decide)
/-- WPWAIT. -/
theorem wpwait (o : Ops) : Statement (.wpwait o) := of_code rfl (by decide) (by decide)
/-- ORDT. -/
theorem ordt (o : Ops) : Statement (.ordt o) := of_code rfl (by decide) (by decide)
/-- MXCFG. -/
theorem mxcfg (o : Ops) : Statement (.mxcfg o) := of_code rfl (by decide) (by decide)
/-- MXLDB. -/
theorem mxldb (o : Ops) : Statement (.mxldb o) := of_code rfl (by decide) (by decide)
/-- MXFEED. -/
theorem mxfeed (o : Ops) : Statement (.mxfeed o) := of_code rfl (by decide) (by decide)
/-- MXDRN. -/
theorem mxdrn (o : Ops) : Statement (.mxdrn o) := of_code rfl (by decide) (by decide)
/-- MXREL. -/
theorem mxrel (o : Ops) : Statement (.mxrel o) := of_code rfl (by decide) (by decide)
/-- MXREL_FORCE. -/
theorem mxrelForce (o : Ops) : Statement (.mxrelForce o) := of_code rfl (by decide) (by decide)
/-- MXCOR. -/
theorem mxcor (o : Ops) : Statement (.mxcor o) := of_code rfl (by decide) (by decide)
/-- MXSTAT. -/
theorem mxstat (o : Ops) : Statement (.mxstat o) := of_code rfl (by decide) (by decide)
/-- SHCFG. -/
theorem shcfg (o : Ops) : Statement (.shcfg o) := of_code rfl (by decide) (by decide)
/-- SHCUT. -/
theorem shcut (o : Ops) : Statement (.shcut o) := of_code rfl (by decide) (by decide)
/-- SHBND. -/
theorem shbnd (o : Ops) : Statement (.shbnd o) := of_code rfl (by decide) (by decide)
/-- SHCO. -/
theorem shco (o : Ops) : Statement (.shco o) := of_code rfl (by decide) (by decide)
/-- SPHDR. -/
theorem sphdr (o : Ops) : Statement (.sphdr o) := of_code rfl (by decide) (by decide)
/-- ISECT. -/
theorem isect (o : Ops) : Statement (.isect o) := of_code rfl (by decide) (by decide)
/-- SMERGE. -/
theorem smerge (o : Ops) : Statement (.smerge o) := of_code rfl (by decide) (by decide)
/-- NMSEL. -/
theorem nmsel (o : Ops) : Statement (.nmsel o) := of_code rfl (by decide) (by decide)
/-- COPY. -/
theorem copy (o : Ops) : Statement (.copy o) := of_code rfl (by decide) (by decide)
/-- ISTRM. -/
theorem istrm (o : Ops) : Statement (.istrm o) := of_code rfl (by decide) (by decide)
/-- TLWAIT. -/
theorem tlwait (o : Ops) : Statement (.tlwait o) := of_code rfl (by decide) (by decide)
/-- TLRD. -/
theorem tlrd (o : Ops) : Statement (.tlrd o) := of_code rfl (by decide) (by decide)
/-- COLL. -/
theorem coll (o : Ops) : Statement (.coll o) := of_code rfl (by decide) (by decide)
/-- RLD. -/
theorem rld (o : Ops) : Statement (.rld o) := of_code rfl (by decide) (by decide)
/-- RST. -/
theorem rst (o : Ops) : Statement (.rst o) := of_code rfl (by decide) (by decide)
/-- RATOM. -/
theorem ratom (o : Ops) : Statement (.ratom o) := of_code rfl (by decide) (by decide)
/-- MIGR. -/
theorem migr (o : Ops) : Statement (.migr o) := of_code rfl (by decide) (by decide)
/-- OWNQ. -/
theorem ownq (o : Ops) : Statement (.ownq o) := of_code rfl (by decide) (by decide)
/-- OWNINV. -/
theorem owninv (o : Ops) : Statement (.owninv o) := of_code rfl (by decide) (by decide)
/-- SGNRCL. -/
theorem sgnrcl (o : Ops) : Statement (.sgnrcl o) := of_code rfl (by decide) (by decide)
/-- BR. -/
theorem br (o : Ops) : Statement (.br o) := of_code rfl (by decide) (by decide)
/-- BZ. -/
theorem bz (o : Ops) : Statement (.bz o) := of_code rfl (by decide) (by decide)
/-- BNZ. -/
theorem bnz (o : Ops) : Statement (.bnz o) := of_code rfl (by decide) (by decide)
/-- BEQ. -/
theorem beq (o : Ops) : Statement (.beq o) := of_code rfl (by decide) (by decide)
/-- BNE. -/
theorem bne (o : Ops) : Statement (.bne o) := of_code rfl (by decide) (by decide)
/-- BLT. -/
theorem blt (o : Ops) : Statement (.blt o) := of_code rfl (by decide) (by decide)
/-- BGE. -/
theorem bge (o : Ops) : Statement (.bge o) := of_code rfl (by decide) (by decide)
/-- BLTU. -/
theorem bltu (o : Ops) : Statement (.bltu o) := of_code rfl (by decide) (by decide)
/-- BGEU. -/
theorem bgeu (o : Ops) : Statement (.bgeu o) := of_code rfl (by decide) (by decide)
/-- CALL. -/
theorem call (o : Ops) : Statement (.call o) := of_code rfl (by decide) (by decide)
/-- RET. -/
theorem ret (o : Ops) : Statement (.ret o) := of_code rfl (by decide) (by decide)
/-- JMPR. -/
theorem jmpr (o : Ops) : Statement (.jmpr o) := of_code rfl (by decide) (by decide)
/-- WAITT. -/
theorem waitt (o : Ops) : Statement (.waitt o) := of_code rfl (by decide) (by decide)
/-- SWAIT. -/
theorem swait (o : Ops) : Statement (.swait o) := of_code rfl (by decide) (by decide)
/-- INJ. -/
theorem inj (o : Ops) : Statement (.inj o) := of_code rfl (by decide) (by decide)
/-- TRAP. -/
theorem trap (o : Ops) : Statement (.trap o) := of_code rfl (by decide) (by decide)
/-- ERET. -/
theorem eret (o : Ops) : Statement (.eret o) := of_code rfl (by decide) (by decide)
/-- MFS. -/
theorem mfs (o : Ops) : Statement (.mfs o) := of_code rfl (by decide) (by decide)
/-- MTS. -/
theorem mts (o : Ops) : Statement (.mts o) := of_code rfl (by decide) (by decide)
/-- CFGW. -/
theorem cfgw (o : Ops) : Statement (.cfgw o) := of_code rfl (by decide) (by decide)
/-- CFGR. -/
theorem cfgr (o : Ops) : Statement (.cfgr o) := of_code rfl (by decide) (by decide)
/-- CFGCOM. -/
theorem cfgcom (o : Ops) : Statement (.cfgcom o) := of_code rfl (by decide) (by decide)
/-- CFGCOM_SEAL. -/
theorem cfgcomSeal (o : Ops) : Statement (.cfgcomSeal o) := of_code rfl (by decide) (by decide)
/-- CFGABT. -/
theorem cfgabt (o : Ops) : Statement (.cfgabt o) := of_code rfl (by decide) (by decide)
/-- CTXPRI. -/
theorem ctxpri (o : Ops) : Statement (.ctxpri o) := of_code rfl (by decide) (by decide)
/-- PARK. -/
theorem park (o : Ops) : Statement (.park o) := of_code rfl (by decide) (by decide)
/-- UNPARK_REPLAY. -/
theorem unparkReplay (o : Ops) : Statement (.unparkReplay o) := of_code rfl (by decide) (by decide)
/-- UNPARK_DROP. -/
theorem unparkDrop (o : Ops) : Statement (.unparkDrop o) := of_code rfl (by decide) (by decide)
/-- UNPARK_FRAME. -/
theorem unparkFrame (o : Ops) : Statement (.unparkFrame o) := of_code rfl (by decide) (by decide)
/-- DRAIN. -/
theorem drain (o : Ops) : Statement (.drain o) := of_code rfl (by decide) (by decide)
/-- RESUME. -/
theorem resume (o : Ops) : Statement (.resume o) := of_code rfl (by decide) (by decide)
/-- RESUME_FAIL. -/
theorem resumeFail (o : Ops) : Statement (.resumeFail o) := of_code rfl (by decide) (by decide)
/-- TLBINV. -/
theorem tlbinv (o : Ops) : Statement (.tlbinv o) := of_code rfl (by decide) (by decide)
/-- SIGCHK. -/
theorem sigchk (o : Ops) : Statement (.sigchk o) := of_code rfl (by decide) (by decide)
/-- TOKEN_ARRIVAL. -/
theorem tokenArrival : Statement .tokenArrival := of_event rfl
/-- FRAME_CHOICE. -/
theorem frameChoice : Statement .frameChoice := of_event rfl
/-- COMMIT_POINT. -/
theorem commitPoint : Statement .commitPoint := of_event rfl
/-- RELEASE_SENDS. -/
theorem releaseSends : Statement .releaseSends := of_event rfl
/-- RECORD_DECREMENTS. -/
theorem recordDecrements : Statement .recordDecrements := of_event rfl
/-- TRAP_RECORD_LEAVE. -/
theorem trapRecordLeave : Statement .trapRecordLeave := of_event rfl
/-- PARKWAIT_RELEASE. -/
theorem parkwaitRelease : Statement .parkwaitRelease := of_event rfl
/-- VSEQACC_RETRY. -/
theorem vseqaccRetry : Statement .vseqaccRetry := of_event rfl
/-- CLAIM_HANDOVER. -/
theorem claimHandover : Statement .claimHandover := of_event rfl
/-- PORT_ENTRY. -/
theorem portEntry : Statement .portEntry := of_event rfl
/-- TRANSLATION_WALK. -/
theorem translationWalk : Statement .translationWalk := of_event rfl
/-- REQUEST_PERFORM. -/
theorem requestPerform : Statement .requestPerform := of_event rfl
/-- DEFERRED_READ_FILL. -/
theorem deferredReadFill : Statement .deferredReadFill := of_event rfl
/-- WATCH_NOTIFY. -/
theorem watchNotify : Statement .watchNotify := of_event rfl
/-- ORDT_LEAVE. -/
theorem ordtLeave : Statement .ordtLeave := of_event rfl
/-- STREAM_GRANULE. -/
theorem streamGranule : Statement .streamGranule := of_event rfl
/-- CHAIN_TRIGGER. -/
theorem chainTrigger : Statement .chainTrigger := of_event rfl
/-- CHAIN_EMIT. -/
theorem chainEmit : Statement .chainEmit := of_event rfl
/-- SPHDR_EMIT. -/
theorem sphdrEmit : Statement .sphdrEmit := of_event rfl
/-- ARRAY_ROW_EDGE. -/
theorem arrayRowEdge : Statement .arrayRowEdge := of_event rfl
/-- ARRAY_RELEASE_WORD. -/
theorem arrayReleaseWord : Statement .arrayReleaseWord := of_event rfl
/-- GATE_ADMISSION_GRANT. -/
theorem gateAdmissionGrant : Statement .gateAdmissionGrant := of_event rfl
/-- BATCH_CLOSE. -/
theorem batchClose : Statement .batchClose := of_event rfl
/-- BATCH_APPLY. -/
theorem batchApply : Statement .batchApply := of_event rfl
/-- ACK_BROADCAST. -/
theorem ackBroadcast : Statement .ackBroadcast := of_event rfl
/-- ACK_RECEIVE. -/
theorem ackReceive : Statement .ackReceive := of_event rfl
/-- MILESTONE_DELIVERY. -/
theorem milestoneDelivery : Statement .milestoneDelivery := of_event rfl
/-- INGRESS_PACKET. -/
theorem ingressPacket : Statement .ingressPacket := of_event rfl
/-- INGRESS_DELIVERY. -/
theorem ingressDelivery : Statement .ingressDelivery := of_event rfl
/-- ROUND_REGISTER_WRITE. -/
theorem roundRegisterWrite : Statement .roundRegisterWrite := of_event rfl
/-- HOST_EGRESS. -/
theorem hostEgress : Statement .hostEgress := of_event rfl
/-- ATTESTATION_REQUEST. -/
theorem attestationRequest : Statement .attestationRequest := of_event rfl
/-- SCHEDULER_DECISION. -/
theorem schedulerDecision : Statement .schedulerDecision := of_event rfl
/-- CONTEXT_RETIRE. -/
theorem contextRetire : Statement .contextRetire := of_event rfl
/-- DRAIN_MARKER. -/
theorem drainMarker : Statement .drainMarker := of_event rfl
/-- RELOAD. -/
theorem reload : Statement .reload := of_event rfl
/-- HEDGEDROP. -/
theorem hedgedrop : Statement .hedgedrop := of_event rfl
/-- STEWARD_TRAP. -/
theorem stewardTrap : Statement .stewardTrap := of_event rfl
/-- FATAL_NOTICE. -/
theorem fatalNotice : Statement .fatalNotice := of_event rfl
/-- STEWARD_WAIT_END. -/
theorem stewardWaitEnd : Statement .stewardWaitEnd := of_event rfl
/-- SSTAT_WRITE. -/
theorem sstatWrite (o : Ops) : Statement (.sstatWrite o) := of_code rfl (by decide) (by decide)
/-- TQPOP_ORDINARY. -/
theorem tqpopOrdinary : Statement .tqpopOrdinary := of_event rfl
/-- TQPOP_FATAL. -/
theorem tqpopFatal : Statement .tqpopFatal := of_event rfl
/-- ECCCNT_CLEAR. -/
theorem ecccntClear (o : Ops) : Statement (.ecccntClear o) := of_code rfl (by decide) (by decide)
/-- HEDGECNT_CLEAR. -/
theorem hedgecntClear (o : Ops) : Statement (.hedgecntClear o) := of_code rfl (by decide) (by decide)
/-- MBOX_READ. -/
theorem mboxRead (o : Ops) : Statement (.mboxRead o) := of_code rfl (by decide) (by decide)
/-- MBOXOUT. -/
theorem mboxout (o : Ops) : Statement (.mboxout o) := of_code rfl (by decide) (by decide)
/-- RINBOX_READ. -/
theorem rinboxRead (o : Ops) : Statement (.rinboxRead o) := of_code rfl (by decide) (by decide)
/-- RFPOP. -/
theorem rfpop (o : Ops) : Statement (.rfpop o) := of_code rfl (by decide) (by decide)
/-- RMSEL_WRITE. -/
theorem rmselWrite (o : Ops) : Statement (.rmselWrite o) := of_code rfl (by decide) (by decide)
/-- RMSEND. -/
theorem rmsend (o : Ops) : Statement (.rmsend o) := of_code rfl (by decide) (by decide)
/-- KSLOT. -/
theorem kslot (o : Ops) : Statement (.kslot o) := of_code rfl (by decide) (by decide)
/-- DBUD_WRITE. -/
theorem dbudWrite (o : Ops) : Statement (.dbudWrite o) := of_code rfl (by decide) (by decide)
/-- POLPOP. -/
theorem polpop (o : Ops) : Statement (.polpop o) := of_code rfl (by decide) (by decide)
/-- POLSTAT_CLEAR. -/
theorem polstatClear (o : Ops) : Statement (.polstatClear o) := of_code rfl (by decide) (by decide)
/-- PKGRST_DRAIN. -/
theorem pkgrstDrain : Statement .pkgrstDrain := of_event rfl
/-- PKGRST_CANCEL. -/
theorem pkgrstCancel : Statement .pkgrstCancel := of_event rfl
/-- PKGRST_MASK. -/
theorem pkgrstMask : Statement .pkgrstMask := of_event rfl
/-- PKGRST_FLUSHED. -/
theorem pkgrstFlushed : Statement .pkgrstFlushed := of_event rfl
/-- PKGRST_LINKDOWN. -/
theorem pkgrstLinkdown : Statement .pkgrstLinkdown := of_event rfl
/-- PKGRST_RESET. -/
theorem pkgrstReset : Statement .pkgrstReset := of_event rfl
/-- PKGRST_TRAINED. -/
theorem pkgrstTrained : Statement .pkgrstTrained := of_event rfl
/-- PKGRST_RETURN. -/
theorem pkgrstReturn : Statement .pkgrstReturn := of_event rfl
/-- PKGRST_CLEAR. -/
theorem pkgrstClear : Statement .pkgrstClear := of_event rfl
/-- CELSPLIT_WRITE. -/
theorem celsplitWrite : Statement .celsplitWrite := of_event rfl
/-- HOMEMASK_WRITE. -/
theorem homemaskWrite : Statement .homemaskWrite := of_event rfl
/-- ECTX_WRITE. -/
theorem ectxWrite : Statement .ectxWrite := of_event rfl
/-- ENGINE_ACCEPT. -/
theorem engineAccept : Statement .engineAccept := of_event rfl
/-- ENGINE_OPERATION_END. -/
theorem engineOperationEnd : Statement .engineOperationEnd := of_event rfl
/-- COLLECTIVE_COMPLETE. -/
theorem collectiveComplete : Statement .collectiveComplete := of_event rfl
/-- MUSTER_OPERATION. -/
theorem musterOperation : Statement .musterOperation := of_event rfl
/-- REMOTE_REQUEST_ARRIVAL. -/
theorem remoteRequestArrival : Statement .remoteRequestArrival := of_event rfl
/-- UTERN_TIMEOUT. -/
theorem uternTimeout : Statement .uternTimeout := of_event rfl
/-- DEAD_PEER_CLEAR. -/
theorem deadPeerClear : Statement .deadPeerClear := of_event rfl
/-- ROUTE_TABLE_WRITE. -/
theorem routeTableWrite : Statement .routeTableWrite := of_event rfl
/-- INGB_WRITE. -/
theorem ingbWrite : Statement .ingbWrite := of_event rfl
/-- LINK_FLIT_RETRY. -/
theorem linkFlitRetry : Statement .linkFlitRetry := of_event rfl
/-- UCIE_MODULE_FAIL. -/
theorem ucieModuleFail : Statement .ucieModuleFail := of_event rfl
/-- OWNER_CACHE_LOOKUP. -/
theorem ownerCacheLookup : Statement .ownerCacheLookup := of_event rfl
/-- COUNT_MESSAGE. -/
theorem countMessage : Statement .countMessage := of_event rfl
/-- MIGRATION_COPY_PASS. -/
theorem migrationCopyPass : Statement .migrationCopyPass := of_event rfl
/-- MIGRATION_FREEZE. -/
theorem migrationFreeze : Statement .migrationFreeze := of_event rfl
/-- MIGRATION_GO. -/
theorem migrationGo : Statement .migrationGo := of_event rfl
/-- MIGRATION_ABORT. -/
theorem migrationAbort : Statement .migrationAbort := of_event rfl
/-- SIGNPOST_RELAY. -/
theorem signpostRelay : Statement .signpostRelay := of_event rfl
/-- REDIRECT. -/
theorem redirect : Statement .redirect := of_event rfl
/-- OWNER_CACHE_REOPEN. -/
theorem ownerCacheReopen : Statement .ownerCacheReopen := of_event rfl
/-- SIGNPOST_INVALIDATION. -/
theorem signpostInvalidation : Statement .signpostInvalidation := of_event rfl
/-- RECLAIM. -/
theorem reclaim : Statement .reclaim := of_event rfl
/-- ENERGY_TICK. -/
theorem energyTick : Statement .energyTick := of_event rfl
/-- GOVERNOR_TICK. -/
theorem governorTick : Statement .governorTick := of_event rfl
/-- WINDOW_EDGE. -/
theorem windowEdge : Statement .windowEdge := of_event rfl
/-- CELHOT_CHANGE. -/
theorem celhotChange : Statement .celhotChange := of_event rfl
/-- PATROL_SCRUB. -/
theorem patrolScrub : Statement .patrolScrub := of_event rfl
/-- COLD_START. -/
theorem coldStart : Statement .coldStart := of_event rfl
/-- PACKAGE_WARM_START. -/
theorem packageWarmStart : Statement .packageWarmStart := of_event rfl
/-- CORE_RESET. -/
theorem coreReset : Statement .coreReset := of_event rfl
/-- STEWARD_RESET. -/
theorem stewardReset : Statement .stewardReset := of_event rfl
/-- OBCORE_RELEASE. -/
theorem obcoreRelease (o : Ops) : Statement (.obcoreRelease o) := of_code rfl (by decide) (by decide)
/-- OBCTL_WRITE. -/
theorem obctlWrite (o : Ops) : Statement (.obctlWrite o) := of_code rfl (by decide) (by decide)
/-- TRACE_FREEZE. -/
theorem traceFreeze : Statement .traceFreeze := of_event rfl
/-- TRDUMP. -/
theorem trdump (o : Ops) : Statement (.trdump o) := of_code rfl (by decide) (by decide)
/-- HSPILL_WRITE. -/
theorem hspillWrite (o : Ops) : Statement (.hspillWrite o) := of_code rfl (by decide) (by decide)
/-- HCTL_ENABLE. -/
theorem hctlEnable (o : Ops) : Statement (.hctlEnable o) := of_code rfl (by decide) (by decide)
/-- HCTL_FLUSH. -/
theorem hctlFlush : Statement .hctlFlush := of_event rfl
/-- COUNT_SPILL. -/
theorem countSpill : Statement .countSpill := of_event rfl
/-- WALKGO. -/
theorem walkgo (o : Ops) : Statement (.walkgo o) := of_code rfl (by decide) (by decide)
/-- CHANNEL_COUNT_CLEAR. -/
theorem channelCountClear (o : Ops) : Statement (.channelCountClear o) := of_code rfl (by decide) (by decide)
/-- ENGINE_WRITE_POINTER. -/
theorem engineWritePointer : Statement .engineWritePointer := of_event rfl
/-- DISCARDED_HOST_WRITE. -/
theorem discardedHostWrite : Statement .discardedHostWrite := of_event rfl
/-- LOST_REGION_DISPOSAL. -/
theorem lostRegionDisposal : Statement .lostRegionDisposal := of_event rfl
/-- LINK_LEVEL_RETRY. -/
theorem linkLevelRetry : Statement .linkLevelRetry := of_event rfl

end Sys2Proof.Laws.CodeInTable
end

