-- ==== Sys2Proof/Laws/State.lean ====
section
/-! SUPPORT. What each named update of the state leaves in each field, and what the units read as after it. -/

namespace Sys2Proof.Machine

/-! ## Fields after an update -/

@[simp] theorem State.setCore_turn (s : State) (c : Nat) (x : Core) : (s.setCore c x).turn = s.turn := rfl
@[simp] theorem State.setCore_agenda (s : State) (c : Nat) (x : Core) : (s.setCore c x).agenda = s.agenda := rfl
@[simp] theorem State.setCore_stepNo (s : State) (c : Nat) (x : Core) : (s.setCore c x).stepNo = s.stepNo := rfl
@[simp] theorem State.setCore_actor (s : State) (c : Nat) (x : Core) : (s.setCore c x).actor = s.actor := rfl
@[simp] theorem State.setCore_event (s : State) (c : Nat) (x : Core) : (s.setCore c x).event = s.event := rfl
@[simp] theorem State.setCore_free (s : State) (c : Nat) (x : Core) : (s.setCore c x).free = s.free := rfl
@[simp] theorem State.setCore_fresh (s : State) (c : Nat) (x : Core) : (s.setCore c x).fresh = s.fresh := rfl
@[simp] theorem State.setCore_clock (s : State) (c : Nat) (x : Core) : (s.setCore c x).clock = s.clock := rfl
@[simp] theorem State.setCore_mem (s : State) (c : Nat) (x : Core) : (s.setCore c x).mem = s.mem := rfl
@[simp] theorem State.setCore_presence (s : State) (c : Nat) (x : Core) : (s.setCore c x).presence = s.presence := rfl
@[simp] theorem State.setCore_soft (s : State) (c : Nat) (x : Core) : (s.setCore c x).soft = s.soft := rfl
@[simp] theorem State.setCore_net (s : State) (c : Nat) (x : Core) : (s.setCore c x).net = s.net := rfl
@[simp] theorem State.setCore_loops (s : State) (c : Nat) (x : Core) : (s.setCore c x).loops = s.loops := rfl
@[simp] theorem State.setCore_farImages (s : State) (c : Nat) (x : Core) : (s.setCore c x).farImages = s.farImages := rfl
@[simp] theorem State.setCore_devices (s : State) (c : Nat) (x : Core) : (s.setCore c x).devices = s.devices := rfl
@[simp] theorem State.setCore_farEntries (s : State) (c : Nat) (x : Core) : (s.setCore c x).farEntries = s.farEntries := rfl
@[simp] theorem State.setCore_laybys (s : State) (c : Nat) (x : Core) : (s.setCore c x).laybys = s.laybys := rfl
@[simp] theorem State.setCore_places (s : State) (c : Nat) (x : Core) : (s.setCore c x).places = s.places := rfl
@[simp] theorem State.setCore_fused (s : State) (c : Nat) (x : Core) : (s.setCore c x).fused = s.fused := rfl
@[simp] theorem State.setCore_devId (s : State) (c : Nat) (x : Core) : (s.setCore c x).devId = s.devId := rfl
@[simp] theorem State.setCore_cores (s : State) (c : Nat) (x : Core) : (s.setCore c x).cores = Tab.set Core.init s.cores c x := rfl
@[simp] theorem State.setCore_elems (s : State) (c : Nat) (x : Core) : (s.setCore c x).elems = s.elems := rfl
@[simp] theorem State.setCore_clusters (s : State) (c : Nat) (x : Core) : (s.setCore c x).clusters = s.clusters := rfl
@[simp] theorem State.setCore_dies (s : State) (c : Nat) (x : Core) : (s.setCore c x).dies = s.dies := rfl
@[simp] theorem State.setCore_homes (s : State) (c : Nat) (x : Core) : (s.setCore c x).homes = s.homes := rfl
@[simp] theorem State.setCore_stewards (s : State) (c : Nat) (x : Core) : (s.setCore c x).stewards = s.stewards := rfl
@[simp] theorem State.setCore_pkg (s : State) (c : Nat) (x : Core) : (s.setCore c x).pkg = s.pkg := rfl
@[simp] theorem State.setCore_out (s : State) (c : Nat) (x : Core) : (s.setCore c x).out = s.out := rfl

@[simp] theorem State.setElem_turn (s : State) (e : Nat) (x : Elem) : (s.setElem e x).turn = s.turn := rfl
@[simp] theorem State.setElem_agenda (s : State) (e : Nat) (x : Elem) : (s.setElem e x).agenda = s.agenda := rfl
@[simp] theorem State.setElem_stepNo (s : State) (e : Nat) (x : Elem) : (s.setElem e x).stepNo = s.stepNo := rfl
@[simp] theorem State.setElem_actor (s : State) (e : Nat) (x : Elem) : (s.setElem e x).actor = s.actor := rfl
@[simp] theorem State.setElem_event (s : State) (e : Nat) (x : Elem) : (s.setElem e x).event = s.event := rfl
@[simp] theorem State.setElem_free (s : State) (e : Nat) (x : Elem) : (s.setElem e x).free = s.free := rfl
@[simp] theorem State.setElem_fresh (s : State) (e : Nat) (x : Elem) : (s.setElem e x).fresh = s.fresh := rfl
@[simp] theorem State.setElem_clock (s : State) (e : Nat) (x : Elem) : (s.setElem e x).clock = s.clock := rfl
@[simp] theorem State.setElem_mem (s : State) (e : Nat) (x : Elem) : (s.setElem e x).mem = s.mem := rfl
@[simp] theorem State.setElem_presence (s : State) (e : Nat) (x : Elem) : (s.setElem e x).presence = s.presence := rfl
@[simp] theorem State.setElem_soft (s : State) (e : Nat) (x : Elem) : (s.setElem e x).soft = s.soft := rfl
@[simp] theorem State.setElem_net (s : State) (e : Nat) (x : Elem) : (s.setElem e x).net = s.net := rfl
@[simp] theorem State.setElem_loops (s : State) (e : Nat) (x : Elem) : (s.setElem e x).loops = s.loops := rfl
@[simp] theorem State.setElem_farImages (s : State) (e : Nat) (x : Elem) : (s.setElem e x).farImages = s.farImages := rfl
@[simp] theorem State.setElem_devices (s : State) (e : Nat) (x : Elem) : (s.setElem e x).devices = s.devices := rfl
@[simp] theorem State.setElem_farEntries (s : State) (e : Nat) (x : Elem) : (s.setElem e x).farEntries = s.farEntries := rfl
@[simp] theorem State.setElem_laybys (s : State) (e : Nat) (x : Elem) : (s.setElem e x).laybys = s.laybys := rfl
@[simp] theorem State.setElem_places (s : State) (e : Nat) (x : Elem) : (s.setElem e x).places = s.places := rfl
@[simp] theorem State.setElem_fused (s : State) (e : Nat) (x : Elem) : (s.setElem e x).fused = s.fused := rfl
@[simp] theorem State.setElem_devId (s : State) (e : Nat) (x : Elem) : (s.setElem e x).devId = s.devId := rfl
@[simp] theorem State.setElem_cores (s : State) (e : Nat) (x : Elem) : (s.setElem e x).cores = s.cores := rfl
@[simp] theorem State.setElem_elems (s : State) (e : Nat) (x : Elem) : (s.setElem e x).elems = Tab.set Elem.init s.elems e x := rfl
@[simp] theorem State.setElem_clusters (s : State) (e : Nat) (x : Elem) : (s.setElem e x).clusters = s.clusters := rfl
@[simp] theorem State.setElem_dies (s : State) (e : Nat) (x : Elem) : (s.setElem e x).dies = s.dies := rfl
@[simp] theorem State.setElem_homes (s : State) (e : Nat) (x : Elem) : (s.setElem e x).homes = s.homes := rfl
@[simp] theorem State.setElem_stewards (s : State) (e : Nat) (x : Elem) : (s.setElem e x).stewards = s.stewards := rfl
@[simp] theorem State.setElem_pkg (s : State) (e : Nat) (x : Elem) : (s.setElem e x).pkg = s.pkg := rfl
@[simp] theorem State.setElem_out (s : State) (e : Nat) (x : Elem) : (s.setElem e x).out = s.out := rfl

@[simp] theorem State.setCluster_turn (s : State) (c : Nat) (x : Cluster) : (s.setCluster c x).turn = s.turn := rfl
@[simp] theorem State.setCluster_agenda (s : State) (c : Nat) (x : Cluster) : (s.setCluster c x).agenda = s.agenda := rfl
@[simp] theorem State.setCluster_stepNo (s : State) (c : Nat) (x : Cluster) : (s.setCluster c x).stepNo = s.stepNo := rfl
@[simp] theorem State.setCluster_actor (s : State) (c : Nat) (x : Cluster) : (s.setCluster c x).actor = s.actor := rfl
@[simp] theorem State.setCluster_event (s : State) (c : Nat) (x : Cluster) : (s.setCluster c x).event = s.event := rfl
@[simp] theorem State.setCluster_free (s : State) (c : Nat) (x : Cluster) : (s.setCluster c x).free = s.free := rfl
@[simp] theorem State.setCluster_fresh (s : State) (c : Nat) (x : Cluster) : (s.setCluster c x).fresh = s.fresh := rfl
@[simp] theorem State.setCluster_clock (s : State) (c : Nat) (x : Cluster) : (s.setCluster c x).clock = s.clock := rfl
@[simp] theorem State.setCluster_mem (s : State) (c : Nat) (x : Cluster) : (s.setCluster c x).mem = s.mem := rfl
@[simp] theorem State.setCluster_presence (s : State) (c : Nat) (x : Cluster) : (s.setCluster c x).presence = s.presence := rfl
@[simp] theorem State.setCluster_soft (s : State) (c : Nat) (x : Cluster) : (s.setCluster c x).soft = s.soft := rfl
@[simp] theorem State.setCluster_net (s : State) (c : Nat) (x : Cluster) : (s.setCluster c x).net = s.net := rfl
@[simp] theorem State.setCluster_loops (s : State) (c : Nat) (x : Cluster) : (s.setCluster c x).loops = s.loops := rfl
@[simp] theorem State.setCluster_farImages (s : State) (c : Nat) (x : Cluster) : (s.setCluster c x).farImages = s.farImages := rfl
@[simp] theorem State.setCluster_devices (s : State) (c : Nat) (x : Cluster) : (s.setCluster c x).devices = s.devices := rfl
@[simp] theorem State.setCluster_farEntries (s : State) (c : Nat) (x : Cluster) : (s.setCluster c x).farEntries = s.farEntries := rfl
@[simp] theorem State.setCluster_laybys (s : State) (c : Nat) (x : Cluster) : (s.setCluster c x).laybys = s.laybys := rfl
@[simp] theorem State.setCluster_places (s : State) (c : Nat) (x : Cluster) : (s.setCluster c x).places = s.places := rfl
@[simp] theorem State.setCluster_fused (s : State) (c : Nat) (x : Cluster) : (s.setCluster c x).fused = s.fused := rfl
@[simp] theorem State.setCluster_devId (s : State) (c : Nat) (x : Cluster) : (s.setCluster c x).devId = s.devId := rfl
@[simp] theorem State.setCluster_cores (s : State) (c : Nat) (x : Cluster) : (s.setCluster c x).cores = s.cores := rfl
@[simp] theorem State.setCluster_elems (s : State) (c : Nat) (x : Cluster) : (s.setCluster c x).elems = s.elems := rfl
@[simp] theorem State.setCluster_clusters (s : State) (c : Nat) (x : Cluster) : (s.setCluster c x).clusters = setAt s.clusters c x := rfl
@[simp] theorem State.setCluster_dies (s : State) (c : Nat) (x : Cluster) : (s.setCluster c x).dies = s.dies := rfl
@[simp] theorem State.setCluster_homes (s : State) (c : Nat) (x : Cluster) : (s.setCluster c x).homes = s.homes := rfl
@[simp] theorem State.setCluster_stewards (s : State) (c : Nat) (x : Cluster) : (s.setCluster c x).stewards = s.stewards := rfl
@[simp] theorem State.setCluster_pkg (s : State) (c : Nat) (x : Cluster) : (s.setCluster c x).pkg = s.pkg := rfl
@[simp] theorem State.setCluster_out (s : State) (c : Nat) (x : Cluster) : (s.setCluster c x).out = s.out := rfl

@[simp] theorem State.setDie_turn (s : State) (d : Nat) (x : Die) : (s.setDie d x).turn = s.turn := rfl
@[simp] theorem State.setDie_agenda (s : State) (d : Nat) (x : Die) : (s.setDie d x).agenda = s.agenda := rfl
@[simp] theorem State.setDie_stepNo (s : State) (d : Nat) (x : Die) : (s.setDie d x).stepNo = s.stepNo := rfl
@[simp] theorem State.setDie_actor (s : State) (d : Nat) (x : Die) : (s.setDie d x).actor = s.actor := rfl
@[simp] theorem State.setDie_event (s : State) (d : Nat) (x : Die) : (s.setDie d x).event = s.event := rfl
@[simp] theorem State.setDie_free (s : State) (d : Nat) (x : Die) : (s.setDie d x).free = s.free := rfl
@[simp] theorem State.setDie_fresh (s : State) (d : Nat) (x : Die) : (s.setDie d x).fresh = s.fresh := rfl
@[simp] theorem State.setDie_clock (s : State) (d : Nat) (x : Die) : (s.setDie d x).clock = s.clock := rfl
@[simp] theorem State.setDie_mem (s : State) (d : Nat) (x : Die) : (s.setDie d x).mem = s.mem := rfl
@[simp] theorem State.setDie_presence (s : State) (d : Nat) (x : Die) : (s.setDie d x).presence = s.presence := rfl
@[simp] theorem State.setDie_soft (s : State) (d : Nat) (x : Die) : (s.setDie d x).soft = s.soft := rfl
@[simp] theorem State.setDie_net (s : State) (d : Nat) (x : Die) : (s.setDie d x).net = s.net := rfl
@[simp] theorem State.setDie_loops (s : State) (d : Nat) (x : Die) : (s.setDie d x).loops = s.loops := rfl
@[simp] theorem State.setDie_farImages (s : State) (d : Nat) (x : Die) : (s.setDie d x).farImages = s.farImages := rfl
@[simp] theorem State.setDie_devices (s : State) (d : Nat) (x : Die) : (s.setDie d x).devices = s.devices := rfl
@[simp] theorem State.setDie_farEntries (s : State) (d : Nat) (x : Die) : (s.setDie d x).farEntries = s.farEntries := rfl
@[simp] theorem State.setDie_laybys (s : State) (d : Nat) (x : Die) : (s.setDie d x).laybys = s.laybys := rfl
@[simp] theorem State.setDie_places (s : State) (d : Nat) (x : Die) : (s.setDie d x).places = s.places := rfl
@[simp] theorem State.setDie_fused (s : State) (d : Nat) (x : Die) : (s.setDie d x).fused = s.fused := rfl
@[simp] theorem State.setDie_devId (s : State) (d : Nat) (x : Die) : (s.setDie d x).devId = s.devId := rfl
@[simp] theorem State.setDie_cores (s : State) (d : Nat) (x : Die) : (s.setDie d x).cores = s.cores := rfl
@[simp] theorem State.setDie_elems (s : State) (d : Nat) (x : Die) : (s.setDie d x).elems = s.elems := rfl
@[simp] theorem State.setDie_clusters (s : State) (d : Nat) (x : Die) : (s.setDie d x).clusters = s.clusters := rfl
@[simp] theorem State.setDie_dies (s : State) (d : Nat) (x : Die) : (s.setDie d x).dies = setAt s.dies d x := rfl
@[simp] theorem State.setDie_homes (s : State) (d : Nat) (x : Die) : (s.setDie d x).homes = s.homes := rfl
@[simp] theorem State.setDie_stewards (s : State) (d : Nat) (x : Die) : (s.setDie d x).stewards = s.stewards := rfl
@[simp] theorem State.setDie_pkg (s : State) (d : Nat) (x : Die) : (s.setDie d x).pkg = s.pkg := rfl
@[simp] theorem State.setDie_out (s : State) (d : Nat) (x : Die) : (s.setDie d x).out = s.out := rfl

@[simp] theorem State.setStew_turn (s : State) (n : Nat) (x : Stew) : (s.setStew n x).turn = s.turn := rfl
@[simp] theorem State.setStew_agenda (s : State) (n : Nat) (x : Stew) : (s.setStew n x).agenda = s.agenda := rfl
@[simp] theorem State.setStew_stepNo (s : State) (n : Nat) (x : Stew) : (s.setStew n x).stepNo = s.stepNo := rfl
@[simp] theorem State.setStew_actor (s : State) (n : Nat) (x : Stew) : (s.setStew n x).actor = s.actor := rfl
@[simp] theorem State.setStew_event (s : State) (n : Nat) (x : Stew) : (s.setStew n x).event = s.event := rfl
@[simp] theorem State.setStew_free (s : State) (n : Nat) (x : Stew) : (s.setStew n x).free = s.free := rfl
@[simp] theorem State.setStew_fresh (s : State) (n : Nat) (x : Stew) : (s.setStew n x).fresh = s.fresh := rfl
@[simp] theorem State.setStew_clock (s : State) (n : Nat) (x : Stew) : (s.setStew n x).clock = s.clock := rfl
@[simp] theorem State.setStew_mem (s : State) (n : Nat) (x : Stew) : (s.setStew n x).mem = s.mem := rfl
@[simp] theorem State.setStew_presence (s : State) (n : Nat) (x : Stew) : (s.setStew n x).presence = s.presence := rfl
@[simp] theorem State.setStew_soft (s : State) (n : Nat) (x : Stew) : (s.setStew n x).soft = s.soft := rfl
@[simp] theorem State.setStew_net (s : State) (n : Nat) (x : Stew) : (s.setStew n x).net = s.net := rfl
@[simp] theorem State.setStew_loops (s : State) (n : Nat) (x : Stew) : (s.setStew n x).loops = s.loops := rfl
@[simp] theorem State.setStew_farImages (s : State) (n : Nat) (x : Stew) : (s.setStew n x).farImages = s.farImages := rfl
@[simp] theorem State.setStew_devices (s : State) (n : Nat) (x : Stew) : (s.setStew n x).devices = s.devices := rfl
@[simp] theorem State.setStew_farEntries (s : State) (n : Nat) (x : Stew) : (s.setStew n x).farEntries = s.farEntries := rfl
@[simp] theorem State.setStew_laybys (s : State) (n : Nat) (x : Stew) : (s.setStew n x).laybys = s.laybys := rfl
@[simp] theorem State.setStew_places (s : State) (n : Nat) (x : Stew) : (s.setStew n x).places = s.places := rfl
@[simp] theorem State.setStew_fused (s : State) (n : Nat) (x : Stew) : (s.setStew n x).fused = s.fused := rfl
@[simp] theorem State.setStew_devId (s : State) (n : Nat) (x : Stew) : (s.setStew n x).devId = s.devId := rfl
@[simp] theorem State.setStew_cores (s : State) (n : Nat) (x : Stew) : (s.setStew n x).cores = s.cores := rfl
@[simp] theorem State.setStew_elems (s : State) (n : Nat) (x : Stew) : (s.setStew n x).elems = s.elems := rfl
@[simp] theorem State.setStew_clusters (s : State) (n : Nat) (x : Stew) : (s.setStew n x).clusters = s.clusters := rfl
@[simp] theorem State.setStew_dies (s : State) (n : Nat) (x : Stew) : (s.setStew n x).dies = s.dies := rfl
@[simp] theorem State.setStew_homes (s : State) (n : Nat) (x : Stew) : (s.setStew n x).homes = s.homes := rfl
@[simp] theorem State.setStew_stewards (s : State) (n : Nat) (x : Stew) : (s.setStew n x).stewards = setAt s.stewards n x := rfl
@[simp] theorem State.setStew_pkg (s : State) (n : Nat) (x : Stew) : (s.setStew n x).pkg = s.pkg := rfl
@[simp] theorem State.setStew_out (s : State) (n : Nat) (x : Stew) : (s.setStew n x).out = s.out := rfl

@[simp] theorem State.setHome_turn (s : State) (i : Nat) (x : Home) : (s.setHome i x).turn = s.turn := rfl
@[simp] theorem State.setHome_agenda (s : State) (i : Nat) (x : Home) : (s.setHome i x).agenda = s.agenda := rfl
@[simp] theorem State.setHome_stepNo (s : State) (i : Nat) (x : Home) : (s.setHome i x).stepNo = s.stepNo := rfl
@[simp] theorem State.setHome_actor (s : State) (i : Nat) (x : Home) : (s.setHome i x).actor = s.actor := rfl
@[simp] theorem State.setHome_event (s : State) (i : Nat) (x : Home) : (s.setHome i x).event = s.event := rfl
@[simp] theorem State.setHome_free (s : State) (i : Nat) (x : Home) : (s.setHome i x).free = s.free := rfl
@[simp] theorem State.setHome_fresh (s : State) (i : Nat) (x : Home) : (s.setHome i x).fresh = s.fresh := rfl
@[simp] theorem State.setHome_clock (s : State) (i : Nat) (x : Home) : (s.setHome i x).clock = s.clock := rfl
@[simp] theorem State.setHome_mem (s : State) (i : Nat) (x : Home) : (s.setHome i x).mem = s.mem := rfl
@[simp] theorem State.setHome_presence (s : State) (i : Nat) (x : Home) : (s.setHome i x).presence = s.presence := rfl
@[simp] theorem State.setHome_soft (s : State) (i : Nat) (x : Home) : (s.setHome i x).soft = s.soft := rfl
@[simp] theorem State.setHome_net (s : State) (i : Nat) (x : Home) : (s.setHome i x).net = s.net := rfl
@[simp] theorem State.setHome_loops (s : State) (i : Nat) (x : Home) : (s.setHome i x).loops = s.loops := rfl
@[simp] theorem State.setHome_farImages (s : State) (i : Nat) (x : Home) : (s.setHome i x).farImages = s.farImages := rfl
@[simp] theorem State.setHome_devices (s : State) (i : Nat) (x : Home) : (s.setHome i x).devices = s.devices := rfl
@[simp] theorem State.setHome_farEntries (s : State) (i : Nat) (x : Home) : (s.setHome i x).farEntries = s.farEntries := rfl
@[simp] theorem State.setHome_laybys (s : State) (i : Nat) (x : Home) : (s.setHome i x).laybys = s.laybys := rfl
@[simp] theorem State.setHome_places (s : State) (i : Nat) (x : Home) : (s.setHome i x).places = s.places := rfl
@[simp] theorem State.setHome_fused (s : State) (i : Nat) (x : Home) : (s.setHome i x).fused = s.fused := rfl
@[simp] theorem State.setHome_devId (s : State) (i : Nat) (x : Home) : (s.setHome i x).devId = s.devId := rfl
@[simp] theorem State.setHome_cores (s : State) (i : Nat) (x : Home) : (s.setHome i x).cores = s.cores := rfl
@[simp] theorem State.setHome_elems (s : State) (i : Nat) (x : Home) : (s.setHome i x).elems = s.elems := rfl
@[simp] theorem State.setHome_clusters (s : State) (i : Nat) (x : Home) : (s.setHome i x).clusters = s.clusters := rfl
@[simp] theorem State.setHome_dies (s : State) (i : Nat) (x : Home) : (s.setHome i x).dies = s.dies := rfl
@[simp] theorem State.setHome_homes (s : State) (i : Nat) (x : Home) : (s.setHome i x).homes = Tab.set Home.init s.homes i x := rfl
@[simp] theorem State.setHome_stewards (s : State) (i : Nat) (x : Home) : (s.setHome i x).stewards = s.stewards := rfl
@[simp] theorem State.setHome_pkg (s : State) (i : Nat) (x : Home) : (s.setHome i x).pkg = s.pkg := rfl
@[simp] theorem State.setHome_out (s : State) (i : Nat) (x : Home) : (s.setHome i x).out = s.out := rfl

@[simp] theorem State.setEngine_turn (s : State) (h : Nat) (x : Engine) : (s.setEngine h x).turn = s.turn := rfl
@[simp] theorem State.setEngine_agenda (s : State) (h : Nat) (x : Engine) : (s.setEngine h x).agenda = s.agenda := rfl
@[simp] theorem State.setEngine_stepNo (s : State) (h : Nat) (x : Engine) : (s.setEngine h x).stepNo = s.stepNo := rfl
@[simp] theorem State.setEngine_actor (s : State) (h : Nat) (x : Engine) : (s.setEngine h x).actor = s.actor := rfl
@[simp] theorem State.setEngine_event (s : State) (h : Nat) (x : Engine) : (s.setEngine h x).event = s.event := rfl
@[simp] theorem State.setEngine_free (s : State) (h : Nat) (x : Engine) : (s.setEngine h x).free = s.free := rfl
@[simp] theorem State.setEngine_fresh (s : State) (h : Nat) (x : Engine) : (s.setEngine h x).fresh = s.fresh := rfl
@[simp] theorem State.setEngine_clock (s : State) (h : Nat) (x : Engine) : (s.setEngine h x).clock = s.clock := rfl
@[simp] theorem State.setEngine_mem (s : State) (h : Nat) (x : Engine) : (s.setEngine h x).mem = s.mem := rfl
@[simp] theorem State.setEngine_presence (s : State) (h : Nat) (x : Engine) : (s.setEngine h x).presence = s.presence := rfl
@[simp] theorem State.setEngine_soft (s : State) (h : Nat) (x : Engine) : (s.setEngine h x).soft = s.soft := rfl
@[simp] theorem State.setEngine_net (s : State) (h : Nat) (x : Engine) : (s.setEngine h x).net = s.net := rfl
@[simp] theorem State.setEngine_loops (s : State) (h : Nat) (x : Engine) : (s.setEngine h x).loops = s.loops := rfl
@[simp] theorem State.setEngine_farImages (s : State) (h : Nat) (x : Engine) : (s.setEngine h x).farImages = s.farImages := rfl
@[simp] theorem State.setEngine_devices (s : State) (h : Nat) (x : Engine) : (s.setEngine h x).devices = s.devices := rfl
@[simp] theorem State.setEngine_farEntries (s : State) (h : Nat) (x : Engine) : (s.setEngine h x).farEntries = s.farEntries := rfl
@[simp] theorem State.setEngine_laybys (s : State) (h : Nat) (x : Engine) : (s.setEngine h x).laybys = s.laybys := rfl
@[simp] theorem State.setEngine_places (s : State) (h : Nat) (x : Engine) : (s.setEngine h x).places = s.places := rfl
@[simp] theorem State.setEngine_fused (s : State) (h : Nat) (x : Engine) : (s.setEngine h x).fused = s.fused := rfl
@[simp] theorem State.setEngine_devId (s : State) (h : Nat) (x : Engine) : (s.setEngine h x).devId = s.devId := rfl
@[simp] theorem State.setEngine_cores (s : State) (h : Nat) (x : Engine) : (s.setEngine h x).cores = s.cores := rfl
@[simp] theorem State.setEngine_elems (s : State) (h : Nat) (x : Engine) : (s.setEngine h x).elems = s.elems := rfl
@[simp] theorem State.setEngine_clusters (s : State) (h : Nat) (x : Engine) : (s.setEngine h x).clusters = s.clusters := rfl
@[simp] theorem State.setEngine_dies (s : State) (h : Nat) (x : Engine) : (s.setEngine h x).dies = s.dies := rfl
@[simp] theorem State.setEngine_homes (s : State) (h : Nat) (x : Engine) : (s.setEngine h x).homes = s.homes := rfl
@[simp] theorem State.setEngine_stewards (s : State) (h : Nat) (x : Engine) : (s.setEngine h x).stewards = s.stewards := rfl
@[simp] theorem State.setEngine_pkg (s : State) (h : Nat) (x : Engine) : (s.setEngine h x).pkg = { s.pkg with engines := Tab.set Engine.init s.pkg.engines h x } := rfl
@[simp] theorem State.setEngine_out (s : State) (h : Nat) (x : Engine) : (s.setEngine h x).out = s.out := rfl

@[simp] theorem State.writeByte_turn (s : State) (a : Nat) (b : Byte) : (s.writeByte a b).turn = s.turn := rfl
@[simp] theorem State.writeByte_agenda (s : State) (a : Nat) (b : Byte) : (s.writeByte a b).agenda = s.agenda := rfl
@[simp] theorem State.writeByte_stepNo (s : State) (a : Nat) (b : Byte) : (s.writeByte a b).stepNo = s.stepNo := rfl
@[simp] theorem State.writeByte_actor (s : State) (a : Nat) (b : Byte) : (s.writeByte a b).actor = s.actor := rfl
@[simp] theorem State.writeByte_event (s : State) (a : Nat) (b : Byte) : (s.writeByte a b).event = s.event := rfl
@[simp] theorem State.writeByte_free (s : State) (a : Nat) (b : Byte) : (s.writeByte a b).free = s.free := rfl
@[simp] theorem State.writeByte_fresh (s : State) (a : Nat) (b : Byte) : (s.writeByte a b).fresh = s.fresh := rfl
@[simp] theorem State.writeByte_clock (s : State) (a : Nat) (b : Byte) : (s.writeByte a b).clock = s.clock := rfl
@[simp] theorem State.writeByte_mem (s : State) (a : Nat) (b : Byte) : (s.writeByte a b).mem = Tab.set Memory.unlisted s.mem a b := rfl
@[simp] theorem State.writeByte_presence (s : State) (a : Nat) (b : Byte) : (s.writeByte a b).presence = s.presence := rfl
@[simp] theorem State.writeByte_soft (s : State) (a : Nat) (b : Byte) : (s.writeByte a b).soft = s.soft := rfl
@[simp] theorem State.writeByte_net (s : State) (a : Nat) (b : Byte) : (s.writeByte a b).net = s.net := rfl
@[simp] theorem State.writeByte_loops (s : State) (a : Nat) (b : Byte) : (s.writeByte a b).loops = s.loops := rfl
@[simp] theorem State.writeByte_farImages (s : State) (a : Nat) (b : Byte) : (s.writeByte a b).farImages = s.farImages := rfl
@[simp] theorem State.writeByte_devices (s : State) (a : Nat) (b : Byte) : (s.writeByte a b).devices = s.devices := rfl
@[simp] theorem State.writeByte_farEntries (s : State) (a : Nat) (b : Byte) : (s.writeByte a b).farEntries = s.farEntries := rfl
@[simp] theorem State.writeByte_laybys (s : State) (a : Nat) (b : Byte) : (s.writeByte a b).laybys = s.laybys := rfl
@[simp] theorem State.writeByte_places (s : State) (a : Nat) (b : Byte) : (s.writeByte a b).places = s.places := rfl
@[simp] theorem State.writeByte_fused (s : State) (a : Nat) (b : Byte) : (s.writeByte a b).fused = s.fused := rfl
@[simp] theorem State.writeByte_devId (s : State) (a : Nat) (b : Byte) : (s.writeByte a b).devId = s.devId := rfl
@[simp] theorem State.writeByte_cores (s : State) (a : Nat) (b : Byte) : (s.writeByte a b).cores = s.cores := rfl
@[simp] theorem State.writeByte_elems (s : State) (a : Nat) (b : Byte) : (s.writeByte a b).elems = s.elems := rfl
@[simp] theorem State.writeByte_clusters (s : State) (a : Nat) (b : Byte) : (s.writeByte a b).clusters = s.clusters := rfl
@[simp] theorem State.writeByte_dies (s : State) (a : Nat) (b : Byte) : (s.writeByte a b).dies = s.dies := rfl
@[simp] theorem State.writeByte_homes (s : State) (a : Nat) (b : Byte) : (s.writeByte a b).homes = s.homes := rfl
@[simp] theorem State.writeByte_stewards (s : State) (a : Nat) (b : Byte) : (s.writeByte a b).stewards = s.stewards := rfl
@[simp] theorem State.writeByte_pkg (s : State) (a : Nat) (b : Byte) : (s.writeByte a b).pkg = s.pkg := rfl
@[simp] theorem State.writeByte_out (s : State) (a : Nat) (b : Byte) : (s.writeByte a b).out = s.out := rfl

@[simp] theorem State.setPresent_turn (s : State) (a : Nat) (b : Bool) : (s.setPresent a b).turn = s.turn := rfl
@[simp] theorem State.setPresent_agenda (s : State) (a : Nat) (b : Bool) : (s.setPresent a b).agenda = s.agenda := rfl
@[simp] theorem State.setPresent_stepNo (s : State) (a : Nat) (b : Bool) : (s.setPresent a b).stepNo = s.stepNo := rfl
@[simp] theorem State.setPresent_actor (s : State) (a : Nat) (b : Bool) : (s.setPresent a b).actor = s.actor := rfl
@[simp] theorem State.setPresent_event (s : State) (a : Nat) (b : Bool) : (s.setPresent a b).event = s.event := rfl
@[simp] theorem State.setPresent_free (s : State) (a : Nat) (b : Bool) : (s.setPresent a b).free = s.free := rfl
@[simp] theorem State.setPresent_fresh (s : State) (a : Nat) (b : Bool) : (s.setPresent a b).fresh = s.fresh := rfl
@[simp] theorem State.setPresent_clock (s : State) (a : Nat) (b : Bool) : (s.setPresent a b).clock = s.clock := rfl
@[simp] theorem State.setPresent_mem (s : State) (a : Nat) (b : Bool) : (s.setPresent a b).mem = s.mem := rfl
@[simp] theorem State.setPresent_presence (s : State) (a : Nat) (b : Bool) : (s.setPresent a b).presence = Tab.set false s.presence (a / 8) b := rfl
@[simp] theorem State.setPresent_soft (s : State) (a : Nat) (b : Bool) : (s.setPresent a b).soft = s.soft := rfl
@[simp] theorem State.setPresent_net (s : State) (a : Nat) (b : Bool) : (s.setPresent a b).net = s.net := rfl
@[simp] theorem State.setPresent_loops (s : State) (a : Nat) (b : Bool) : (s.setPresent a b).loops = s.loops := rfl
@[simp] theorem State.setPresent_farImages (s : State) (a : Nat) (b : Bool) : (s.setPresent a b).farImages = s.farImages := rfl
@[simp] theorem State.setPresent_devices (s : State) (a : Nat) (b : Bool) : (s.setPresent a b).devices = s.devices := rfl
@[simp] theorem State.setPresent_farEntries (s : State) (a : Nat) (b : Bool) : (s.setPresent a b).farEntries = s.farEntries := rfl
@[simp] theorem State.setPresent_laybys (s : State) (a : Nat) (b : Bool) : (s.setPresent a b).laybys = s.laybys := rfl
@[simp] theorem State.setPresent_places (s : State) (a : Nat) (b : Bool) : (s.setPresent a b).places = s.places := rfl
@[simp] theorem State.setPresent_fused (s : State) (a : Nat) (b : Bool) : (s.setPresent a b).fused = s.fused := rfl
@[simp] theorem State.setPresent_devId (s : State) (a : Nat) (b : Bool) : (s.setPresent a b).devId = s.devId := rfl
@[simp] theorem State.setPresent_cores (s : State) (a : Nat) (b : Bool) : (s.setPresent a b).cores = s.cores := rfl
@[simp] theorem State.setPresent_elems (s : State) (a : Nat) (b : Bool) : (s.setPresent a b).elems = s.elems := rfl
@[simp] theorem State.setPresent_clusters (s : State) (a : Nat) (b : Bool) : (s.setPresent a b).clusters = s.clusters := rfl
@[simp] theorem State.setPresent_dies (s : State) (a : Nat) (b : Bool) : (s.setPresent a b).dies = s.dies := rfl
@[simp] theorem State.setPresent_homes (s : State) (a : Nat) (b : Bool) : (s.setPresent a b).homes = s.homes := rfl
@[simp] theorem State.setPresent_stewards (s : State) (a : Nat) (b : Bool) : (s.setPresent a b).stewards = s.stewards := rfl
@[simp] theorem State.setPresent_pkg (s : State) (a : Nat) (b : Bool) : (s.setPresent a b).pkg = s.pkg := rfl
@[simp] theorem State.setPresent_out (s : State) (a : Nat) (b : Bool) : (s.setPresent a b).out = s.out := rfl

/-! ## Bytes in a row -/

@[simp] theorem State.writeBytes_turn (s : State) (a : Nat) (bs : List Byte) : (s.writeBytes a bs).turn = s.turn := by
  induction bs generalizing s a with
  | nil => rfl
  | cons b rest ih => simp [State.writeBytes, ih]
@[simp] theorem State.writeNum_turn (s : State) (a n v : Nat) : (s.writeNum a n v).turn = s.turn := by simp [State.writeNum]
@[simp] theorem State.writeBytes_agenda (s : State) (a : Nat) (bs : List Byte) : (s.writeBytes a bs).agenda = s.agenda := by
  induction bs generalizing s a with
  | nil => rfl
  | cons b rest ih => simp [State.writeBytes, ih]
@[simp] theorem State.writeNum_agenda (s : State) (a n v : Nat) : (s.writeNum a n v).agenda = s.agenda := by simp [State.writeNum]
@[simp] theorem State.writeBytes_stepNo (s : State) (a : Nat) (bs : List Byte) : (s.writeBytes a bs).stepNo = s.stepNo := by
  induction bs generalizing s a with
  | nil => rfl
  | cons b rest ih => simp [State.writeBytes, ih]
@[simp] theorem State.writeNum_stepNo (s : State) (a n v : Nat) : (s.writeNum a n v).stepNo = s.stepNo := by simp [State.writeNum]
@[simp] theorem State.writeBytes_actor (s : State) (a : Nat) (bs : List Byte) : (s.writeBytes a bs).actor = s.actor := by
  induction bs generalizing s a with
  | nil => rfl
  | cons b rest ih => simp [State.writeBytes, ih]
@[simp] theorem State.writeNum_actor (s : State) (a n v : Nat) : (s.writeNum a n v).actor = s.actor := by simp [State.writeNum]
@[simp] theorem State.writeBytes_event (s : State) (a : Nat) (bs : List Byte) : (s.writeBytes a bs).event = s.event := by
  induction bs generalizing s a with
  | nil => rfl
  | cons b rest ih => simp [State.writeBytes, ih]
@[simp] theorem State.writeNum_event (s : State) (a n v : Nat) : (s.writeNum a n v).event = s.event := by simp [State.writeNum]
@[simp] theorem State.writeBytes_free (s : State) (a : Nat) (bs : List Byte) : (s.writeBytes a bs).free = s.free := by
  induction bs generalizing s a with
  | nil => rfl
  | cons b rest ih => simp [State.writeBytes, ih]
@[simp] theorem State.writeNum_free (s : State) (a n v : Nat) : (s.writeNum a n v).free = s.free := by simp [State.writeNum]
@[simp] theorem State.writeBytes_fresh (s : State) (a : Nat) (bs : List Byte) : (s.writeBytes a bs).fresh = s.fresh := by
  induction bs generalizing s a with
  | nil => rfl
  | cons b rest ih => simp [State.writeBytes, ih]
@[simp] theorem State.writeNum_fresh (s : State) (a n v : Nat) : (s.writeNum a n v).fresh = s.fresh := by simp [State.writeNum]
@[simp] theorem State.writeBytes_clock (s : State) (a : Nat) (bs : List Byte) : (s.writeBytes a bs).clock = s.clock := by
  induction bs generalizing s a with
  | nil => rfl
  | cons b rest ih => simp [State.writeBytes, ih]
@[simp] theorem State.writeNum_clock (s : State) (a n v : Nat) : (s.writeNum a n v).clock = s.clock := by simp [State.writeNum]
@[simp] theorem State.writeBytes_presence (s : State) (a : Nat) (bs : List Byte) : (s.writeBytes a bs).presence = s.presence := by
  induction bs generalizing s a with
  | nil => rfl
  | cons b rest ih => simp [State.writeBytes, ih]
@[simp] theorem State.writeNum_presence (s : State) (a n v : Nat) : (s.writeNum a n v).presence = s.presence := by simp [State.writeNum]
@[simp] theorem State.writeBytes_soft (s : State) (a : Nat) (bs : List Byte) : (s.writeBytes a bs).soft = s.soft := by
  induction bs generalizing s a with
  | nil => rfl
  | cons b rest ih => simp [State.writeBytes, ih]
@[simp] theorem State.writeNum_soft (s : State) (a n v : Nat) : (s.writeNum a n v).soft = s.soft := by simp [State.writeNum]
@[simp] theorem State.writeBytes_net (s : State) (a : Nat) (bs : List Byte) : (s.writeBytes a bs).net = s.net := by
  induction bs generalizing s a with
  | nil => rfl
  | cons b rest ih => simp [State.writeBytes, ih]
@[simp] theorem State.writeNum_net (s : State) (a n v : Nat) : (s.writeNum a n v).net = s.net := by simp [State.writeNum]
@[simp] theorem State.writeBytes_loops (s : State) (a : Nat) (bs : List Byte) : (s.writeBytes a bs).loops = s.loops := by
  induction bs generalizing s a with
  | nil => rfl
  | cons b rest ih => simp [State.writeBytes, ih]
@[simp] theorem State.writeNum_loops (s : State) (a n v : Nat) : (s.writeNum a n v).loops = s.loops := by simp [State.writeNum]
@[simp] theorem State.writeBytes_farImages (s : State) (a : Nat) (bs : List Byte) : (s.writeBytes a bs).farImages = s.farImages := by
  induction bs generalizing s a with
  | nil => rfl
  | cons b rest ih => simp [State.writeBytes, ih]
@[simp] theorem State.writeBytes_devices (s : State) (a : Nat) (bs : List Byte) : (s.writeBytes a bs).devices = s.devices := by
  induction bs generalizing s a with
  | nil => rfl
  | cons b rest ih => simp [State.writeBytes, ih]
@[simp] theorem State.writeBytes_farEntries (s : State) (a : Nat) (bs : List Byte) : (s.writeBytes a bs).farEntries = s.farEntries := by
  induction bs generalizing s a with
  | nil => rfl
  | cons b rest ih => simp [State.writeBytes, ih]
@[simp] theorem State.writeNum_farImages (s : State) (a n v : Nat) : (s.writeNum a n v).farImages = s.farImages := by simp [State.writeNum]
@[simp] theorem State.writeNum_devices (s : State) (a n v : Nat) : (s.writeNum a n v).devices = s.devices := by simp [State.writeNum]
@[simp] theorem State.writeNum_farEntries (s : State) (a n v : Nat) : (s.writeNum a n v).farEntries = s.farEntries := by simp [State.writeNum]
@[simp] theorem State.writeBytes_laybys (s : State) (a : Nat) (bs : List Byte) : (s.writeBytes a bs).laybys = s.laybys := by
  induction bs generalizing s a with
  | nil => rfl
  | cons b rest ih => simp [State.writeBytes, ih]
@[simp] theorem State.writeNum_laybys (s : State) (a n v : Nat) : (s.writeNum a n v).laybys = s.laybys := by simp [State.writeNum]
@[simp] theorem State.writeBytes_places (s : State) (a : Nat) (bs : List Byte) : (s.writeBytes a bs).places = s.places := by
  induction bs generalizing s a with
  | nil => rfl
  | cons b rest ih => simp [State.writeBytes, ih]
@[simp] theorem State.writeNum_places (s : State) (a n v : Nat) : (s.writeNum a n v).places = s.places := by simp [State.writeNum]
@[simp] theorem State.writeBytes_fused (s : State) (a : Nat) (bs : List Byte) : (s.writeBytes a bs).fused = s.fused := by
  induction bs generalizing s a with
  | nil => rfl
  | cons b rest ih => simp [State.writeBytes, ih]
@[simp] theorem State.writeNum_fused (s : State) (a n v : Nat) : (s.writeNum a n v).fused = s.fused := by simp [State.writeNum]
@[simp] theorem State.writeBytes_devId (s : State) (a : Nat) (bs : List Byte) : (s.writeBytes a bs).devId = s.devId := by
  induction bs generalizing s a with
  | nil => rfl
  | cons b rest ih => simp [State.writeBytes, ih]
@[simp] theorem State.writeNum_devId (s : State) (a n v : Nat) : (s.writeNum a n v).devId = s.devId := by simp [State.writeNum]
@[simp] theorem State.writeBytes_cores (s : State) (a : Nat) (bs : List Byte) : (s.writeBytes a bs).cores = s.cores := by
  induction bs generalizing s a with
  | nil => rfl
  | cons b rest ih => simp [State.writeBytes, ih]
@[simp] theorem State.writeNum_cores (s : State) (a n v : Nat) : (s.writeNum a n v).cores = s.cores := by simp [State.writeNum]
@[simp] theorem State.writeBytes_elems (s : State) (a : Nat) (bs : List Byte) : (s.writeBytes a bs).elems = s.elems := by
  induction bs generalizing s a with
  | nil => rfl
  | cons b rest ih => simp [State.writeBytes, ih]
@[simp] theorem State.writeNum_elems (s : State) (a n v : Nat) : (s.writeNum a n v).elems = s.elems := by simp [State.writeNum]
@[simp] theorem State.writeBytes_clusters (s : State) (a : Nat) (bs : List Byte) : (s.writeBytes a bs).clusters = s.clusters := by
  induction bs generalizing s a with
  | nil => rfl
  | cons b rest ih => simp [State.writeBytes, ih]
@[simp] theorem State.writeNum_clusters (s : State) (a n v : Nat) : (s.writeNum a n v).clusters = s.clusters := by simp [State.writeNum]
@[simp] theorem State.writeBytes_dies (s : State) (a : Nat) (bs : List Byte) : (s.writeBytes a bs).dies = s.dies := by
  induction bs generalizing s a with
  | nil => rfl
  | cons b rest ih => simp [State.writeBytes, ih]
@[simp] theorem State.writeNum_dies (s : State) (a n v : Nat) : (s.writeNum a n v).dies = s.dies := by simp [State.writeNum]
@[simp] theorem State.writeBytes_homes (s : State) (a : Nat) (bs : List Byte) : (s.writeBytes a bs).homes = s.homes := by
  induction bs generalizing s a with
  | nil => rfl
  | cons b rest ih => simp [State.writeBytes, ih]
@[simp] theorem State.writeNum_homes (s : State) (a n v : Nat) : (s.writeNum a n v).homes = s.homes := by simp [State.writeNum]
@[simp] theorem State.writeBytes_stewards (s : State) (a : Nat) (bs : List Byte) : (s.writeBytes a bs).stewards = s.stewards := by
  induction bs generalizing s a with
  | nil => rfl
  | cons b rest ih => simp [State.writeBytes, ih]
@[simp] theorem State.writeNum_stewards (s : State) (a n v : Nat) : (s.writeNum a n v).stewards = s.stewards := by simp [State.writeNum]
@[simp] theorem State.writeBytes_pkg (s : State) (a : Nat) (bs : List Byte) : (s.writeBytes a bs).pkg = s.pkg := by
  induction bs generalizing s a with
  | nil => rfl
  | cons b rest ih => simp [State.writeBytes, ih]
@[simp] theorem State.writeNum_pkg (s : State) (a n v : Nat) : (s.writeNum a n v).pkg = s.pkg := by simp [State.writeNum]
@[simp] theorem State.writeBytes_out (s : State) (a : Nat) (bs : List Byte) : (s.writeBytes a bs).out = s.out := by
  induction bs generalizing s a with
  | nil => rfl
  | cons b rest ih => simp [State.writeBytes, ih]
@[simp] theorem State.writeNum_out (s : State) (a n v : Nat) : (s.writeNum a n v).out = s.out := by simp [State.writeNum]

/-! ## Units after an update -/

@[simp] theorem setAt_length {α : Type} (l : List α) (n : Nat) (x : α) : (setAt l n x).length = l.length := by simp [setAt]

theorem getD_setAt_self {α : Type} {l : List α} {n : Nat} {x d : α} (h : n < l.length) : (setAt l n x).getD n d = x := by
  simp [setAt, List.getD, h]

theorem getD_setAt_ne {α : Type} {l : List α} {n m : Nat} {x d : α} (h : m ≠ n) : (setAt l n x).getD m d = l.getD m d := by
  simp [setAt, List.getD, List.getElem?_set_ne (Ne.symm h)]

/-- A steward-mode core reads as it was written. -/
theorem State.stew_setStew {s : State} {n : Nat} {x : Stew} (h : n < s.stewards.length) : (s.setStew n x).stew n = x :=
  getD_setAt_self h

/-- Writing one steward-mode core leaves the others. -/
theorem State.stew_setStew_ne {s : State} {n m : Nat} {x : Stew} (h : m ≠ n) : (s.setStew n x).stew m = s.stew m := getD_setAt_ne h

/-- A cluster reads as it was written. -/
theorem State.cluster_setCluster {s : State} {n : Nat} {x : Cluster} (h : n < s.clusters.length) : (s.setCluster n x).cluster n = x :=
  getD_setAt_self h

/-- Writing one cluster leaves the others. -/
theorem State.cluster_setCluster_ne {s : State} {n m : Nat} {x : Cluster} (h : m ≠ n) :
    (s.setCluster n x).cluster m = s.cluster m := getD_setAt_ne h

/-- A die reads as it was written. -/
theorem State.die_setDie {s : State} {n : Nat} {x : Die} (h : n < s.dies.length) : (s.setDie n x).die n = x := getD_setAt_self h

/-- Writing one die leaves the others. -/
theorem State.die_setDie_ne {s : State} {n m : Nat} {x : Die} (h : m ≠ n) : (s.setDie n x).die m = s.die m := getD_setAt_ne h

/-- An element reads as it was written. -/
@[simp] theorem State.elem_setElem {s : State} {e : Nat} {x : Elem} : (s.setElem e x).elem e = x :=
  Tab.get_set_self

/-- Writing one element leaves the others. -/
theorem State.elem_setElem_ne {s : State} {e f : Nat} {x : Elem} (hf : f ≠ e) :
    (s.setElem e x).elem f = s.elem f := Tab.get_set_ne hf

/-- A core reads as it was written. -/
@[simp] theorem State.core_setCore {s : State} {c : Nat} {x : Core} : (s.setCore c x).core c = x :=
  Tab.get_set_self

/-- Writing one core leaves the others. -/
theorem State.core_setCore_ne {s : State} {c k : Nat} {x : Core} (hk : k ≠ c) :
    (s.setCore c x).core k = s.core k := Tab.get_set_ne hk

/-- A home aggregator reads as it was written. -/
@[simp] theorem State.home_setHome {s : State} {i : Nat} {x : Home} : (s.setHome i x).home i = x :=
  Tab.get_set_self

/-- Writing one home aggregator leaves the others. -/
theorem State.home_setHome_ne {s : State} {i k : Nat} {x : Home} (hk : k ≠ i) : (s.setHome i x).home k = s.home k := Tab.get_set_ne hk

/-- An engine context reads as it was written. -/
@[simp] theorem State.engine_setEngine {s : State} {i : Nat} {x : Engine} : (s.setEngine i x).engine i = x := Tab.get_set_self

/-! ## Memory -/

/-- A byte reads as it was written. -/
@[simp] theorem State.readByte_writeByte {s : State} {a : Nat} {b : Byte} : (s.writeByte a b).readByte a = b :=
  Tab.get_set_self

/-- Writing a byte leaves every other one. -/
theorem State.readByte_writeByte_ne {s : State} {a c : Nat} {b : Byte} (hc : c ≠ a) :
    (s.writeByte a b).readByte c = s.readByte c := Tab.get_set_ne hc

/-- Writing a byte keeps memory canonical. -/
theorem State.writeByte_wf {s : State} {a : Nat} {b : Byte} (h : Memory.wf s.mem = true) : Memory.wf (s.writeByte a b).mem = true :=
  Tab.wf_set h

/-- Writing bytes keeps memory canonical. -/
theorem State.writeBytes_wf {s : State} {a : Nat} {bs : List Byte} (h : Memory.wf s.mem = true) :
    Memory.wf (s.writeBytes a bs).mem = true := by
  induction bs generalizing s a with
  | nil => exact h
  | cons b rest ih => exact ih (State.writeByte_wf h)

/-- Writing a number keeps memory canonical. -/
theorem State.writeNum_wf {s : State} {a n v : Nat} (h : Memory.wf s.mem = true) : Memory.wf (s.writeNum a n v).mem = true :=
  State.writeBytes_wf h

/-- Leaving out cells keeps memory canonical. -/
theorem Memory.wf_filter {m : List Host.Cell} {p : Host.Cell → Bool} (h : Memory.wf m = true) : Memory.wf (m.filter p) = true :=
  Tab.wf_filter h

/-- Writing bytes leaves those outside the range. -/
theorem State.readByte_writeBytes_out {s : State} {a c : Nat} {bs : List Byte}
    (hc : c < a ∨ a + bs.length ≤ c) : (s.writeBytes a bs).readByte c = s.readByte c := by
  induction bs generalizing s a with
  | nil => rfl
  | cons b rest ih =>
    simp only [List.length_cons] at hc
    rw [State.writeBytes, ih (by omega), State.readByte_writeByte_ne (by omega)]

/-! ## Agents -/

@[simp] theorem Agent.store_turn (s : State) (x : Agent) : (x.store s).turn = s.turn := by cases x <;> rfl
@[simp] theorem Agent.store_agenda (s : State) (x : Agent) : (x.store s).agenda = s.agenda := by cases x <;> rfl
@[simp] theorem Agent.store_stepNo (s : State) (x : Agent) : (x.store s).stepNo = s.stepNo := by cases x <;> rfl
@[simp] theorem Agent.store_actor (s : State) (x : Agent) : (x.store s).actor = s.actor := by cases x <;> rfl
@[simp] theorem Agent.store_event (s : State) (x : Agent) : (x.store s).event = s.event := by cases x <;> rfl
@[simp] theorem Agent.store_free (s : State) (x : Agent) : (x.store s).free = s.free := by cases x <;> rfl
@[simp] theorem Agent.store_fresh (s : State) (x : Agent) : (x.store s).fresh = s.fresh := by cases x <;> rfl
@[simp] theorem Agent.store_clock (s : State) (x : Agent) : (x.store s).clock = s.clock := by cases x <;> rfl
@[simp] theorem Agent.store_mem (s : State) (x : Agent) : (x.store s).mem = s.mem := by cases x <;> rfl
@[simp] theorem Agent.store_presence (s : State) (x : Agent) : (x.store s).presence = s.presence := by cases x <;> rfl
@[simp] theorem Agent.store_soft (s : State) (x : Agent) : (x.store s).soft = s.soft := by cases x <;> rfl
@[simp] theorem Agent.store_net (s : State) (x : Agent) : (x.store s).net = s.net := by cases x <;> rfl
@[simp] theorem Agent.store_loops (s : State) (x : Agent) : (x.store s).loops = s.loops := by cases x <;> rfl
@[simp] theorem Agent.store_farImages (s : State) (x : Agent) : (x.store s).farImages = s.farImages := by cases x <;> rfl
@[simp] theorem Agent.store_devices (s : State) (x : Agent) : (x.store s).devices = s.devices := by cases x <;> rfl
@[simp] theorem Agent.store_farEntries (s : State) (x : Agent) : (x.store s).farEntries = s.farEntries := by cases x <;> rfl
@[simp] theorem Agent.store_laybys (s : State) (x : Agent) : (x.store s).laybys = s.laybys := by cases x <;> rfl
@[simp] theorem Agent.store_places (s : State) (x : Agent) : (x.store s).places = s.places := by cases x <;> rfl
@[simp] theorem Agent.store_fused (s : State) (x : Agent) : (x.store s).fused = s.fused := by cases x <;> rfl
@[simp] theorem Agent.store_devId (s : State) (x : Agent) : (x.store s).devId = s.devId := by cases x <;> rfl
@[simp] theorem Agent.store_cores (s : State) (x : Agent) : (x.store s).cores = s.cores := by cases x <;> rfl
@[simp] theorem Agent.store_clusters (s : State) (x : Agent) : (x.store s).clusters = s.clusters := by cases x <;> rfl
@[simp] theorem Agent.store_dies (s : State) (x : Agent) : (x.store s).dies = s.dies := by cases x <;> rfl
@[simp] theorem Agent.store_homes (s : State) (x : Agent) : (x.store s).homes = s.homes := by cases x <;> rfl
@[simp] theorem Agent.store_pkg (s : State) (x : Agent) : (x.store s).pkg = s.pkg := by cases x <;> rfl
@[simp] theorem Agent.store_out (s : State) (x : Agent) : (x.store s).out = s.out := by cases x <;> rfl

end Sys2Proof.Machine
end

