-- ==== Sys2Proof/Tests/Slice0.lean ====
section
/-! SUPPORT. Small tests of the model: words from the spec's encodings, ill-formed terms, single steps, and for each statement
with hypotheses a state and operands that meet them. -/

namespace Sys2Proof.Tests
open Machine Safety

set_option Elab.async false

/-- The fields of a word. -/
def ops (e : Bool) (ty : Ty) (sh : Shape) (m : BitVec 2) (d a b : Spec) (x : BitVec 29) : Ops :=
  { e := e, ty := ty, sh := sh, m := m, d := d, a := a, b := b, x := x }

/-- A scalar word of type b64. -/
def plain (d a b : Spec) (x : BitVec 29) : Ops := ops false .b64 .scalar 0 d a b x

/-! ## Words and the instructions that they stand for, as the spec gives both -/

/-- R25. -/
theorem test_decode_fmul : decode .firing 0x422000C3A7E00000 =
    .ok (.fmul (ops false .f32 .scalar 0 (.t 0) .il .imm 0x7E00000)) := rfl
/-- R25. -/
theorem test_decode_send : decode .firing 0x90883EC382860000 =
    .ok (.send (ops true .b32 .scalar 0 .nul .il .zero 0x2860000)) := rfl
/-- R129. -/
theorem test_decode_nop : decode .firing 0x00803EE380000000 =
    .ok (.nop (ops true .b64 .scalar 0 .nul .zero .zero 0x0)) := rfl
/-- R130. -/
theorem test_decode_add : decode .firing 0x01088403BFFFFFFB =
    .ok (.add (ops false .b32 .scalar 1 (.t 2) (.t 0) .imm 0x1FFFFFFB)) := rfl
/-- R141. -/
theorem test_decode_ffma : decode .firing 0x432006C201800000 =
    .ok (.ffma (ops false .f32 .scalar 0 (.t 3) .il (.k 0) 0x1800000)) := rfl
/-- R150. -/
theorem test_decode_fcvt : decode .firing 0x5538020380000014 =
    .ok (.fcvt (ops false .e4m3 .scalar 0 (.t 1) (.t 0) .zero 0x14)) := rfl
/-- R192. -/
theorem test_decode_reqn : decode .firing 0x93003EDB81000000 =
    .ok (.reqn (ops false .b64 .scalar 0 .nul .ts .zero 0x1000000)) := rfl
/-- R191. -/
theorem test_decode_steer : decode .firing 0x92083EC344000000 =
    .ok (.steer (ops false .b32 .scalar 0 .nul .il .ip 0x4000000)) := rfl
/-- R193. -/
theorem test_decode_tsget : decode .firing 0x940006DB80000002 =
    .ok (.tsget (ops false .b64 .scalar 0 (.t 3) .ts .zero 0x2)) := rfl
/-- R234. -/
theorem test_decode_ld : decode .firing 0xA008008B81000040 =
    .ok (.ld (ops false .b32 .scalar 0 (.t 0) (.k 1) .zero 0x1000040)) := rfl
/-- R238. -/
theorem test_decode_stp : decode .firing 0xA3003E08A58C0008 =
    .ok (.stp (ops false .b64 .scalar 0 .nul (.t 1) (.t 5) 0x58C0008)) := rfl
/-- R240. -/
theorem test_decode_atomr : decode .firing 0xA6003E106D882010 =
    .ok (.atomr (ops false .b64 .scalar 0 .nul (.t 2) (.t 3) 0xD882010)) := rfl
/-- R287. -/
theorem test_decode_shcfg : decode .firing 0xC7003E8229000000 =
    .ok (.shcfg (ops false .b64 .scalar 0 .nul (.k 0) (.k 1) 0x9000000)) := rfl
/-- R289. -/
theorem test_decode_shcut : decode .firing 0xC80000E382800000 =
    .ok (.shcut (ops false .b64 .scalar 0 (.t 0) .zero .zero 0x2800000)) := rfl
/-- R295. -/
theorem test_decode_shco : decode .firing 0xCA3A129B80000000 =
    .ok (.shco (ops false .e4m3 .vector 0 (.v 1) (.k 3) .zero 0x0)) := rfl
/-- R298. -/
theorem test_decode_isect : decode .firing 0xCC02024120000000 =
    .ok (.isect (ops false .b64 .vector 0 (.t 1) (.v 0) (.v 1) 0x0)) := rfl
/-- R269. -/
theorem test_decode_mxcfg : decode .firing 0xC0203EE380000000 =
    .ok (.mxcfg (ops false .f32 .scalar 0 .nul .zero .zero 0x0)) := rfl
/-- R273. -/
theorem test_decode_mxfeed : decode .firing 0xC23A3EC220000000 =
    .ok (.mxfeed (ops false .e4m3 .vector 0 .nul .il (.k 1) 0x0)) := rfl
/-- R275. -/
theorem test_decode_mxdrn : decode .firing 0xC32214E240000000 =
    .ok (.mxdrn (ops false .f32 .vector 0 (.v 2) .zero (.k 2) 0x0)) := rfl
/-- R270. -/
theorem test_decode_nmsel : decode .firing 0xCE3A16C200000001 =
    .ok (.nmsel (ops false .e4m3 .vector 0 (.v 3) .il (.k 0) 0x1)) := rfl
/-- R401. -/
theorem test_decode_copy : decode .firing 0xD0003E802909A800 =
    .ok (.copy (ops false .b64 .scalar 0 .nul (.k 0) (.t 1) 0x909A800)) := rfl
/-- R402. -/
theorem test_decode_istrm : decode .firing 0xD1003EA04A858000 =
    .ok (.istrm (ops false .b64 .scalar 0 .nul (.k 4) (.t 2) 0xA858000)) := rfl
/-- R403. -/
theorem test_decode_tlwait : decode .firing 0xD2003E9840140000 =
    .ok (.tlwait (ops false .b64 .scalar 0 .nul (.k 3) (.t 2) 0x140000)) := rfl
/-- R444. -/
theorem test_decode_sendm : decode .firing 0x950A3E4B83800000 =
    .ok (.sendm (ops false .b32 .vector 0 .nul (.v 1) .zero 0x3800000)) := rfl
/-- R442. -/
theorem test_decode_join : decode .firing 0x96003EE383208000 =
    .ok (.join (ops false .b64 .scalar 0 .nul .zero .zero 0x3208000)) := rfl
/-- R438. -/
theorem test_decode_rld : decode .firing 0xD5003E12AE058010 =
    .ok (.rld (ops false .b64 .scalar 0 .nul (.t 2) (.k 5) 0xE058010)) := rfl
/-- R446. -/
theorem test_decode_coll : decode .firing 0xD4203E82291860D8 =
    .ok (.coll (ops false .f32 .scalar 0 .nul (.k 0) (.k 1) 0x91860D8)) := rfl
/-- R463. -/
theorem test_decode_ownq : decode .firing 0xD9003E13800C0000 =
    .ok (.ownq (ops false .b64 .scalar 0 .nul (.t 2) .zero 0xC0000)) := rfl
/-- R46. -/
theorem test_decode_ld_2 : decode .steward 0xA0084B138D03FFF8 =
    .ok (.ld (ops false .b32 .scalar 0 (.g 5) (.g 2) .zero 0xD03FFF8)) := rfl
/-- R404. -/
theorem test_decode_tlrd : decode .steward 0xD300494B80000002 =
    .ok (.tlrd (ops false .b64 .scalar 0 (.g 4) (.g 9) .zero 0x2)) := rfl
/-- R463. -/
theorem test_decode_migr : decode .steward 0xD800470C40000000 =
    .ok (.migr (ops false .b64 .scalar 0 (.g 3) (.g 1) (.g 2) 0x0)) := rfl
/-- R464. -/
theorem test_decode_owninv : decode .steward 0xDA003F0B80000000 =
    .ok (.owninv (ops false .b64 .scalar 0 .nul (.g 1) .zero 0x0)) := rfl
/-- R463. -/
theorem test_decode_sgnrcl : decode .steward 0xDB004B0B80000000 =
    .ok (.sgnrcl (ops false .b64 .scalar 0 (.g 5) (.g 1) .zero 0x0)) := rfl
/-- R347. -/
theorem test_decode_swait : decode .steward 0xED0042EB80000001 =
    .ok (.swait (ops false .b64 .scalar 0 (.g 1) .imm .zero 0x1)) := rfl
/-- R351. -/
theorem test_decode_mfs : decode .steward 0xF20044E380000014 =
    .ok (.mfs (ops false .b64 .scalar 0 (.g 2) .zero .zero 0x14)) := rfl
/-- R345. -/
theorem test_decode_beq : decode .steward 0xE3003F24A0000003 =
    .ok (.beq (ops false .b64 .scalar 0 .nul (.g 4) (.g 5) 0x3)) := rfl
/-- R359. -/
theorem test_decode_unparkDrop : decode .steward 0xFA004F1B80000001 =
    .ok (.unparkDrop (ops false .b64 .scalar 0 (.g 7) (.g 3) .zero 0x1)) := rfl
/-- R351. -/
theorem test_decode_mts : decode .steward 0xF3003F4380000018 =
    .ok (.mts (ops false .b64 .scalar 0 .nul (.g 8) .zero 0x18)) := rfl
/-- R345. -/
theorem test_decode_br : decode .steward 0xE0003EE39FFFFFF5 =
    .ok (.br (ops false .b64 .scalar 0 .nul .zero .zero 0x1FFFFFF5)) := rfl
/-- R420. -/
theorem test_decode_mts_2 : decode .steward 0xF3003F0B80000048 =
    .ok (.mts (ops false .b64 .scalar 0 .nul (.g 1) .zero 0x48)) := rfl
/-- R361. -/
theorem test_decode_tlbinv : decode .steward 0xFD003EE380000007 =
    .ok (.tlbinv (ops false .b64 .scalar 0 .nul .zero .zero 0x7)) := rfl
/-- R363. -/
theorem test_decode_sigchk : decode .steward 0xFE00617B80000000 =
    .ok (.sigchk (ops false .b64 .scalar 0 (.g 16) (.g 15) .zero 0x0)) := rfl
/-- R354. -/
theorem test_decode_cfgw : decode .steward 0xF40071AEC0000001 =
    .ok (.cfgw (ops false .b64 .scalar 0 (.g 24) (.g 21) (.g 22) 0x1)) := rfl
/-- R355. -/
theorem test_decode_cfgcom : decode .steward 0xF600715B80000000 =
    .ok (.cfgcom (ops false .b64 .scalar 0 (.g 24) (.g 11) .zero 0x0)) := rfl
/-- R355. -/
theorem test_decode_cfgcomSeal : decode .steward 0xF600715B80000001 =
    .ok (.cfgcomSeal (ops false .b64 .scalar 0 (.g 24) (.g 11) .zero 0x1)) := rfl
/-- R356. -/
theorem test_decode_cfgabt : decode .steward 0xF700715B80000000 =
    .ok (.cfgabt (ops false .b64 .scalar 0 (.g 24) (.g 11) .zero 0x0)) := rfl
/-- R353. -/
theorem test_decode_cfgr : decode .steward 0xF50075CB80000000 =
    .ok (.cfgr (ops false .b64 .scalar 0 (.g 26) (.g 25) .zero 0x0)) := rfl
/-- R346. -/
theorem test_decode_ret : decode .steward 0xEA003FFB80000000 =
    .ok (.ret (ops false .b64 .scalar 0 .nul (.g 31) .zero 0x0)) := rfl
/-- R238. -/
theorem test_decode_ldp : decode .steward 0xA20048E381800100 =
    .ok (.ldp (ops false .b64 .scalar 0 (.g 4) .zero .zero 0x1800100)) := rfl
/-- R160: `vredadd.f32.v t0, il`, field by field: OP, E, T, S, M, D, A, B, X. -/
theorem test_decode_vredadd : decode .firing (0x76#8 ++ 0#1 ++ 4#4 ++ 1#2 ++ 0#2 ++ 0x00#6 ++ 0x18#6 ++ 0x1C#6 ++ 0#29) =
    .ok (.vredadd (ops false .f32 .vector 0 (.t 0) .il .zero 0)) := rfl
/-- R132: `and.b32 t1, t0, 0xFF`, field by field. -/
theorem test_decode_and : decode .firing (0x10#8 ++ 0#1 ++ 1#4 ++ 0#2 ++ 0#2 ++ 0x01#6 ++ 0x00#6 ++ 0x1D#6 ++ 0xFF#29) =
    .ok (.and (ops false .b32 .scalar 0 (.t 1) (.t 0) .imm 0xFF)) := rfl
/-- R135: `clts.b32 t2, il, 0`, field by field. -/
theorem test_decode_clts : decode .firing (0x22#8 ++ 0#1 ++ 1#4 ++ 0#2 ++ 0#2 ++ 0x02#6 ++ 0x18#6 ++ 0x1C#6 ++ 0#29) =
    .ok (.clts (ops false .b32 .scalar 0 (.t 2) .il .zero 0)) := rfl
/-- R32: the bytes of the FMUL word of R25 in memory, from the lowest address. -/
theorem test_bytes_of_word : decodeBytes .firing [0x00, 0x00, 0xE0, 0xA7, 0xC3, 0x00, 0x20, 0x42] = decode .firing 0x422000C3A7E00000 := rfl
/-- The encoder gives the word back. -/
theorem test_encode_fmul : encode (.fmul (ops false .f32 .scalar 0 (.t 0) .il .imm 0x07E00000)) = some 0x422000C3A7E00000 := rfl

/-! ## Ill-formed words and terms, one for each check of R49 -/

/-- R52: the FMUL word with T = 0xA. -/
theorem test_refused_type : decode .firing 0x425000C3A7E00000 = .error .type := rfl
/-- R52: the same in steward fetch: TYPE is checked before SPEC. -/
theorem test_refused_type_first : decode .steward 0x425000C3A7E00000 = .error .type := rfl
/-- R52: the FMUL word in steward fetch. -/
theorem test_refused_spec : decode .steward 0x422000C3A7E00000 = .error .spec := rfl
/-- R52: the SEND word with its route index raised to 20. -/
theorem test_refused_form : decode .firing 0x90883EC394860000 = .error .form := rfl
/-- R52: the same in steward fetch: MODE is checked before FORM. -/
theorem test_refused_mode : decode .steward 0x90883EC394860000 = .error .mode := rfl
/-- R52: the LD word of R46 in a slot: g5 is a steward-mode specifier. -/
theorem test_refused_spec_in_a_slot : decode .firing 0xA0084B138D03FFF8 = .error .spec := rfl
/-- R47: 0x2D is unassigned. -/
theorem test_refused_opcode : decode .firing 0x2D00000000000000 = .error .opc := rfl
/-- R49: the all-zero word: D of NOP must be nul. -/
theorem test_refused_zero_word : decode .firing 0 = .error .spec := rfl
/-- R34: shape 3 names none. -/
theorem test_refused_shape : decode .firing (0x01#8 ++ 0#1 ++ 1#4 ++ 3#2 ++ 0#2 ++ 0x02#6 ++ 0x00#6 ++ 0x01#6 ++ 0#29) = .error .shape := rfl
/-- R35: M = 3 is reserved for integer types. -/
theorem test_refused_modifier : decode .firing (0x01#8 ++ 0#1 ++ 1#4 ++ 0#2 ++ 3#2 ++ 0x02#6 ++ 0x00#6 ++ 0x01#6 ++ 0#29) = .error .mod := rfl
/-- R49: an unnamed bit of X set. -/
theorem test_refused_zero_bit : decode .firing (0x01#8 ++ 0#1 ++ 1#4 ++ 0#2 ++ 0#2 ++ 0x02#6 ++ 0x00#6 ++ 0x01#6 ++ 1#29) = .error .zero := rfl

/-- A well-formed addition, for the ill-formed terms below to differ from. -/
def sum : Ops := ops false .b32 .scalar 0 (.t 2) (.t 0) (.t 1) 0
theorem test_well_formed : (Instr.add sum).WellFormed .firing = true := rfl
theorem test_ill_formed_event : Instr.tokenArrival.WellFormed .firing = false := rfl
theorem test_ill_formed_mode : (Instr.send { sum with d := .nul, b := .zero }).WellFormed .steward = false := rfl
theorem test_ill_formed_type : (Instr.add { sum with ty := .f32 }).WellFormed .firing = false := rfl
theorem test_ill_formed_shape : (Instr.vperm sum).WellFormed .firing = false := rfl
theorem test_ill_formed_modifier : (Instr.add { sum with m := 3 }).WellFormed .firing = false := rfl
theorem test_ill_formed_specifier : (Instr.add { sum with d := .v 2 }).WellFormed .firing = false := rfl
theorem test_ill_formed_form : (Instr.fence (plain .nul .zero .zero 5)).WellFormed .firing = false := rfl
theorem test_ill_formed_zero : (Instr.add { sum with x := 1 }).WellFormed .firing = false := rfl
/-- A CFGCOM term whose SEAL bit says that it is the other constructor. -/
theorem test_ill_formed_constructor : (Instr.cfgcom (plain (.g 24) (.g 11) .zero 1)).WellFormed .steward = false := rfl

/-! ## Small states -/

/-- The word of a context: valid, PRI 1, SCOPE 4, image 7, FROUTE the level above. -/
def contextWord : W64 := word (2 ^ 63 + 2 ^ 59 + 4 * 2 ^ 56 + 7 * 2 ^ 37 + 31 * 2 ^ 32)

/-- A range word for all of a space: base 0, read and write, and the code of its size. -/
def rangeWord (space size : Nat) : W64 := word (2 ^ 63 + 2 ^ 62 + 2 ^ 61 + space * 2 ^ 58 + size * 8)

/-- A route word of a kind, on the narrow control plane, to element 0 of core 1 of this device, with a MID. -/
def routeTo (kind mid : Nat) : W64 := word (kind * 2 ^ 60 + 2 * 2 ^ 58 + 4095 * 2 ^ 43 + 2 ^ 32 + mid * 2 ^ 9)

/-- The state in which element 0 issues the first slot of a firing of context 0, with given temporaries. -/
def firing (t : List W64) : State :=
  let s := placeSlot State.reset 0x00803EE380000000
  let words := [(0, contextWord), (0x50, rangeWord 0 11), (0x51, rangeWord 1 18), (0x53, rangeWord 3 31),
    (0x30, routeTo 1 0), (0x31, routeTo 0 0), (0x32, routeTo 2 0), (0x33, routeTo 3 0), (0x34, routeTo 6 5), (0x35, routeTo 8 9)]
  let c := words.foldl (fun c p => c.setCtxWord 0 0 p.1 p.2) (s.core 0)
  let s := s.setCore 0 c
  let x := s.elem 0
  { s.setElem 0 { x with firing := x.firing.map fun f => { f with t := t ++ List.replicate (8 - t.length) 0 } } with actor := .element 0 }

/-- The firing of element 0. -/
def fired (s : State) : Firing := (s.elem 0).firing.getD default

/-- Steward-mode core `n` moves, with given registers from g0 on. -/
def steward (n : Nat) (g : List W64) : State :=
  let st := State.reset.stew n
  { State.reset.setStew n { st with g := g ++ List.replicate (32 - g.length) 0, pc := 0x1000, tvec := 0x2000 } with actor := stewActor n }

/-- What a next state shows. -/
def shows {α : Type} (r : Host.Outcome State Fault Refusal) (f : State → α) : Option α := match r with
  | .next t => some (f t)
  | _ => none

/-- Temporary `i` of the firing of element 0 after an instruction. -/
def temp (r : Host.Outcome State Fault Refusal) (i : Nat) : Option W64 := shows r fun t => (fired t).t.getD i 0
/-- PC of a steward-mode core after an instruction. -/
def pcAfter (r : Host.Outcome State Fault Refusal) (n : Nat) : Option W64 := shows r fun t => (t.stew n).pc

/-! ## Single steps -/

/-- R2, R335: reset fetches at the reeve's PC, and a word of zeros is ill-formed there: the trap is taken. -/
theorem test_step_ill_formed : (match fetchTurn State.reset with | .run .stewardTrap s => s.event.unit | _ => 99) = 20 := by decide
/-- The placed word runs in the very next step. -/
theorem test_step_placed_firing_word : shows (step (State.reset.withFetchWord 64 0x00803EE380000000)) (fun t => (fired t).ended) = some true := by
  decide
theorem test_step_placed_steward_word : shows (step (State.reset.withFetchWord 64 0xE0003EE380000002)) (fun t => (t.stew 20).pc) = some 16 := by
  decide

/-- R138: MOVHI of 0x09AB_CDEF onto 0x091A_2B3C gives the constant of the manual. -/
theorem test_movhi : temp (exec (.movhi (plain (.t 0) (.t 0) .imm 0x09ABCDEF)) (firing [0x091A2B3C])) 0 = some 0x0123456789ABCDEF := by decide
/-- R138: MOVI sign-extends its 29 bits. -/
theorem test_movi : temp (exec (.movi (plain (.t 1) .imm .zero 0x1FFFFFFE)) (firing [])) 1 = some (-2) := by decide
/-- R130: ADD wraps at the width, and the bits above it are zero. -/
theorem test_add_wraps : temp (exec (.add (ops false .b32 .scalar 0 (.t 0) (.t 0) (.t 1) 0)) (firing [0xFFFFFFFF, 2])) 0 = some 1 := by decide
/-- R130, R64: under ssat the sum stops at the largest value. -/
theorem test_add_saturates : temp (exec (.add (ops false .b32 .scalar 1 (.t 0) (.t 0) (.t 1) 0)) (firing [0x7FFFFFFF, 2])) 0 = some 0x7FFFFFFF := by
  decide
/-- R130: DIVS of -2^31 by -1 wraps to -2^31. -/
theorem test_divs_overflow : temp (exec (.divs (ops false .b32 .scalar 0 (.t 0) (.t 0) (.t 1) 0)) (firing [0x80000000, 0xFFFFFFFF])) 0 =
    some 0x80000000 := by decide
/-- R130: DIVS by zero gives -1. -/
theorem test_divs_by_zero : temp (exec (.divs (ops false .b32 .scalar 0 (.t 0) (.t 0) (.t 1) 0)) (firing [5, 0])) 0 = some 0xFFFFFFFF := by decide
/-- R130: REMS keeps the sign of the dividend. -/
theorem test_rems : temp (exec (.rems (ops false .b32 .scalar 0 (.t 0) (.t 0) (.t 1) 0)) (firing [0xFFFFFFF9, 4])) 0 = some 0xFFFFFFFD := by decide
/-- R130: MULHS of -1 by 1 is -1. -/
theorem test_mulhs : temp (exec (.mulhs (plain (.t 0) (.t 0) (.t 1) 0)) (firing [-1, 1])) 0 = some (-1) := by decide
/-- R132: SHL by the width gives 0. -/
theorem test_shl_full : temp (exec (.shl (ops false .b32 .scalar 0 (.t 0) (.t 0) (.t 1) 0)) (firing [1, 32])) 0 = some 0 := by decide
/-- R132: SAR by more than the width gives the sign. -/
theorem test_sar_full : temp (exec (.sar (ops false .b32 .scalar 0 (.t 0) (.t 0) (.t 1) 0)) (firing [0x80000000, 40])) 0 = some 0xFFFFFFFF := by
  decide
/-- R133: a field cut at the width is shorter. -/
theorem test_bext_cut : temp (exec (.bext (ops false .b8 .scalar 0 (.t 0) (.t 0) (.t 1) 0)) (firing [0xA5, 0x0806])) 0 = some 2 := by decide
/-- R134: SEXT copies bit n upward. -/
theorem test_sext : temp (exec (.sext (ops false .b16 .scalar 0 (.t 0) (.t 0) (.t 1) 0)) (firing [0x80, 7])) 0 = some 0xFF80 := by decide
/-- R135: a compare writes 64 bits, whatever T is. -/
theorem test_clts : temp (exec (.clts (ops false .b32 .scalar 0 (.t 0) (.t 0) (.t 1) 0)) (firing [0xFFFFFFFF, 0])) 0 = some 1 := by decide
/-- R136: bit 0 of c selects. -/
theorem test_sel : temp (exec (.sel (plain (.t 0) (.t 1) (.t 2) (3 * 2 ^ 23))) (firing [0, 11, 22, 6])) 0 = some 22 := by decide
/-- R139: LEA scales b by the type's width. -/
theorem test_lea : temp (exec (.lea (ops false .b32 .scalar 0 (.t 0) (.t 0) (.t 1) 0)) (firing [0x100, -1])) 0 = some 0xFC := by decide
/-- R140: eight of the nine ASCII bytes of the manual's check, then the ninth. -/
theorem test_crc32c_check : ((crcBytes 1 (crcBytes 8 0xFFFFFFFF 0x3837363534333231) 0x39) ^^^ 0xFFFFFFFF) = 0xE3069283 := by decide +kernel
/-- R141: 3.0 * 0.5 in f32. -/
theorem test_fmul : temp (exec (.fmul (ops false .f32 .scalar 0 (.t 0) (.t 0) (.t 1) 0)) (firing [0x40400000, 0x3F000000])) 0 = some 0x3FC00000 := by
  decide
/-- R68, R78: 2^24 + 1 is a tie, and rne keeps the even significand. -/
theorem test_fadd_tie : temp (exec (.fadd (ops false .f32 .scalar 0 (.t 0) (.t 0) (.t 1) 0)) (firing [0x3F800000, 0x4B800000])) 0 = some 0x4B800000 := by
  decide
/-- R67: an operation on a NaN gives the default NaN. -/
theorem test_fadd_nan : temp (exec (.fadd (ops false .f16 .scalar 0 (.t 0) (.t 0) (.t 1) 0)) (firing [0xFC01, 0x3C00])) 0 = some 0x7E00 := by decide
/-- R144: FNEG of e4m3 maps 0x7F to 0xFF. -/
theorem test_fneg : temp (exec (.fneg (ops false .e4m3 .scalar 0 (.t 0) (.t 0) .zero 0)) (firing [0x7F])) 0 = some 0xFF := by decide
/-- R74: 1,000.0 converted to e4m3 under rup with saturation gives 448. -/
theorem test_fcvt_saturates : temp (exec (.fcvt (ops false .e4m3 .scalar 3 (.t 0) (.t 0) .zero 4)) (firing [0x447A0000])) 0 = some 0x7E := by decide
/-- R149: -0.25 under rne gives -0. -/
theorem test_frnd : temp (exec (.frnd (ops false .f32 .scalar 0 (.t 0) (.t 0) .zero 0)) (firing [0xBE800000])) 0 = some 0x80000000 := by decide
/-- R78: 1.0, 2^24 and -2^24 that arrive in the order 2, 0, 1 give +0. -/
theorem test_sequence_order :
    let p := fun (seq : Nat) (v : W32) (last : Bool) => ({ seq := seq, value := vecOfLanes [v.toNat], last := last } : Partial)
    let a := absorb .f32 0 65 { AccData.init with lseq := some 2, early := [p 2 0xCB800000 true, p 0 0x3F800000 false, p 1 0x4B800000 false] }
    a.exp = 3 ∧ lane a.acc 0 = 0 := by decide +kernel

/-- R230: a store to the own scratchpad joins the SCR group, and a load of the same firing returns it. -/
theorem test_scratch_store_is_seen :
    temp (exec (.ld (ops false .b64 .scalar 0 (.t 0) (.t 1) .zero 0x1800000))
      (match exec (.st (ops false .b64 .scalar 0 .nul (.t 1) (.t 2) 0x1800000)) (firing [0, 0x40, 77]) with | .next t => t | _ => State.reset)) 0 =
      some 77 := by decide +kernel
/-- R224: a misaligned access faults: the firing is parked. -/
theorem test_misaligned_load_faults : shows (exec (.ld (ops false .b64 .scalar 0 (.t 0) (.t 1) .zero 0x1800000)) (firing [0, 4]))
    (fun t => (t.elem 0).firing.isNone) = some true := by decide +kernel

/-- R345: `beq g4, g5` three words ahead, taken and not taken. -/
theorem test_beq : pcAfter (exec (.beq (plain .nul (.g 4) (.g 5) 3)) (steward 0 [0, 0, 0, 0, 9, 9])) 0 = some 0x1018 ∧
    pcAfter (exec (.beq (plain .nul (.g 4) (.g 5) 3)) (steward 0 [0, 0, 0, 0, 9, 8])) 0 = some 0x1008 := by decide
/-- R345: a backward branch. -/
theorem test_br_backward : pcAfter (exec (.br (plain .nul .zero .zero 0x1FFFFFFF)) (steward 0 [])) 0 = some 0xFF8 := by decide
/-- R346: JMPR whose target register is its D uses the old value. -/
theorem test_jmpr_same_register : shows (exec (.jmpr (plain (.g 1) (.g 1) .zero 2)) (steward 0 [0, 0x3000]))
    (fun t => ((t.stew 0).pc, (t.stew 0).g.getD 1 0)) = some (0x3010, 0x1008) := by decide
/-- R338, R350: TRAP saves PC in EPC, its operand in ETRAP3, and goes to TVEC with TD set. -/
theorem test_trap_entry : shows (exec (.trap (plain .nul (.g 1) .zero 0)) (steward 0 [0, 42]))
    (fun t => ((t.stew 0).pc, (t.stew 0).epc, (t.stew 0).etrap3, (t.stew 0).td)) = some (0x2000, 0x1000, 42, true) := by decide
/-- R350: ERET outside a handler traps. -/
theorem test_eret_outside : shows (exec (.eret (plain .nul .zero .zero 0)) (steward 0 []))
    (fun t => ((t.stew 0).pc, (t.stew 0).td)) = some (0x2000, true) := by decide
/-- R337: a steward writes no register of the reeve. -/
theorem test_mts_reeve_only : pcAfter (exec (.mts (plain .nul (.g 1) .zero 0x040)) (steward 3 [])) 3 = some 0x2000 := by decide
/-- R344: MTS writes TVEC with its low bits zero. -/
theorem test_mts_tvec : shows (exec (.mts (plain .nul (.g 1) .zero 0x005)) (steward 3 [0, 0x1237])) (fun t => (t.stew 3).tvec) = some 0x1230 := by
  decide
/-- R231: a store of the reeve to HBM, little-endian. -/
theorem test_steward_store : shows (exec (.st (ops false .b32 .scalar 0 .nul (.g 1) (.g 2) 0x11000000)) (steward 20 [0, 0x80, 0xA1B2C3D4]))
    (fun t => (t.readByte 0x80, t.readByte 0x83, t.readByte 0x84)) = some (0xD4, 0xA1, 0) := by decide
/-- R167: an ingress route adds a coordinate. -/
theorem test_ingress_timestamp : tsOnRoute 2 0x2000_0000_0000_0000 5 = .ok 0x6000_0000_0A00_0000 := rfl

/-! ## Witnesses: states and operands that meet the hypotheses of the statements -/

/-- A token for entry 0 of context 0 of element 0, on a side, with header flags. -/
def tokenFor (side flags v : Nat) : Token :=
  { ts := 0, h1 := word (side * 2 ^ 31 + flags), h2 := 0, payload := BitVec.ofNat 2048 v, region := 7 }

/-- The state in which element 0 runs a changed firing. -/
def altered (s : State) (f : Firing → Firing) : State :=
  s.setElem 0 { s.elem 0 with firing := (s.elem 0).firing.map f }

/-- The state whose firing holds a token on its left side. -/
def withLeft (s : State) (tok : Token) : State := altered s fun f => { f with frame := { f.frame with l := some tok } }

/-- The agent of element 0. -/
def me (s : State) : Agent := .firing 0 (fired s)

/-- The state whose die 0 maps the first GiB of tenant 0 to itself. -/
def paged (s : State) : State :=
  ((s.setDie 0 { s.die 0 with ttroot := Tab.set 0 (s.die 0).ttroot 0 (word (2 ^ 63 + 2 ^ 20)) }).writeNum 0x100000 8
    (2 ^ 63 + 0x200000)).writeNum 0x200000 8 (2 ^ 63 + 2 ^ 62 + 2 ^ 61 + 2 ^ 60 + 2 ^ 59)

/-! ### Compute, vectors and completion -/

/-- `s.agent = some x` of the statements about instructions of both modes. -/
theorem witness_agents : (firing []).agent = some (me (firing [])) ∧ (steward 0 []).agent = some (.stew 0 ((steward 0 []).stew 0)) ∧
    (steward 20 []).agent = some (.stew 20 ((steward 20 []).stew 20)) := ⟨rfl, rfl, rfl⟩

/-- `Issues s e f` of the statements about a firing. -/
theorem witness_issues : Issues (firing []) 0 (fired (firing [])) := ⟨rfl, by decide⟩

/-- IntegerArithmeticResults, LogicAndShiftResults, CompareMoveAddressResults, FloatingResults: no container is malformed. -/
theorem witness_computes : malformed (.typed .b32) (.typed .b32) .whole
      (laneArgs (firing [1, 2]) (me (firing [1, 2])) sum (.typed .b32) (.typed .b32) .whole) = none ∧
    malformed (.typed .aif13) (.typed .aif13) .whole [(4095, 0xF001, 0)] = none := by decide

/-- SaturationAndTheDefaultNan. -/
theorem witness_nan : Ty.isFloat .f16 = true ∧ val .f16 0x7E01 = .nan ∧ Ty.b8 ≠ .aif13 := by decide

/-- SaturationAndTheDefaultNan: finite values, zero, and infinities of both signs; the clauses for 3 / 2 and the square root of 2. -/
theorem witness_finite : val .f16 0x3C00 = .fin false 1024 (-10) ∧ val .f16 0xBC00 = .fin true 1024 (-10) ∧
    (∃ e, val .f16 0x8000 = .fin true 0 e) ∧ val .f16 0x7C00 = .inf false ∧ val .f16 0xFC00 = .inf true ∧ 0x3C00 < 2 ^ Ty.width .f16 ∧
    fdiv .f16 0 0x4200 0x4000 = 0x3E00 ∧ fsqrt .f16 0 0x4000 = 0x3DA8 := by
  refine ⟨by decide, by decide, ⟨_, rfl⟩, by decide, by decide, by decide, by decide, by decide⟩

/-- BitFieldsAndConstants: MOVI, and MOVHI of a temporary. -/
theorem witness_constants : (plain (.t 7) .imm .zero 5).sh = .scalar ∧ (plain (.t 7) .imm .zero 5).d = .t 7 ∧ (fired (firing [])).t.length = 8 ∧
    (plain (.t 7) .imm .zero 5).a = .imm ∧ (plain (.t 7) (.t 0) .imm 5).a = .t 0 ∧ (255 : Nat) < 2 ^ 8 := by decide

/-- FloatingResults: OTHER names a type. -/
theorem witness_other_type : Ty.ofCode (xField (0x14 : BitVec 29) 3 0) = some .f32 := rfl

/-- VectorLaneResults: no lane is malformed. -/
theorem witness_lanes : (lanesOf (firing []) (me (firing [])) (ops false .aif13 .vector 0 (.v 0) (.v 1) .zero 0) (.bits .aif13) (.v 1)).find?
    (containerBad (.bits .aif13)) = none := by decide +kernel

/-- VseqaccAbsorbsAPartialInTurn: a partial in its turn, the last, and one that is not the last, with the send accepted. -/
theorem witness_vseqacc :
    let s := withLeft (firing []) (tokenFor 0 (2 ^ 25) 0x3F800000)
    let p : Partial := { seq := 0, value := vecOfLanes [0x3F800000], last := true }
    (s.agent = some (me s) ∧ bufferBusy s 0 (fired s) = false ∧ (operandToken s 0 (fired s) .il).isSome = true) ∧
    AccData.init.repeats 0 true = false ∧ (absorb .f32 0 65 { AccData.init with lseq := some 0, early := [p] }).done = true ∧
    (absorb .f32 0 65 { AccData.init with early := [{ p with last := false }] }).done = false ∧
    issueSend s 0 (fired s) 1 { last := true } 0 = .ok (fired s) := 
    ⟨⟨rfl, rfl, rfl⟩, by decide +kernel, by decide +kernel, by decide +kernel, rfl⟩

/-- ComputeChangesOnlyItsDestination. -/
theorem witness_compute_opcode : (Instr.viota sum).code = some (0x80, sum) ∧ (0x80 : Nat) < 0x90 ∧ (0x80 : Nat) ≠ 0x81 := by
  refine ⟨rfl, by decide, by decide⟩

/-- CompletionAdvancesTheAgent, StepKeepsCanonicalForm. -/
theorem witness_canonical : Canonical (firing []) ∧ Canonical (steward 20 []) := by
  unfold Canonical
  decide

/-- StepKeepsCanonicalForm: a step that answers a next state. -/
theorem witness_canonical_step : ∃ t, step (State.reset.withFetchWord 64 0x00803EE380000000) = .next t := ⟨_, rfl⟩

/-! ### Tokens, timestamps and sends -/

/-- TimestampsAndHeaders: depths 0 and 3, and the last coordinate at its bound. -/
theorem witness_timestamps : tsWf 0 = true ∧ tsDepth 0 = 0 ∧ (4095 : Nat) < 4096 ∧ tsWf 0xC000_0000_0000_1FFE = true ∧
    tsDepth 0xC000_0000_0000_1FFE = 3 ∧ tsCoord 0xC000_0000_0000_1FFE 3 = 4095 ∧ tsCoord 0xC000_0000_0000_1FFC 3 = 4094 := by decide

/-- SendPlacesOneToken: routes that are off, plain, host egress and muster; a timestamp that overflows; a dead destination. -/
theorem witness_sends :
    let s := firing []
    (routeKind (routeWord s 0 0 1) = 0 ∧ routeKind (routeWord s 0 0 0) = 1 ∧ routeKind (routeWord s 0 0 5) = 8 ∧
      routeKind (routeWord s 0 0 4) = 6 ∧ routeKind (routeWord s 0 0 2) = 2) ∧
    deadPeer s (routeDev s (routeWord s 0 0 0)) = false ∧
    tsOnRoute 1 (fired s).frame.ts = .ok 0 ∧ tsOnRoute 3 (fired s).frame.ts = .error 0 := ⟨by decide, by decide, rfl, rfl⟩

/-- SendPlacesOneToken, FiringFabricInstructions: a device that is out of reach. -/
theorem witness_dead_peer : deadPeer (firing []) 9 = true := by decide

/-- SendingInstructionsComplete: sends accepted on a plain route, and the token that CHAIN passes on. -/
theorem witness_sending :
    let s := withLeft (firing []) (tokenFor 0 0 5)
    (∃ g, issueSend s 0 (fired s) 0 { last := true, seq := 63 } 5 = .ok g) ∧ (operandToken s 0 (fired s) .il).isSome = true ∧
      containerBad (.bits .aif13) 0xF001 = false := ⟨⟨_, rfl⟩, rfl, by decide⟩

/-- RequestMusterAndTimestampInstructions: a time that is not behind, one of another depth, and a muster route. -/
theorem witness_requests :
    let s := firing []
    (tsWf 0x2000000000 = true ∧ tsDepth 0x2000000000 = tsDepth (fired s).frame.ts ∧ tsEarlier 0x2000000000 (fired s).frame.ts = false) ∧
    tsDepth 0x4000_0000_0000_0000 ≠ tsDepth (fired s).frame.ts ∧ routeKind (routeWord s 0 0 4) = 6 ∧
    deadPeer s (routeDev s (routeWord s 0 0 4)) = false := by decide

/-! ### Memory -/

/-- FiringScratchpadAccesses, FiringSplitPhaseAccesses, StewardMemoryAccesses, FiringFabricInstructions: the last granule of the scratchpad, read
and written, and containers of both kinds. -/
theorem witness_scratchpad :
    let s := firing []
    memSpace (plain (.t 0) (.t 1) .zero 0x1800000) = 0 ∧
    issueChecks s 0 0 [{ space := 0, ea := 0x7FFF8, len := 8, align := 8, rd := true, wr := false }] = none ∧
    issueChecks s 0 0 [{ space := 0, ea := 0x7FFF8, len := 8, align := 8, rd := false, wr := true }] = none ∧
    readScr s 0 (fired s) 8 [0x7FFF8] = (s, .ok [0]) ∧ stpMeetsFull s 0 (fired s) 0x7FFF8 = false ∧
    stpMeetsFull (s.setPresent (scrAddr 0 0x7FFF8) true) 0 (fired s) 0x7FFF8 = true ∧ s.soft = [] ∧
    containerBad (.bits .aif13) (low (Ty.width .aif13) 0xF001) = false ∧ containerBad (.bits .aif13) (low (Ty.width .aif13) 0xF000) = true := by
  refine ⟨by decide, by decide +kernel, by decide +kernel, rfl, by decide, by decide, rfl, by decide, by decide⟩

/-- FiringScratchpadAccesses: the lanes of GATHV and SCATV. -/
theorem witness_scratchpad_lanes :
    let s := firing []
    issueChecks s 0 0 ((List.replicate 64 0x7FFFC).map fun a => { space := 0, ea := a, len := 4, align := 4, rd := true, wr := false }) = none ∧
    (∃ v, readScr s 0 (fired s) 4 (List.replicate 64 0x7FFFC) = (s, .ok v)) := ⟨by decide +kernel, _, rfl⟩

/-- FiringSplitPhaseAccesses: the last bytes of the cluster's scratchpads, and lanes there. -/
theorem witness_split_phase :
    let s := firing []
    issueChecks s 0 0 [{ space := 1, ea := 0x3FFFFF8, len := 8, align := 8, rd := true, wr := true }] = none ∧
    issueChecks s 0 0 (laneParts 1 4 (List.replicate 64 0x3FFFFFC) true false) = none ∧
    issueChecks s 0 0 (laneParts 1 4 (List.replicate 64 0x3FFFFFC) false true) = none := ⟨by decide +kernel, by decide +kernel, by decide +kernel⟩

/-- FiringLineStreamAndOrderAccesses: a line, a stream of one granule and of the longest length, and lengths that are refused. -/
theorem witness_lines_and_streams :
    let s := firing []
    issueChecks s 0 0 [{ space := 3, ea := 0x80, len := 128, align := 128, rd := true, wr := true }] = none ∧
    issueChecks s 0 0 [{ space := 3, ea := 0, len := 8, align := 8, rd := true, wr := false },
      { space := 0, ea := 0, len := 8, align := 8, rd := false, wr := true }] = none ∧
    issueChecks s 0 0 [{ space := 3, ea := 0, len := 524288, align := 8, rd := false, wr := true },
      { space := 0, ea := 0, len := 524288, align := 8, rd := true, wr := true }] = none ∧
    (524288 % 8 = 0 ∧ 12 % 8 ≠ 0 ∧ 0 < 8 ∧ 524288 < 524296) ∧ inSpace s 0 0 3 (2 ^ 56 - 1) = true := by
  refine ⟨by decide +kernel, by decide +kernel, by decide +kernel, by decide, by decide⟩

set_option maxRecDepth 20000 in
/-- StewardMemoryAccesses: the reeve at the first byte of HBM; a store and an atomic there; a cluster scratchpad; an address outside. -/
theorem witness_steward_memory :
    let s := steward 20 []
    stewAddr s 20 (s.stew 20) 4 0 = .ok 0 ∧ homeHolds s 0 8 (die := some 0) = false ∧ homeHolds s 0 8 true (die := some 0) = false ∧
    stewAddr s 20 (s.stew 20) 1 0x3FFFFF8 = .ok (scrAddr 127 0x7FFF8) ∧
    stewAddr s 20 (s.stew 20) 4 (2 ^ 52) = .error (Cause.spaceoob, word (2 ^ 52)) ∧
    (∃ t v, readAt s (.stew 20) none 0 8 0 = (t, .ok v)) ∧ (∃ t, writeAt s (.stew 20) none 0 (bytesOfNum 8 7) 0 = (t, .ok ())) ∧
    (∃ t old, atomAt s (.stew 20) 0 8 0 0 0 1 0 = (t, .ok old)) ∧
    s.present (scrAddr 127 0x7FFF8) = false ∧ (s.setPresent (scrAddr 127 0x7FFF8) true).present (scrAddr 127 0x7FFF8) = true := by
  refine ⟨rfl, by decide +kernel, by decide +kernel, rfl, rfl, ⟨_, _, rfl⟩, ⟨_, rfl⟩, ⟨_, _, rfl⟩, by decide +kernel, by decide +kernel⟩

/-- StewardGlobalAndLineAccesses: a page that die 0 maps, read and written, and a line of HBM. -/
theorem witness_steward_global :
    let s := paged (steward 20 [])
    memSpace (plain (.g 1) .zero .zero 0x0D800000) = 3 ∧ memSpace (plain .nul .zero .zero 0x13000000) = 4 ∧
    (∃ t, resolveGlb s 0 0 0x3FFFFFF8 .read true (.steward 20 (s.stew 20).pc) = (t, .at 0x3FFFFFF8) ∧ (∃ u v, readAt t (.stew 20) none 0x3FFFFFF8 8 0x3FFFFFF8 = (u, .ok v)) ∧
      homeHolds t 0x3FFFFFF8 8 (die := some 0) = false ∧ homeHolds t 0x3FFFFFF8 8 true (die := some 0) = false) ∧
    (∃ t, resolveGlb s 0 0 0x3FFFFFF8 .write false (.steward 20 (s.stew 20).pc) = (t, .at 0x3FFFFFF8) ∧
      ∃ u, writeAt t (.stew 20) none 0x3FFFFFF8 (bytesOfNum 8 7) 0x3FFFFFF8 = (u, .ok ())) := by
  refine ⟨by decide, by decide, ⟨_, rfl, ⟨_, _, rfl⟩, by decide +kernel, by decide +kernel⟩, ⟨_, rfl, _, rfl⟩⟩

/-- MemoryReadsWhatWasWritten. -/
theorem witness_memories : Memory.wf [(3, 7), (9, 1)] = true ∧ Memory.wf [] = true := by decide

/-- AtomicNewValues, at the ends of a width and of HBM; that no sector of an L2 is poisoned is in witness_clean. -/
theorem witness_atomic : 0 < 16 ∧ 65535 < 2 ^ 16 ∧ State.reset.soft = [] ∧ (∀ x ∈ State.reset.cores, ∀ k, (x.2.line k).poison = 0) ∧
    (2 ^ 39 - 8) + 8 ≤ 2 ^ 39 ∧ scrBase ≤ scrAddr 2047 0 := by
  refine ⟨by decide, by decide, rfl, fun x h => absurd h (List.not_mem_nil), by decide, by decide⟩

/-! ### The array, the cutter and streams -/

/-- The state in which the array of core 0 belongs to image 7. -/
def owned (a : Arr) : State :=
  let s := firing []
  s.setCore 0 { s.core 0 with arr := { a with ownv := true, ownimg := 7 } }

/-- ArrayInstructionsComplete: an array that nobody owns, and what a claim of it gives. -/
theorem witness_array_free :
    let s := firing []
    s.agent = some (me s) ∧ ∃ t, claimArray s 0 = some t ∧ (t.core 0).arr.ownv = false ∧ arrBusy (arrOf t 0) = 0 ∧ arrPartner t 0 = none := by
  refine ⟨rfl, _, rfl, by decide +kernel, by decide +kernel, by decide +kernel⟩

/-- ArrayInstructionsComplete: an array of the firing's image, fed, staged, read and released; a chained top core has a core below. -/
theorem witness_array_owned :
    let s := owned { Arr.init with statv := true }
    ctxImage s 0 0 = 7 ∧ feedsHere s 0 = true ∧ partChecks (s.core 0).arr .e4m3 0 = none ∧
    (payloadValues s (me s) (ops false .e4m3 .vector 0 .nul (.v 0) (.t 1) 0)).length = 256 ∧ 31 + 1 ≤ 32 ∧
    rowChecks (s.core 0).arr 3 31 0 true 0 = none ∧ (s.core 0).arr.places + 1 ≤ 16 ∧ throttled s 0 = false ∧
    (s.core 0).arr.outf = 0 ∧ outfOf .f32 = 0 ∧ ((s.core 0).arr.tile 3 30).state ≠ .accum ∧ arrBusy (s.core 0).arr < 2 ∧
    (119 % 128 < 120 ∧ isFused s (below 119) = false) := by decide +kernel

/-- A sheaf-ready operand of 64 k-rows of e4m3 at 0, a dense partner, and a control word: mode 0, RB 32, SI 4096. -/
def primary : W64 := word (7 * 2 ^ 35 + 63 * 2 ^ 19)
def partner : W64 := word (2 ^ 41 + 2 * 2 ^ 39 + 7 * 2 ^ 35 + 63 * 2 ^ 19)
def control : W64 := word (32 + 4096 * 2 ^ 28)
/-- The set that SHCFG makes of them. -/
def cutSet : Sheaf := { Sheaf.init with v := true, scfg := control, spdesc := primary, sqdesc := partner, si := 4096, bound := 64 }

/-- CutterInstructionsComplete: the claim of a free cutter, words that SHCFG takes, bounds that SHBND takes, up to the last k-row. -/
theorem witness_cutter :
    let s := firing []
    (s.agent = some (me s) ∧ bufferBusy s 0 (fired s) = false) ∧ (claimCutter s 0 0).isSome = true ∧ shcfgBad primary partner control = false ∧
    checkAreas s 0 0 (occupancyAreas primary ++ [(cSi control, outputBytes primary control, true)]) = .ok () ∧
    (0 ≤ 64 ∧ 64 ≤ bits cutSet.spdesc 34 19 + 1) := by
  refine ⟨⟨rfl, by decide⟩, by decide +kernel, by decide, rfl, by decide⟩

/-- CutterInstructionsComplete: a cut of an empty operand, with its output area and its send accepted, and the gather of no row after it. -/
theorem witness_cut :
    let s := firing []
    (cutSet.v = true ∧ cutSet.done = false ∧ cutSet.snum ≠ 64) ∧
    (∃ u cut, cutPlain 0 (fired s) cutSet 65537 s { k := 0, bytes := 0, list := [], rows := [] } = .ok (u, cut) ∧
      cutCheck u 0 0 cutSet.si (outputBytes cutSet.spdesc cutSet.scfg) true = .ok () ∧
      ∃ g, issueMemSend u 0 (fired s) 0 { seq := 0, last := true, esheaf := true } 0 = .ok g) ∧
    (cutSet.sqdesc ≠ 0 ∧ Ty.code .e4m3 = dFmt cutSet.sqdesc ∧ dForm cutSet.sqdesc = 2) ∧
    (∃ u ks, indexList 0 (fired s) cutSet.si cutSet.sn 0 s = .ok (u, ks) ∧ ks = [] ∧
      ∃ u' vals, partnerRows 0 (fired s) cutSet ks 8 0 u = .ok (u', vals)) := by
  refine ⟨by decide, ⟨_, _, rfl, rfl, _, rfl⟩, by decide, _, _, rfl, rfl, _, _, rfl⟩

/-- CutterInstructionsComplete: bit operands of SPHDR: one bit set, with and without a second operand. -/
theorem witness_sphdr :
    let s := firing []
    (∃ u v, bitOperand s 0 (fired s) 0 false = .ok (u, v)) ∧ (∃ u v, bitOperand s 0 (fired s) 0 true = .ok (u, v)) ∧
    tsDepth (fired s).frame.ts ≠ 3 ∧ deadPeer s (routeDev s (routeWord s 0 0 0)) = false := by
  refine ⟨⟨_, _, rfl⟩, ⟨_, _, rfl⟩, by decide, by decide⟩

/-- StreamsAndMaskedValues: a block of coordinates with a hole, and masks of 8, 16 and 32 bits at their last places. -/
theorem witness_streams :
    blockFault none 0 ([3, 5] ++ List.replicate 30 0xFFFFFFFF) = none ∧
    ((List.range 64).countP fun i => (255 : Nat).testBit i) = 8 ∧ ((List.range 64).countP fun i => (65535 : Nat).testBit i) = 16 ∧
    ((List.range 64).countP fun i => (2 ^ 32 - 1 : Nat).testBit i) = 32 ∧ 7 * 4 * 8 + 4 * 8 ≤ 256 ∧ 1 * 4 * 32 + 4 * 32 ≤ 256 := by decide +kernel

/-! ### Engines, musters and other devices -/

/-- FiringFabricInstructions: descriptors that are not bad, ranges that are permitted, a muster as a target, and an ownable address. -/
theorem witness_fabric :
    let s := firing []
    targetMuster 0xFFF = false ∧ (∃ w : W64, targetMuster w = true) ∧ deadPeer s s.devId = false ∧ deadPeer s 9 = true ∧
    collDescBad (word (256 * 2 ^ 32)) = false ∧ issueChecks s 0 0 [{ space := 3, ea := 0, len := 8, align := 8, rd := true, wr := true }] = none ∧
    issueChecks s 0 0 [{ space := 3, ea := 0, len := 1, align := 1, rd := true, wr := false }] = none ∧ fabricGlobal 0 = false := by
  refine ⟨by decide, ⟨word (2 ^ 63), by decide⟩, by decide, by decide, by decide, by decide +kernel, by decide +kernel, by decide⟩

/-- FiringFabricInstructions, StewardFabricInstructions: a COPY of 4 KiB whose ranges pass. -/
theorem witness_copy :
    let s := firing []
    let r := { newReq s 0 (fired s) .copy 0 with ea := 0, aux := 0x10000, cmp := word (4096 * 2 ^ 32), op := 3 + 8 * 3 }
    engineDescBad r = false ∧ issueChecks s 0 0 (engineParts r) = none := by
  refine ⟨by decide +kernel, by decide +kernel⟩

/-- The state whose engine context 0 is bound to image 7. -/
def bound (s : State) : State := s.setEngine 0 { s.engine 0 with ectx := word (2 ^ 63 + 7 * 2 ^ 47) }

set_option exponentiation.threshold 4096 in
set_option maxRecDepth 20000 in
/-- StewardFabricInstructions: a COPY that is taken and waits, one that is answered, TLWAIT, TLRD, and pages of both kinds. -/
theorem witness_steward_fabric :
    let s := bound (steward 20 [])
    (∃ t, acceptOp s { stewReq 20 .copy with cmp := word (4096 * 2 ^ 32), op := 4 + 8 * 4 + 64 } = (t, .taken)) ∧
    (∃ t v u, acceptOp s { stewReq 20 .copy with cmp := word (4096 * 2 ^ 32), op := 4 + 8 * 4 } = (t, .done v u)) ∧
    (∃ t v u, waitOp s { stewReq 20 .tlwait with aux := 0, data := 0 } = (t, .done v u)) ∧
    (∃ t, waitOp s { stewReq 20 .tlwait with aux := 0, data := 9 } = (t, .taken)) ∧
    engineRefuses s { stewReq 20 .tlrd with aux := 0, op := 2 } 0 = false ∧ (s.engine 0).nextOp < 2 ^ 64 ∧
    fabricGlobal 0 = false ∧ fabricGlobal (2 ^ 55) = true ∧ homesPage s (pageOfVa (2 ^ 55)) = true ∧
    (∃ t k, homeReclaim s (pageOfVa (2 ^ 55)) = some (t, some k)) := by
  refine ⟨⟨_, rfl⟩, ⟨_, _, _, rfl⟩, ⟨_, _, _, rfl⟩, ⟨_, rfl⟩, by decide +kernel, by decide +kernel, by decide, by decide, by decide +kernel, ⟨_, _, rfl⟩⟩

set_option exponentiation.threshold 4096 in
set_option maxRecDepth 20000 in
/-- StewardFabricInstructions: a local remote read that is answered, and a device that is not dead. -/
theorem witness_steward_remote :
    let s := paged (steward 20 [])
    targetMuster 0xFFF = false ∧ deadPeer s s.devId = false ∧
    (∃ t v, remoteAt s (.stew 20) 0 0 { stewReq 20 .rld with size := 8, ea := 0x100 } = (t, .ok (some v))) := by
  refine ⟨by decide, by decide +kernel, _, _, rfl⟩

/-! ### Control, exceptions, special registers and configuration -/

/-- The steward-mode core of a state as an agent. -/
def core' (s : State) (n : Nat) : Agent := .stew n (s.stew n)

/-- BranchesMoveThePc: each test met and not met, at the ends of the signed and of the unsigned range. -/
theorem witness_branches :
    ((0 : W64) = 0 ∧ (1 : W64) ≠ 0) ∧ ((-1 : W64).toInt < (0 : W64).toInt ∧ ¬ (0 : W64).toInt < (-1 : W64).toInt) ∧
    ((0 : W64).toNat < (-1 : W64).toNat ∧ ¬ (-1 : W64).toNat < (0 : W64).toNat) ∧ ((-1 : W64).toNat ≤ (-1 : W64).toNat) := by decide

/-- CallsAndJumps: computed targets that are 8-aligned, and one that is not. -/
theorem witness_jumps : (0x2000 : W64).toNat % 8 = 0 ∧ (0x2004 : W64).toNat % 8 ≠ 0 ∧
    ((0x2000 : W64) + (0x1FFFFFFF : BitVec 29).signExtend 64 <<< 3).toNat % 8 = 0 ∧ ((4 : W64) + 8).toNat % 8 ≠ 0 := by decide

/-- WaitsStallUntilTheirEvent: CYCLE has come and has not; a latched event and none; a stall that ends and one that does not. -/
theorem witness_waits :
    let s := steward 0 []
    let t := s.setStew 0 { s.stew 0 with evLoad := true, waiting := some (.cycle 0, 3) }
    let u := s.setStew 0 { s.stew 0 with waiting := some (.cycle 1, 3) }
    (0 ≤ cycleOf s 0 ∧ cycleOf s 0 < 1) ∧ (eventBits t 0 &&& (4 % 2 ^ 8) ≠ 0 ∧ eventBits s 0 &&& (4 % 2 ^ 8) = 0) ∧
    (s.event.unit = 0 ∧ (t.stew 0).waiting = some (.cycle 0, 3) ∧ waitEnds t 0 (.cycle 0) = some 0) ∧
    ((u.stew 0).waiting = some (.cycle 1, 3) ∧ waitEnds u 0 (.cycle 1) = none) := by decide +kernel

/-- The state of `firing` with the steward of cluster 0 to move, its region counted there, and entry 0 of context 0 valid. -/
def injector : State :=
  let s := firing []
  let s := s.setCore 0 ((s.core 0).setCtxWord 0 0 1 (word (2 ^ 63)))
  { s.setCluster 0 { s.cluster 0 with slots := [{ image := 7, batch := none, next := 0, acked := [], unacked := [], announce := false }] } with actor := .steward 0 }

/-- A route word to entry 0 of context 0 of element 0 on the control plane. -/
def routeHere : W64 := word (2 ^ 60 + 2 * 2 ^ 58 + 4095 * 2 ^ 43)

/-- InjSendsOneCountedToken: a route that INJ takes, with room for the count; routes and timestamps that it refuses. -/
theorem witness_inj : injector.agent = some (core' injector 0) ∧ injectRefused injector 0 routeHere 0 = false ∧
    unitRoom injector 0 [tokStamp (tokenFor 0 0 5)] = true ∧ tsDepth 0 = 0 ∧ injectRefused injector 0 0 0 = true ∧ routeKind 0 ≠ 1 := by
  refine ⟨rfl, ?_⟩; decide +kernel

/-- PreciseTrapEntry: every core, and the fetches that trap. -/
theorem witness_traps : (20 < (steward 20 []).stewards.length ∧ ((steward 20 []).stew 20).td = false ∧ 255 < 256 ∧ 15 < 16) ∧
    (let s := State.reset
     s.event.unit = 0 ∧ (s.stew 0).halted = false ∧ (s.stew 0).waiting = none ∧ s.soft = [] ∧
     Tab.get none (s.stew 0).icache (s.stew 0).pc.toNat = none ∧ (s.stew 0).pc.toNat + 8 ≤ 2 ^ 39 ∧
     ∃ w t c, fetchWord s 0 = some (w, t) ∧ decode .steward w = .error c) ∧
    (let s := State.reset.setStew 0 { State.reset.stew 0 with pc := word (2 ^ 39) }
     s.event.unit = 0 ∧ (s.stew 0).halted = false ∧ (s.stew 0).waiting = none ∧ 2 ^ 39 < (s.stew 0).pc.toNat + 8 ∧
     (s.stew 0).pc.toNat < 0xF000000000000 ∧ fetchWord s 0 = none) := by
  refine ⟨by decide, ⟨by decide, by decide, by decide, by decide, by decide, by decide, _, _, _, rfl, rfl⟩, by decide⟩

/-- A steward in its trap handler, and a fatal record of it on its way, with its fatal places free or full. -/
def handler (full : Bool) : State :=
  let s := steward 0 []
  let s := s.setStew 0 { s.stew 0 with td := true, epc := 0x3000 }
  s.setCluster 0 { s.cluster 0 with fatalOut := [default], tf := if full then [default, default] else [default] }

/-- SecondTrapsAndFatalRecords. -/
theorem witness_second_traps : (handler false).stewards.length = 21 ∧ (handler false).clusters.length = 16 ∧ ((handler false).stew 0).td = true ∧
    (((handler false).setStew 20 { (handler false).stew 20 with td := true }).stew 20).td = true ∧ 16 ≤ 20 ∧
    (handler false).event.unit = 0 ∧ ((handler false).cluster 0).fatalOut = [default] ∧ ((handler false).cluster 0).tf.length < 2 ∧
    2 ≤ ((handler true).cluster 0).tf.length ∧ bits ((Cause.dbltrap : Nat) * 2 ^ 56 : Nat) 63 56 = Cause.dbltrap := by decide

/-- TrapAndReturn. -/
theorem witness_return : (handler false).agent = some (core' (handler false) 0) ∧ ((steward 0 []).stew 0).td = false := ⟨rfl, by decide⟩

/-- The state of `firing` whose region has a lay-by. -/
def withLayby (s : State) : State := { s with laybys := [(7, (0x10000, 0x10000))] }

/-- FaultParksTheFiring: a free record, and a frame of the region that waits for one. -/
theorem witness_park_firing : let s := withLayby (firing [])
    let w := s.setElem 0 { s.elem 0 with frames := [{ (fired s).frame with state := .parkwait }] }
    (parkwaits s 0 7 = [] ∧ parkwaits w 0 7 ≠ []) ∧
    (s.elem 0).firing = some (fired s) ∧ s.actor = .element 0 ∧
    ∃ k, freeRecord ((undoUnits s 0).setElem 0 { (undoUnits s 0).elem 0 with firing := none }) 7 0 64 64 = some k := by
  refine ⟨by decide +kernel, rfl, rfl, 64, by decide +kernel⟩

/-- MfsReadsSpecialRegisters, MtsWritesSpecialRegisters: numbers of rows, of no register, and of registers of a core that is not fused off. -/
theorem witness_register_numbers :
    (0x010 : BitVec 29).toNat % 2 ^ 12 = 0x010 ∧ (0x012 : BitVec 29).toNat % 2 ^ 12 ≠ 0x010 ∧ (0x012 : BitVec 29).toNat % 2 ^ 12 ≠ 0x011 ∧
    (let s := steward 20 []
     isFused s (cselCore 20 (s.stew 20)) = false ∧ 20 < s.stewards.length ∧ stewCluster 20 < s.clusters.length) ∧
    (bits (word (2 ^ 63 + 7 * 2 ^ 55)) 54 52 = 0 ∧ bits (word (2 ^ 63)) 23 0 = 0 ∧ 0x138 ≤ 0x13F ∧ 0x13F < 0x140) := by decide

/-- MtsWritesSpecialRegisters: words that PKGRST takes and refuses. -/
theorem witness_pkgrst : (∃ t, pkgrst State.reset 0x10 = .ok t) ∧ (∃ c, pkgrst State.reset 1 = .error c) := ⟨⟨_, rfl⟩, _, rfl⟩

/-- RegisterRowsOfTheirOwn: queues with and without room, selections, budgets, and a key slot to fill. -/
theorem witness_register_rows :
    let s := steward 20 []
    (s.pkg.inbox.length < 64 ∧ 64 ≤ (List.replicate 64 ((0 : W64), (0 : W64))).length) ∧ isFused s (cselCore 20 (s.stew 20)) = false ∧
    ((0x3D : W64).toNat % 4 < 2 ∧ 2 ≤ (0x3E : W64).toNat % 4) ∧ (s.stew (selectedMailbox s.pkg.rmsel)).mbox.length < 16 ∧
    (budgetBad (setAt s.pkg.dbud 0 0) 0 = false ∧ budgetBad (setAt s.pkg.dbud 0 (-1)) (-1) = true) := by decide

/-- RegisterRowsOfTheirOwn: the descriptor of an erased key slot 7 at address 64. -/
theorem witness_kslot :
    let s := (steward 20 []).writeNum 64 64 (7 * 2 ^ 456 + 2 ^ 464)
    homeHolds s 64 64 (die := some 0) = false ∧ ∃ t k, readAt s (.stew 20) none 64 64 64 = (t, .ok k) ∧ k < 2 ^ 512 ∧ k / 2 ^ 456 % 256 = 7 ∧ k / 2 ^ 464 % 256 = 1 ∧ k / 2 ^ 472 = 0 := by
  refine ⟨by decide +kernel, _, _, rfl, ?_⟩; decide +kernel

/-- Configuration addresses: route words 0 and 15 of context 1 of element 0 of core 0, its array word, D0's word 0. -/
def routeWords : W64 × W64 := (word (1 * 2 ^ 14 + 0x30), word (1 * 2 ^ 14 + 0x3F))

/-- ConfigurationAccess: malformed, forbidden, refused, accepted and waiting writes; live and staged route words at both ends. -/
theorem witness_configuration :
    let s := injector
    let live := word 0x30
    cfgMalformed (word (2 ^ 32)) = true ∧ cfgMalformed live = false ∧ cfgForbidden 1 (cfgFields live) = true ∧
    cfgForbidden 0 (cfgFields live) = false ∧ cfgFused s (cfgFields live) = false ∧
    (cfgFields live).cls = 0 ∧ (cfgFields (word 0x3F)).off = 0x3F ∧ routeWordBad 0 = false ∧ ctxValid s (cfgFields live).elem 0 = true ∧
    (let q := routeWords.1
     cfgMalformed q = false ∧ cfgForbidden 0 (cfgFields q) = false ∧ ctxValid s (cfgFields q).elem (cfgFields q).ctx = false ∧
      0x30 ≤ (cfgFields q).off) ∧
    (let q := routeWords.2
     cfgMalformed q = false ∧ cfgForbidden 0 (cfgFields q) = false ∧ ctxValid s (cfgFields q).elem (cfgFields q).ctx = false ∧
      (cfgFields q).off < 0x40) ∧
    (s.core 0).txn = Txn.init := by decide +kernel

/-- ConfigurationAccess: no firing runs there; each kind of answer to a write. -/
theorem witness_configuration_writes :
    let s := steward 0 []
    (s.elem 0).firing = none ∧ (∃ c sub, cfgWrite s 0 false (cfgFields 0x30) 1 = .refused c sub) ∧
    (∃ t, cfgWrite s 0 true (cfgFields routeWords.1) 0 = .ok t) ∧ memSpace (ops false .b64 .scalar 0 (.g 1) (.g 2) .zero (5 * 2 ^ 26)) = 5 := by
  refine ⟨rfl, ⟨_, _, rfl⟩, ⟨_, rfl⟩, by decide⟩

/-- A core 0 with a transaction of an owner in a state, with a route word of context 1 staged. -/
def transaction (state : TxnState) (owner : Nat) : State :=
  let s := injector
  let t := { Txn.init with state := state, owner := owner, staged := [(1 * 2 ^ 14 + 0x30, 0)] }
  s.setCore 0 { s.core 0 with txn := { t with staged := t.staged ++ [(0x5F, word (stagedCrc t))] } }

/-- TransactionsCommitAndAbort: the address, and every state of a transaction; a commit that passes and one that fails. -/
theorem witness_transactions :
    (cfgMalformed (0 &&& ~~~cfgPlace) = false ∧ cfgForbidden 0 (cfgFields (0 &&& ~~~cfgPlace)) = false ∧
      cfgFused injector (cfgFields (0 &&& ~~~cfgPlace)) = false ∧ (cfgFields (0 &&& ~~~cfgPlace)).cls < 2) ∧
    (injector.core 0).txn.state = .idle ∧ ((transaction .opened 0).core 0).txn.owner = 0 ∧ ((transaction .opened 20).core 0).txn.owner ≠ 0 ∧
    ((transaction .committed 0).core 0).txn.state = .committed ∧ commitCheck (transaction .opened 0) 0 = none ∧
    (((transaction .committed 0).core 0).txn.made.any fun k => otherThanInitial (transaction .committed 0) (0 * 4 + k / 8) (k % 8)) = false := by
  decide +kernel

/-- The injector whose region 7 has a lay-by with one record of a bare frame of context 0, number 64, and whose context has a frame. -/
def parkedState : State :=
  let s := withLayby injector
  let s := s.writeNum (0x10000 + 64 * 1280 + 16) 8 (2 ^ 63)
  let x := s.elem 0
  s.setElem 0 { x with firing := none, frames := [{ (fired (firing [])).frame with ts := 2, state := .filling, l := none, r := none }] }

/-- StewardFrameAndPortInstructions: CTXPRI and PARK of a context that is there, and of one that is not; frames found and not, with a free record. -/
theorem witness_frames :
    let s := parkedState
    (cfgMalformed 0 = false ∧ cfgForbidden 0 (cfgFields 0) = false ∧ cfgFused s (cfgFields 0) = false ∧ (cfgFields 0).cls = 0 ∧
      (cfgFields 7).off < 8) ∧
    ((15 : W64).toNat < 16 ∧ 16 ≤ (16 : W64).toNat) ∧ ctxValid s 0 0 = true ∧ ctxValid s 0 1 = false ∧ (s.elem 0).firing = none ∧
    ((s.elem 0).frames.find? (fun f => (f.state == .filling || f.state == .complete) && f.hasTag 0 1 2)) = none ∧
    ((s.elem 0).frames.find? (fun f => (f.state == .filling || f.state == .complete) && f.hasTag 0 0 2)).isSome = true ∧
    parkwaits s 0 (ctxImage s 0 0) = [] ∧
    freeRecord s (ctxImage s 0 0) 0 64 64 = some 65 := by decide +kernel

/-- StewardFrameAndPortInstructions: records found and not, refused and returned. -/
theorem witness_records :
    let s := parkedState
    let p := readRecord s 7 (0x10000 + 64 * 1280)
    findRecord s 0 0 = none ∧ findRecord s 0 (word (0x10000 + 64 * 1280)) = some (7, 64, 0x10000 + 64 * 1280) ∧
    unparkReason s 64 p true = none ∧ unparkReason s 64 p false = none ∧ unparkReason s 63 p true = some 4 ∧ unparkReason s 63 p false = some 4 ∧
    (deliverAll s ([p.l, p.r, p.p].filterMap id)).isSome = true ∧ p.x = none ∧
    obufRoom s 0 0 0 (tokenFor 0 0 1) = true := by decide +kernel

/-- StewardFrameAndPortInstructions: ports HELD and FLOWING, entries that DRAIN takes and refuses, both kinds of TLBINV. -/
theorem witness_ports :
    let s := injector
    let t := s.setCore 0 ((s.core 0).setPort 7 { Port.init with held := true })
    let d := State.reset.setCluster 0 { State.reset.cluster 0 with wta := [(63, word (2 ^ 63 + 2 * 2 ^ 61 + 7 * 2 ^ 32))] }
    (cfgMalformed (word (2 ^ 26 + 7)) = false ∧ cfgForbidden 0 (cfgFields (word (2 ^ 26 + 7))) = false ∧
      cfgFused s (cfgFields (word (2 ^ 26 + 7))) = false ∧ (cfgFields (word (2 ^ 26 + 7))).cls = 1 ∧ (cfgFields (word (2 ^ 26 + 7))).off < 8) ∧
    ((s.core 0).port 7).held = false ∧ ((t.core 0).port 7).held = true ∧ 7 < (t.core 0).ports.length ∧
    drainReason d 0 62 = some 1 ∧ drainReason d 0 63 = none ∧
    (0 : BitVec 29).toNat % 2 = 0 ∧ (6 : BitVec 29).toNat / 2 % 8 = 3 ∧ (4 : BitVec 29).toNat / 2 % 8 ≠ 3 := by decide +kernel

/-- A package in which die 0 is in a stage of its reset. -/
def staged (k : Nat) (s : State) : State := { s with pkg := { s.pkg with pkgrst := word k } }

/-- ObservationRegistersAndSigchk: a core that is not fused off, TEN set alone and beside another, a flush, pages that TRDUMP and WALKGO write. -/
theorem witness_observation :
    let s := steward 0 []
    let t := s.setCluster 1 { s.cluster 1 with obctl := word (2 ^ 63) }
    isFused s (cselCore 0 (s.stew 0)) = false ∧ stewCluster 0 < s.clusters.length ∧ (word (2 ^ 63)).getLsbD 63 = true ∧
    otherTraces s 0 = false ∧ otherTraces t 0 = true ∧ (word (2 ^ 62)).getLsbD 62 = true ∧ (word 0).getLsbD 62 = false ∧
    bits (word 0) 51 12 * 4096 + 2 ^ 24 ≤ 2 ^ 39 ∧ bits (word (2 ^ 39 - 1)) 51 12 * 4096 + 4096 ≤ 2 ^ 39 ∧ (1 : W64) ≠ 0 ∧
    spillHeld s 0 0 (spillLength (s.cluster 0)) = false ∧ physHolds s 0 64 32 = false ∧ physHolds (staged 2 s) 0 64 32 = true ∧
    physHolds s 0 0 0 = false ∧ physHolds s 0 0 114 = false := by decide +kernel

/-- ObservationRegistersAndSigchk: a walk that goes on, and one that ends. -/
theorem witness_walk :
    let w : Walk := { pa := 0x1000, records := List.replicate 127 default }
    let s := (steward 0 []).setCluster 0 { (steward 0 []).cluster 0 with walk := some w }
    (s.cluster 0).walk = some w ∧ w.records.length < 128 ∧ w.records.length + min 5 (128 - w.records.length) = 128 ∧ w.pa % 4096 = 0 ∧
    w.pa + 4096 ≤ 2 ^ 39 ∧ homeHolds s w.pa 4096 true (die := some 0) = false := by decide +kernel

/-- ObservationRegistersAndSigchk: descriptors that are too long, of an empty key slot, and of a full one. -/
theorem witness_sigchk :
    let s := (steward 0 []).writeNum (64 + 24) 8 8
    let t := steward 0 []
    let u := t.setDie 0 { t.die 0 with keys := setAt (t.die 0).keys 0 (some 1) }
    let w := fun (desc : List Byte) (i : Nat) => numOfBytes ((desc.drop (8 * i)).take 8)
    ((physRead s 0 64 32).2.toOption.any fun desc => decide (8 ≤ w desc 3)) = true ∧
    ((physRead t 0 0 32).2.toOption.any fun desc => decide (w desc 1 ≤ 2 ^ 32) && decide (w desc 3 < 8)) = true ∧
    ((physRead t 0 0 32).1.die (stewDie 0)).keys.getD 0 none = none ∧
    (let u1 := (physRead u 0 0 32).1
     let u2 := (physRead u1 0 0 0).1
     (physRead u 0 0 32).2.toOption.isSome = true ∧ (u1.die (stewDie 0)).keys.getD 0 none = some 1 ∧
      (physRead u1 0 0 0).2.toOption.isSome = true ∧ (physRead u2 0 0 114).2.toOption.isSome = true) := by decide +kernel

/-! ### Events of elements, chains and the waymark protocol -/

/-- A state whose next event has given particulars. -/
def happening (s : State) (ev : Event) : State := { s with event := ev }

/-- A flight of a token to entry 0 of context 0 of element 0. -/
def flight (side : Nat) : Flight := { tok := tokenFor side 0 5, src := none, net := 2 }

/-- The injector with a lay-by, no firing, and entry 0 waiting for its left operand. -/
def listener : State :=
  let s := withLayby injector
  let s := s.setCore 0 ((s.core 0).setCtxWord 0 0 1 (word (2 ^ 63 + 2 ^ 57)))
  s.setElem 0 { s.elem 0 with firing := none, frames := [] }

/-- The frame of entry 0 with a token, complete and chosen first. -/
def readyFrame : Frame := { (fired (firing [])).frame with ent := 0, ts := 0, l := some (tokenFor 0 0 5), r := none, p := none, x := none,
                                                            state := .complete, order := 0 }
/-- The listener with that frame, and with channel 0 enabled. -/
def chooser : State :=
  let s := listener
  let s := s.setCore 0 { s.core 0 with cfg1 := [(0, word (2 ^ 63))] }
  s.setElem 0 { s.elem 0 with frames := [readyFrame] }

/-- ElementEvents: a token that arrives, one that strays, and one that doubles an operand. -/
theorem witness_arrival :
    let s := { listener with net := [flight 0] }
    (s.event.kind = 0 ∧ s.net[s.event.unit]? = some (flight 0) ∧ ((s.net.take s.event.unit).any fun g => arrivesBefore g (flight 0)) = false ∧
      flightDropped s (flight 0) = none ∧ flightPasses s (flight 0) = true ∧ (deliver { s with net := s.net.eraseIdx s.event.unit } (flight 0).tok none).isSome = true) ∧
    ctxValid State.reset 0 0 = false ∧
    (ctxValid chooser 0 0 = true ∧ bitOf (entryWord chooser 0 0 0) 63 = true ∧ (readyFrame.side (tokSide (tokenFor 0 0 7))).isSome = true ∧
      obufRoom chooser 0 0 0 (tokenFor 0 0 7) = true ∧ trapRoom chooser 0 = true ∧
      (chooser.elem 0).frames.find? (fun f => f.ctx == 0 && f.ent == 0 && f.ts == 0 && f.state != .parkwait && f.state != .lost) =
        some readyFrame) := by
  decide +kernel

/-- ElementEvents: a frame is chosen; a firing has ended. -/
theorem witness_choice :
    let s := chooser
    ((s.elem 0).firing = none ∧ (s.elem 0).stopped = false ∧ (s.elem 0).traps.length < 2 ∧ throttled s (dieOf (coreOf 0)) = false ∧
      (pickFrame s 0).isSome = true) ∧
    (let t := altered (firing []) fun f => { f with ended := true }
     (fired t).ended = true ∧ (t.elem 0).firing = some (fired t)) := by decide +kernel

/-- A state in which element 0 holds one release. -/
def releasing (items : List Item) (out : List Outst) : State :=
  let s := injector
  let r : Release := { id := 0, ctx := 0, ent := 0, items := items, decs := [], taint := false, out := out, gated := 0, popped := 0 }
  s.setElem 0 { s.elem 0 with releases := [r] }
/-- Its release. -/
def theRelease (s : State) : Release := (nextRelease (s.elem 0)).getD default
/-- A store that is out. -/
def storeOut : Outst := { ord := 0, place := 0, runs := [(0, 0, 8)], entry := true, write := true }

/-- ElementEvents: sends and widenings that wait for a store, that leave, SENDM, REQN, and a release that has wholly left. -/
theorem witness_releases :
    let tok := tokenFor 0 0 5
    let s := releasing [.send tok 0 routeHere [0] false] []
    let t := releasing [.send tok 0 routeHere [0] false] [storeOut]
    let y := releasing [.send tok 0 routeHere [0] true] []
    let z := releasing [.send tok 0 routeHere [0] true] [storeOut]
    let u := releasing [.sendm tok 4 (routeTo 6 5) false 0] []
    let v := releasing [.reqn 0 0 routeHere] []
    let w := releasing [] []
    let m := mapRelease u 0 (theRelease u).id fun y => { y with items := [.sendm tok 4 (routeTo 6 5) false 0] }
    (nextRelease (s.elem 0) = some (theRelease s) ∧ findRelease (s.elem 0) (theRelease s).id = some (theRelease s)) ∧
    (theRelease y).items = [.send tok 0 routeHere [0] true] ∧ storesOut (theRelease y) = false ∧ storesOut (theRelease z) = true ∧
    unitRoom y 0 ((branches y tok [0]).map tokStamp) = true ∧
    (theRelease s).items = [.send tok 0 routeHere [0] false] ∧ routeKind routeHere ≠ 2 ∧ routeKind routeHere ≠ 8 ∧
    unitRoom s 0 ((branches s tok [0]).map tokStamp) = true ∧ branches t tok [0] ≠ [] ∧
    storesOut (theRelease t) = true ∧ storesOut (theRelease s) = false ∧
    (theRelease u).items = [.sendm tok 4 (routeTo 6 5) false 0] ∧ routeDev u (routeTo 6 5) = u.devId ∧
    (musterOf m (routeMid (routeTo 6 5))).queue = [] ∧
    unitRoom m 0 (memberStamps m tok (musterOf m (routeMid (routeTo 6 5))).slots) = true ∧
    (theRelease v).items = [.reqn 0 0 routeHere] ∧ unitRoom v 0 [(routeRegion v routeHere (ctxImage v 0 0), 0, 0)] = true ∧
    ((findRelease (w.elem 0) w.event.index).map fun r => (r.items, r.out, r.gated)) = some ([], [], 0) ∧ decRoom w 0 [] = true := by
  decide +kernel

/-- ElementEvents: records on their way to the trap queue and to the reeve, and a PARKWAIT frame with a free record. -/
theorem witness_records_leave :
    let s := injector.setElem 0 { injector.elem 0 with traps := [{ ctx := 0, record := default }] }
    let t := s.setCore 0 ((s.core 0).setCtxWord 0 0 0 (setBits contextWord 55 53 7))
    let u := listener.setElem 0 { listener.elem 0 with frames := [{ readyFrame with state := .parkwait }] }
    16 ≤ bits (ctxWord s 0 0) 36 32 ∧ bits (ctxWord s 0 0) 55 53 ≠ 7 ∧ (s.cluster 0).tq.length < 62 ∧ 0 < s.clusters.length ∧
    16 ≤ bits (ctxWord t 0 0) 36 32 ∧ bits (ctxWord t 0 0) 55 53 = 7 ∧ t.pkg.rq.length < 64 ∧
    (freeRecord u (ctxImage u 0 0) 0 64 64).isSome = true ∧ trapRoom u 0 = true := by decide +kernel

/-- The firing whose next slot holds a word. -/
def nextWord (w : W64) : State :=
  let s := firing []
  s.setCore 0 ((s.core 0).setCtxWord 0 0 (0x10 + (fired s).slot) w)

/-- ElementEvents: a firing whose next instruction is a VSEQACC, and ones whose next claims the array or the cutter. -/
theorem witness_claims :
    let a := nextWord 0xC32214E240000000
    let c := nextWord 0xC7003E8229000000
    (∃ o, nextInstr (nextWord 0x81243EC380000000) 0 = some (.vseqacc o)) ∧
    (firstServed a (((claimCores a 0).flatMap elemsOf).filter (wants a true)) = some 0 ∧ (claimArray a 0).isSome = true) ∧
    (firstServed c (([0].flatMap elemsOf).filter (wants c false)) = some 0 ∧ (claimCutter c 0 0).isSome = true) := by
  refine ⟨⟨_, rfl⟩, ?_⟩; decide +kernel

/-- ElementEvents: a hedge between tenants drops a token in flight. -/
theorem witness_hedge :
    let s := State.reset.setCore 0 { State.reset.core 0 with cfg1 := [(0x31, 1)] }
    let f : Flight := { tok := { tokenFor 0 0 5 with h1 := word (2 ^ 41) }, src := none, net := 2, origin := some 0 }
    (flightDropped { s with net := [f] } f).isSome = true := by decide +kernel

/-- Chain 0 of core 0, bound to entry 0 of context 0 of element 0, on route 0, of one level of two tokens. -/
def chained (a : Option Activation) : State :=
  let s := chooser
  s.setCore 0 { s.core 0 with cfg1 := [(0, word (2 ^ 63)), (0x20, word (2 ^ 63 + 2 ^ 48)), (0x21, word (2 * 2 ^ 20))], chains := [a, none, none, none] }

/-- ChainEmitterAndArrayEvents: a chain that takes a frame, checked and with its channel off; one that emits, ends, or waits at the gate. -/
theorem witness_chains :
    let s := chained none
    let off := s.setCore 0 { s.core 0 with cfg1 := [(0x20, word (2 ^ 63 + 2 ^ 48)), (0x21, word (2 * 2 ^ 20))] }
    let w := Tab.get 0 (s.core 0).cfg1 0x20
    (bitOf w 63 = true ∧ ctxPri s 0 0 ≠ 0 ∧ isLean s 0 7 = false ∧
      ((s.elem 0).frames.filter fun f => f.state == .complete && f.ctx == bits w 60 58 && f.ent == bits w 57 55) = [readyFrame] ∧
      channelCheck s 0 readyFrame = none ∧ (channelCheck off 0 readyFrame).isSome = true ∧ trapRoom off 0 = true) ∧
    (chainCount (s.core 0) 0 = 2 ∧ 1 < 2 ∧ 2 ≤ 2 ∧ (1 : Nat) ≠ 0 ∧
      (emit s 0 0 0 routeHere [0] 0 1 { last := true, seq := 1 } 1 0).2.isSome = true ∧
      decRoom s 0 (readyFrame.tokens.map tokDec) = true) := by decide +kernel

/-- ChainEmitterAndArrayEvents: an emission of two positions, one of none, and one whose last token has left; a row in the cells. -/
theorem witness_emission :
    let s := chained none
    let m : Emission := { elem := 0, ctx := 0, ent := 0, ts := 0, route := 0, word := routeHere, cores := [0], bits := [3, 63], next := 1,
                          live := true, rel := 0, gated := 0, after := 0 }
    m.bits[m.next]? = some 63 ∧ emissionFree s m = true ∧
    (emit s 0 0 0 routeHere [0] 0 1 { last := m.next + 1 == m.bits.length, seq := 1 } (63 + 1 * 2 ^ 16) 4).2.isSome = true ∧
    (emit s 0 0 0 routeHere [0] 0 0 { last := true, esheaf := true } 0 4).2.isSome = true ∧ max 1 m.bits.length ≤ 2 ∧
    ([default] : List ArrRow) = default :: [] := by decide +kernel

/-- A token of the state's region in a gate queue. -/
def gated (loop : Nat) : Gated := { toks := [tokenFor 0 0 5], src := (0, 0), net := 2, loop := loop, prefixTs := 0, elem := 0, rel := none, chain := none }
/-- The listener with two tokens of one prefix at the gate, and a slot with a batch opened at clock 0. -/
def gateway : State :=
  let s := listener
  s.setCluster 0 { s.cluster 0 with gate := [gated 0, gated 1], slots := [{ image := 7, batch := some { seq := 0, opened := 0, marks := [] },
                                                                            next := 0, acked := [], unacked := [], announce := false }] }

/-- WaymarkProtocolEvents: tokens that wait behind another, for their loop, and that leave. -/
theorem witness_gate :
    let s := { gateway with loops := [{ image := 7, loop := 1, parent := 0, window := 0, rank := 0 }] }
    (s.cluster 0).gate[0]? = some (gated 0) ∧ (s.cluster 0).gate[1]? = some (gated 1) ∧
    (((s.cluster 0).gate.take 1).any fun h => h.src == (gated 1).src && h.prefixTs == (gated 1).prefixTs) = true ∧
    (((s.cluster 0).gate.take 0).any fun h => h.src == (gated 0).src && h.prefixTs == (gated 0).prefixTs) = false ∧
    ((gated 1).toks ≠ [] ∧ (gated 1).toks.all (fun t => !admits s t.region 1 0)) ∧
    unitRoom s 0 ((gated 0).toks.map tokStamp) = true ∧
    (homedAway s 7 = false ∧ admits s 7 0 0 = true ∧ admits s 7 1 0 = false ∧ homedAway { s with devices := [(9, [3])] } 9 = true) := by decide +kernel

/-- WaymarkProtocolEvents: batches that close by age, by their pointstamps, and that stay open. -/
theorem witness_batches :
    let b : Batch := { seq := 0, opened := 0, marks := (List.range 32).map fun k => { loc := k, ts := 0, plus := true, tag := none, taint := false, isReq := false } }
    0 + 256 ≤ 256 ∧ 255 < 0 + 256 ∧ 32 ≤ stamps b ∧ stamps { b with marks := b.marks.drop 1 } < 32 ∧
    (((gateway.cluster 0).slots[0]?).bind Slot.batch).isSome = true ∧
    ((gateway.cluster 0).slots.all fun x => x.unacked.length < 32768) = true ∧ 32768 ≤ (List.replicate 32768 0).length := by decide +kernel

/-- WaymarkProtocolEvents: batches at the home in and out of sequence, acknowledgements, and requests that may and may not be delivered. -/
theorem witness_home :
    let b : Batch := { seq := 65535, opened := 0, marks := [] }
    let p : Pending := { loc := 0, s := 0, bcl := 0, bseq := 0, taint := false, delivered := false }
    let h : Home := { Home.init with received := [(0, [b])], applied := [(0, 65535)], acks := [(0, [(0, 0)])], pending := [p] }
    let s := gateway.setHome 7 h
    Tab.get [] (s.home 7).received 0 = [b] ∧ b.seq = Tab.get 0 (s.home 7).applied 0 % 65536 ∧ b.seq ≠ Tab.get 0 Home.init.applied 0 % 65536 ∧
    (findSlot s 0 7).isSome = true ∧ ((s.home 7).acks.find? fun a => a.1 == 0) = some (0, [(0, 0)]) ∧
    (s.home 7).pending[0]? = some p ∧ deliverable s 7 p = true ∧ deliverable (s.setHome 7 { h with hold := true }) 7 p = false ∧
    (p.loc / 2 ^ 19 = s.devId ∧ p.loc < 2 ^ 31) ∧ 1 ≤ homeCapacity s 7 ∧ homeCapacity s 7 = 8192 ∧
    ({ h with pending := List.replicate 8193 p } : Home).waymarks = 8193 := by decide +kernel

/-! ### Events of ports, engines, hosts and the fabric -/

/-- A request of a firing of element 0 in port 0. -/
def request (kind : ReqKind) (space ea : Nat) (stage : Stage) : Req :=
  { (default : Req) with kind := kind, space := space, ea := ea, size := 8, pas := [ea], stage := stage }

/-- The listener whose core 0 has requests in port 0. -/
def porting (reqs : List Req) (p : Port := Port.init) : State :=
  let s := listener
  s.setCore 0 ((s.core 0).setPort 0 { p with reqs := reqs })

/-- PortAndMemoryEvents: entries of an ordering token, of a scratchpad load, of loads through a window that permits them and one that does not. -/
theorem witness_port_entry :
    let q := request .ld 3 248 .entered
    let s := releasing [.req q 0] []
    let win := fun (v : Nat) => s.setCore 0 { s.core 0 with wva := [(0, word v)], wlen := [(0, word (7 * 2 ^ 48 + 256))] }
    ((theRelease s).items.head? = some (.req q 0) ∧ q.kind ≠ .fence ∧ q.port = 0 ∧ portUsed s 0 0 < 32 ∧
      unitRoom s 0 ((replyTokens s q 0).map tokStamp) = true ∧ (theRelease s).items.any Item.uncounted = false ∧
      (theRelease (releasing [.req q 0, .reqn 0 0 routeHere] [])).items.any Item.uncounted = true) ∧
    (ReqKind.ordt ≠ .fence ∧ ReqKind.mapsGlb .tlrd = false ∧ ReqKind.mapsGlb .ld = true) ∧
    (windowMap (win (2 ^ 63 + 2 ^ 62)) q q.eas q.span).toOption = some [248] ∧ (∃ y, windowMap (win (2 ^ 63)) q q.eas q.span = .error y) := by
  refine ⟨by decide +kernel, by decide, by decide +kernel, _, rfl⟩

/-- PortAndMemoryEvents: requests that walk, that are performed, that cancel a watch, and one that another holds back. -/
theorem witness_ports_go :
    let w := porting [request .ld 3 256 .walking]
    let r := porting [request .ld 3 256 .ready]
    let b := porting [request .st 3 256 .ready, { request .ld 3 256 .ready with ord := 1 }]
    let c := porting [request .watch 3 256 .ready]
    mayGo ((w.core 0).port 0) 0 = true ∧ inOrder r 0 0 0 (request .ld 3 256 .ready) = true ∧
    (mayGo ((b.core 0).port 0) 1 = true ∧ inOrder b 0 0 1 { request .ld 3 256 .ready with ord := 1 } = false) ∧
    (((c.core 0).port 0).reqs[0]? = some (request .watch 3 256 .ready) ∧ (request .watch 3 256 .ready).cmp = 0 ∧
      inOrder c 0 0 0 (request .watch 3 256 .ready) = true) := by decide +kernel

/-- PortAndMemoryEvents: an answer of another device, a deferred read that is filled, notifications, and ordering tokens that may and may not leave. -/
theorem witness_port_units :
    let s := listener
    let a := { s with pkg := { s.pkg with outstanding := [request .rld 3 0 .held] } }
    let d := s.setCore 0 { s.core 0 with deferred := [request .ldp 0 8 .ready] }
    let n : Watch := { addr := 0, ea := 0, losses := 1, elem := 0, ctx := 0, ent := 0, route := 0, held := [tokenFor 0 0 0], left := 1, queue := [5], sent := [], lost := true }
    let o := releasing [] [{ storeOut with entry := false }]
    (happening a { (default : Event) with kind := 1 }).pkg.outstanding[0]? = some (request .rld 3 0 .held) ∧
    ((d.core 0).deferred[0]? = some (request .ldp 0 8 .ready) ∧ (request .ldp 0 8 .ready).stage = .ready ∧ 0 < 2048) ∧
    (n.queue = 5 :: [] ∧ n.sent = [] ∧ n.left ≤ 1 ∧ ({ n with sent := [tokenFor 0 0 0] }).sent ≠ []) ∧
    ordtMay s { request .ordt 0 0 .ready with ord := 1 } = true ∧ ordtMay o { request .ordt 0 0 .ready with ord := 1 } = false := by decide +kernel

/-- A stream of 8 bytes from the cellar at 2^53 to offset 16 of the scratchpad. -/
def stream (kind : ReqKind) (stage : Stage) : Req :=
  { request kind 3 celBase stage with cmp := word (8 * 2 ^ 32 + 16) }

/-- PortAndMemoryEvents: a stream whose block is checked, one that moves a granule, and one that finds its granule full. -/
theorem witness_stream :
    let e := porting [stream .strm .entered]
    let r := porting [stream .strm .ready]
    let f := r.setPresent (scrAddr 0 16) true
    let x := { stream .strm .ready with failed := some (Cause.memecc, 0) }
    let far := { stream .strm .ready with pas := [remoteBase + 8] }
    portStream ((e.core 0).port 0) = some (0, stream .strm .entered) ∧ mayGo ((e.core 0).port 0) 0 = true ∧
    inOrder e 0 0 0 (stream .strm .entered) = true ∧
    (windowMap e (stream .strm .entered) [(streamBlock celBase 8 0).1] (streamBlock celBase 8 0).2).toOption = some [unmapped] ∧
    ((streamStep r 0 (stream .strm .ready)).2.map Except.toOption) = some (some ()) ∧
    portStream ((porting [x]).core 0 |>.port 0) = some (0, x) ∧ (streamStep (porting [far]) 0 far).2 = none ∧ (f.present (scrAddr 0 (bits (stream .strm .ready).cmp 18 0 + 0))) = true := by
  decide +kernel

/-- A COPY of 8 bytes on engine context 0 by the listener's region. -/
def copyReq : Req := { request .copy 3 0 .ready with cmp := word (8 * 2 ^ 32) }
/-- The listener with that context valid, and operations in its queue. -/
def engaged (queue : List EngOp) : State :=
  let s := porting [copyReq]
  s.setEngine 0 { Engine.init with ectx := word (2 ^ 63 + 7 * 2 ^ 47), queue := queue }
/-- An operation that has moved some bytes. -/
def moved (n : Nat) : EngOp := { req := copyReq, num := 1, done := n, core := 0, block := none, written := false, failed := none }

/-- EngineEvents: an operation that is accepted, one that waits for a full queue, one that is refused; a queue whose head runs and ends. -/
theorem witness_engines :
    let s := engaged []
    (handleOf copyReq.cmp = 0 ∧ resetStage s (handleDie 0) = 0 ∧ engineRefuses s copyReq 0 = false ∧ handleEng 0 ≠ 3 ∧
      (s.engine 0).queue.length < 64 ∧ mayGo ((s.core 0).port 0) 0 = true ∧ inOrder s 0 0 0 copyReq = true) ∧
    (copyReq.cmpl = false ∧ ({ copyReq with op := 64 }).cmpl = true) ∧
    64 ≤ ((engaged (List.replicate 64 (moved 0))).engine 0).queue.length ∧ engineRefuses listener copyReq 0 = true ∧
    (storesDone (engaged [moved 0]) (moved 0).req = true ∧ resetStage (engaged [moved 0]) (handleDie 0) = 0 ∧ bitOf (engaged [moved 0]).pkg.govstat 0 = false ∧
      (moved 8).done = opLength copyReq.kind copyReq.cmp ∧ (moved 0).done ≠ opLength copyReq.kind copyReq.cmp ∧
      ((engaged [moved 8]).engine 0).waits = []) := by decide +kernel

/-- EngineEvents: the four answers of an engine context. -/
theorem witness_accept :
    (∃ t v u, acceptOp (engaged []) copyReq = (t, .done v u)) ∧ (∃ t, acceptOp (engaged []) { copyReq with op := 64 } = (t, .taken)) ∧
    (∃ t y, acceptOp listener copyReq = (t, .fail y)) := ⟨⟨_, _, _, rfl⟩, ⟨_, rfl⟩, _, _, rfl⟩

/-- Ingress window 0, bound to image 7 in entry 0 of cluster 0's waiting table, of device 5; the image in a STATE. -/
def ingress (state : Nat) (packets : List Packet) : State :=
  let s := listener
  let s := s.setCluster 0 { s.cluster 0 with wta := [(0, word (2 ^ 63 + state * 2 ^ 61 + 7 * 2 ^ 32))] }
  setWindow (setFabric s 0x440 (word (2 ^ 63 + 7 * 2 ^ 37 + 5 * 2 ^ 25))) 0 { Window.init with packets := packets }

/-- HostEvents: packets that are taken and dropped, in bound and unbound windows, delivered, held and discarded. -/
theorem witness_ingress :
    let s := ingress 2 [default]
    dropReason s 0 0 5 40 0 0 0 0 = none ∧ dropReason s 0 0xFEE0 5 288 0 (word (2 ^ 12)) 0 0 = some 2 ∧ (windowOf s 0).packets.length < 32 ∧
    0xFEE0 < 0xFF00 ∧ bitOf (ingb s 0) 63 = true ∧ bitOf (ingb s 63) 63 = false ∧
    (windowOf s 0).packets = default :: [] ∧ registered s (ingb s 0) = some 2 ∧ registered (ingress 3 []) (ingb s 0) = some 3 ∧
    registered listener (ingb s 0) = none ∧ unitRoom s 0 [tokStamp (packetToken s 7 default)] = true ∧ 5 = bits (ingb s 0) 36 25 := by decide +kernel

/-- HostEvents: attestation requests taken, refused and answered; a lost region. -/
theorem witness_hosts :
    let q : W64 := word (2 ^ 63)
    let s := listener
    let on := { s with pkg := { s.pkg with fabric := Tab.set 0 (Tab.set 0 s.pkg.fabric 0x480 q) 0x4BF q, egress := [(0, [tokenFor 0 0 5])] } }
    let off := { s with pkg := { s.pkg with egress := [(0, [tokenFor 0 0 5])] } }
    bitOf (egq on 0) 63 = true ∧ bitOf (egq off 0) 63 = false ∧ egressOf on 0 = [tokenFor 0 0 5] ∧ reeveQueueRoom on 2 = true ∧ reeveQueueRoom on 1 = true ∧
    bitOf (egq s 63) 63 = false ∧ s.pkg.reports = [] ∧
    ((regionCtxs on 7).all fun (e, ctx) => !((on.elem e).firing.any fun f => f.frame.ctx == ctx)) = true ∧
    s.pkg.attest.length < 4 ∧ 4 ≤ ([0, 1, 2, 3] : List (BitVec 256)).length ∧ ((on.setHome 7 { Home.init with lost := true }).home 7).lost = true ∧
    (0x3FFF08 < 0x400000 ∧ 0x3FFF08 % 65536 = 0xFF08 ∧ 0xFF00 ≤ 0xFF00 % 65536) := by decide +kernel

/-! ### Events of the fabric, of pages and regions, energy, resets and the step -/

/-- A state with the collective instance of a set that pins no member. -/
def collecting (c : Collective) : State :=
  let s := listener
  { s with pkg := { s.pkg with collectives := [c] } }

/-- FabricEvents: requests of other devices, JOINs of free and owned sets, waiting and pinned operations, collectives, a first silence. -/
theorem witness_fabric_events :
    let j := { request .join 3 0 .ready with op := 5, cmp := 7 }
    let free := listener
    let owned := setMuster listener 5 { Muster.init with image := some 9 }
    let c : Collective :=
      { mid := 5, ts := 0, pinned := [], given := [], done := 0, failed := false, read := [], wrote := [] }
    let p : Collective := { c with pinned := [(0, { loc := 0, side := 0 })] }
    let s := listener
    (3 ≠ s.devId ∧ 4095 < 4096) ∧ ((musterOf free j.op).image = none ∧ (musterOf free j.op).slots = []) ∧
    ((musterOf owned j.op).image = some 9 ∧ 9 ≠ j.cmp.toNat ∧ ((musterOf owned j.op).slots.find? fun y => y.2 == reqMember j) = none) ∧
    ((musterOf (setMuster s 0 { Muster.init with queue := [j] }) 0).queue = j :: [] ∧ (Muster.init).pins = 0 ∧ j.kind = .join ∧
      (musterOf (setMuster s 0 { Muster.init with queue := [j], pins := 1 }) 0).pins ≠ 0) ∧
    ((collecting c).pkg.collectives[0]? = some c ∧ ((collecting c).pkg.collectives[0]?.any fun c => c.pinned.isEmpty)) ∧
    ((p.pinned.filter fun y => !(p.given.any fun g => g.1 == y.1)).any fun y => branchLives (collecting p) y.2) = true ∧
    (s.pkg.outstanding = [] ∧ 3 < 4 ∧ s.pkg.ucie.length = 4) := by decide +kernel

/-- FabricEvents: a remote read that is answered, and one that fails. -/
theorem witness_remote :
    let s := happening listener { (default : Event) with unit := 3, size := 8 }
    let v := s.event
    (∃ t a, remoteAt s .engine (arrival v).home (arrival v).port (arrival v) = (t, .ok (some a))) ∨
    (∃ t y, remoteAt s .engine (arrival v).home (arrival v).port (arrival v) = (t, .error y)) := by
  first | exact .inl ⟨_, _, rfl⟩ | exact .inr ⟨_, _, rfl⟩

/-- The listener with a migration of page 1, which device 1 homes. -/
def migrating (m : Migration) : State :=
  let s := listener
  { s with pkg := { s.pkg with migrations := [m], fabric := Tab.set 0 s.pkg.fabric 0x700 (word (2 ^ 16)) } }
/-- A migration of page 1 to device 2. -/
def moving (phase : MigrPhase) (passes : Nat) (dirty : List Nat) : Migration :=
  { page := 1, pa := 0x10000, target := 2, ten := 0, phase := phase, passes := passes, dirty := dirty }

/-- PageEvents: lookups, counts at home and elsewhere, copying, frozen and switching migrations, and aborts that hold and do not. -/
theorem witness_pages :
    let s := migrating (moving .copying 8 (List.range 257))
    let d := s.setDie 0 { s.die 0 with lookups := [(1, 0)] }
    (homesPage s 1 = false ∧ homesPage s 0 = true ∧ (d.die 0).lookups.contains (1, 0) = true ∧ (s.die 0).lookups.contains (1, 0) = false ∧
      (enterOwner d 0 { ten := 0, page := 1, owner := 4095, gen := 65535, closed := false, awaits := false }).isSome = true ∧
      homeMapFull s 0 = false ∧
      bits (Tab.get 0 { s.pkg with fabric := Tab.set 0 s.pkg.fabric 0x600 0 }.fabric 0x600) 15 0 = 0) ∧
    ((migrationOf s 1).isSome = true ∧ 256 < (moving .copying 8 (List.range 257)).dirty.length ∧
      (moving .copying 8 (List.range 256)).dirty.length ≤ 256 ∧ 8 < 9 ∧ 9 ≤ (moving .copying 9 []).passes) ∧
    (admitted s (moving .frozen 9 []) = false ∧ abortHolds s (moving .copying 0 []) 5 = true ∧ abortHolds s (moving .copying 0 []) 4 = false) := by
  decide +kernel

/-- PageEvents: signposts whose owner lives and is dead, an owner cache that awaits nothing and something, a reclamation under way. -/
theorem witness_signposts :
    let s := migrating (moving .copying 0 [])
    let p : Signpost := { page := 1, owner := 2, gen := 0, queue := [request .rld 3 0x10000 .ready] }
    let live := { s with pkg := { s.pkg with signposts := [p], fabric := Tab.set 0 s.pkg.fabric 0x800 (-1) } }
    let out := { s with pkg := { s.pkg with outstanding := [request .ld 3 0x10000 .held] } }
    (isDead s 2 = false ∧ deadPeer (setFabric live 0x801 (-1)) 2 = false ∧ (request .rld 3 0x10000 .ready).elem < outsideMark ∧
      (request .pref 3 0x10000 .ready).kind = .pref ∧ ({ request .rld 3 0x10000 .ready with done := 2 }).done ≥ 2 ∧ (request .rld 3 0x10000 .ready).done < 2) ∧
    (signpostOf live 1 = some p ∧ p.owner ≠ s.devId ∧ deadPeer s 2 = true ∧ awaited s 0 1 = [] ∧ awaited out 0 1 ≠ []) ∧
    (isDead s 4 = false ∧ signpostOf s 0 = none ∧ homesPage s 0 = true ∧ (pageEntry s 0).owner < 4096 ∧ live.event.flag = false) := by
  decide +kernel

/-- PageEvents: a signpost that may be freed, and one while an access to another owner is awaited, and reclamations before and after
RECLAIM. -/
theorem witness_reclaim :
    let s := migrating (moving .copying 0 [])
    let p : Signpost := { page := 1, owner := 2, gen := 0, queue := [] }
    let r := { s with pkg := { s.pkg with signposts := [p] } }
    let q := { s with pkg := { s.pkg with signposts := [p], outstanding := [request .ld 3 0x10000 .held] } }
    let go := fun (x : Reclaim) => { s with pkg := { s.pkg with reclaims := [x] } }
    (homesPage r 1 = false ∧ signpostOf r 1 = some p ∧ oldAnswered r 1 2 = true ∧ oldAnswered q 1 2 = false ∧ p.owner ≠ r.devId) ∧
    ((go { page := 0, left := [4], posts := none }).pkg.reclaims.find? (fun y => y.page == 0) = some { page := 0, left := [4], posts := none } ∧
      ([4].all fun d => isDead (go { page := 0, left := [], posts := some [4] }) d) = false ∧
      (([] : List Nat).all fun d => isDead s d) = true) := by decide +kernel

/-- A waiting table of cluster 0. -/
def waitingTable (l : List (Nat × W64)) : State :=
  let s := listener
  s.setCluster 0 { s.cluster 0 with wta := l }

/-- RegionEvents: an entry that has a place and one that has none; a splice whose predecessor may and may not retire; an eviction; a reload. -/
theorem witness_regions :
    let s := waitingTable [(63, word (2 ^ 63 + 8 * 2 ^ 32))]
    let full := { waitingTable [(63, word (2 ^ 63 + 8 * 2 ^ 32 + 4095 * 2 ^ 20))] with fused := List.replicate 16 1 }
    let sp := waitingTable [(0, word (2 ^ 63 + 2 * 2 ^ 61 + 7 * 2 ^ 32)), (1, word (2 ^ 63 + 2 ^ 61 + 2 ^ 60 + 7 * 2 ^ 32))]
    let ev := s.setCluster 0 { s.cluster 0 with evicting := [(0, 7, [0])], reloading := [9] }
    (topEntry s 0 = some 63 ∧ hasPlace s 0 63 = true ∧ (s.cluster 0).placed = none ∧ resetStage s 0 = 0 ∧ 0 < s.stewards.length) ∧
    (topEntry full 0 = some 63 ∧ hasPlace full 0 63 = false) ∧
    (bitOf (wtaOf sp 0 1) 63 = true ∧ bitOf (wtaOf sp 0 1) 60 = true ∧ entryState sp 0 (bits (wtaOf sp 0 1) 59 54) = some 2 ∧
      ctxsOn sp 7 0 ≠ [] ∧ regionCtxs sp 7 ≠ [] ∧ ((ctxsOn sp 7 0).all fun y => eosEverywhere sp y.1 y.2 && mayRetire sp y.1 y.2) = false) ∧
    (((ev.cluster 0).evicting.find? fun y => y.2.2.contains 0) = some (0, 7, [0]) ∧ markersIn ev 7 0 = true ∧
      markersIn { ev with net := [flight 0] } 7 0 = false) ∧
    ((ev.cluster 0).reloading.contains 9 = true ∧ regionElems ev 9 = [] ∧ Tab.get [] ev.places 9 = []) := by decide +kernel

/-- RegionEvents: a predecessor without an entry that takes data retires. -/
theorem witness_retire :
    let s := waitingTable [(0, word (2 ^ 63 + 2 * 2 ^ 61 + 7 * 2 ^ 32)), (1, word (2 ^ 63 + 2 ^ 61 + 2 ^ 60 + 7 * 2 ^ 32))]
    let t := s.setCore 0 ((s.core 0).setCtxWord 0 0 1 0)
    ((ctxsOn t 7 0).all fun y => eosEverywhere t y.1 y.2 && mayRetire t y.1 y.2) = true := by decide +kernel

/-- EnergyAndObservationEvents: the last die, a trigger that is due, an evicted count without an area. -/
theorem witness_energy :
    let s := State.reset
    let x : CountEntry := { image := 7, loc := 0, slot := 0, rsn := 0, count := 1 }
    let c := { s.cluster 15 with trigger := some 0, evicted := [x], hen := true }
    (3 < s.dies.length ∧ 15 < (s.setCluster 15 c).clusters.length ∧ ((s.setCluster 15 c).cluster 15).trigger = some 0 ∧
      0 + bits c.obctl 15 0 ≤ s.clock) ∧
    (((s.setCluster 15 c).cluster 15).evicted = [x] ∧ spillLength c < c.hspillAt + 16) ∧ spillHeld s 15 c.hspillAt 16 = false ∧
    (let u := s.setCluster 0 { c with hspill := word 1 }
     spillHeld { u with pkg := { u.pkg with pkgrst := word 2 } } 0 0 16 = true) := by decide +kernel

/-- ResetsAndStarts: dies in each stage of a warm reset. -/
theorem witness_stages :
    let at' := fun (k : Nat) => { State.reset with pkg := { State.reset.pkg with pkgrst := word (k * 2 ^ 12) } }
    resetStage (at' 2) 3 = 2 ∧ resetStage (at' 5) 3 = 5 ∧ resetStage (at' 7) 3 = 7 ∧ resetStage (at' 0) 3 = 0 ∧
    (at' 5).stewards.length = 21 ∧ State.reset.clusters.length = 16 ∧ State.reset.cores = [] := by decide +kernel

/-- The reeve, or steward 0, at a word. -/
def at0 (n : Nat) (w : Nat) (g : List W64) : State :=
  let s := (steward n g).writeNum 0x1000 8 w
  { s with event := { s.event with unit := n } }

/-- RowsOfStewardInstructions: the next instruction of a core is there, a step of PKGRST that may and may not be made, and a HOMEMASK that
passes. -/
theorem witness_rows :
    (∃ i t, stewNext (at0 20 0xE0003EE380000002 []) 20 = some (i, t)) ∧ pkgrstStep 0 (word (2 ^ 4)) = some (1, 0, 1) ∧
    stepOk State.reset (1, 0, 1) = true ∧ stepOk State.reset (0, 0, 1) = false ∧ maskOk 0 = true ∧ maskOk (word 8) = true := by
  refine ⟨⟨_, _, rfl⟩, ?_⟩; decide +kernel

/-- The operand A of the next instruction of core `n`. -/
def nextA (n : Nat) (w : Nat) (g : List W64) : Option (Instr × W64) :=
  let s := at0 n w g
  match stewNext s n with
  | some (.mts o, _) => some (.mts o, word (src s (core' s n) o .whole o.a false 0))
  | some (.hctlEnable o, _) => some (.hctlEnable o, word (src s (core' s n) o .whole o.a false 0))
  | some (.cfgw o, _) => some (.cfgw o, word (src s (core' s n) o .whole o.a false 0))
  | some (.st o, _) => some (.st o, word (memEa s (core' s n) o))
  | _ => none

/-- RowsOfStewardInstructions: TQPOP of each queue, a flush, writes of configuration words and of an engine's block, a step of PKGRST. -/
theorem witness_next_rows :
    ((nextA 0 0xF3003F2380000018 [0, 0, 0, 0, 1]).map fun p => p.2.getLsbD 0) = some true ∧
    ((nextA 0 0xF3003F2380000018 [0, 0, 0, 0, 2]).map fun p => p.2.getLsbD 1) = some true ∧
    ((nextA 0 0xF3003F2380000135 [0, 0, 0, 0, word (2 ^ 62)]).map fun p => p.2.getLsbD 62) = some true ∧
    ((nextA 0 0xF4004D24A0000000 [0, 0, 0, 0, word (2 ^ 26 + 0x30)]).map fun p => (cfgFields p.2).cls == 1 && (cfgFields p.2).off == 0x30) = some true ∧
    ((nextA 20 0xA1003F24B5800000 [0, 0, 0, 0, word (8 * (3 * 2 ^ 26 + 0x800))]).map fun p => (cfgFields (word (p.2.toNat / 8))).off == 0x800) = some true ∧
    ((nextA 16 0xA1003F24B1800000 [0, 0, 0, 0, word 0xE000000000000]).map fun p => engineWordAt p.2.toNat == some (0, 0)) = some true ∧
    ((nextA 20 0xF3003F2380000048 [0, 0, 0, 0, word (2 ^ 4)]).map fun p => pkgrstStep 0 p.2 == some (1, 0, 1)) = some true := by
  decide +kernel

/-- StepRunsTheDecodedInstruction: a branch at the PC of the reeve, the first slot of a firing, an event, and clocks that pass. -/
theorem witness_step :
    let s := State.reset.withFetchWord 64 0xE0003EE380000002
    let f := firing []
    (s.stewards.length = 21 ∧ s.turn = .run (stewActor 20) ∧ (s.stew 20).halted = false ∧ (s.stew 20).waiting = none ∧
      Tab.get none (s.stew 20).icache (s.stew 20).pc.toNat = none ∧ inHbm (s.stew 20).pc.toNat 8 = true ∧
      hasHardError s (s.stew 20).pc.toNat 8 = false) ∧
    (0 < 8192 ∧ isFused f (coreOf 0) = false ∧ (fired f).ended = false ∧ (fired f).slot < 32 ∧
      slotErrors f (0 * 8 + (fired f).frame.ctx) (fired f).slot = []) ∧
    Instr.code .windowEdge = none := by decide +kernel

/-! ### Rows of steward-mode instructions with their effect, and the starts -/

/-- The next instruction of core `n` after its fetch, where it is a write of a configuration word, and the operands: whether the event's
address is the instruction's and the core may write it, the address, the value and the state. -/
def rowWrite (s : State) (n : Nat) : Option (Bool × CfgAddr × W64 × State) := match stewNext s n with
  | some (.cfgw o, t) =>
    let u := { t with actor := stewActor n }
    let q := word (src u (core' u n) o .whole o.a false 0)
    some (o.x.toNat % 2 == 0 && cfgFields (word (src s (core' s n) o .whole o.a false 0)) == cfgFields q && !cfgMalformed q &&
      !cfgForbidden n (cfgFields q), cfgFields q, word (src u (core' u n) o .whole o.b false 0), u)
  | _ => none
/-- A write of a value to a configuration address by core `n`. -/
def writing (n q v : Nat) : Option (Bool × CfgAddr × W64 × State) := rowWrite (at0 n 0xF4004D24A0000000 [0, 0, 0, 0, word q, word v]) n

/-- RowsOfStewardInstructions: writes that the rules of their words accept, at both ends of each range. -/
theorem witness_row_writes :
    ((writing 0 (2 ^ 26 + 0x30) 1).map fun (ok, a, v, u) => ok && v == 1 && !isFused u a.pkgCore && (u.core a.pkgCore).txn.state != .opened &&
      (releaseArray u a.pkgCore).isSome) = some true ∧
    ((writing 16 (3 * 2 ^ 26) 1).map fun (ok, a, v, u) => ok && a.off == 0 && splitOk u a.die v && !splitHolds u a.die v) = some true ∧
    ((writing 20 (3 * 2 ^ 26 + 1) 8).map fun (ok, a, v, _) => ok && a.off == 1 && maskOk v) = some true ∧
    ([0x440, 0x47F].map fun k => (writing 20 (3 * 2 ^ 26 + k) (2 ^ 63)).map fun (ok, a, v, u) =>
      ok && a.off == k && v.getLsbD 63 && !(ingb u (a.off - 0x440)).getLsbD 63) = [some true, some true] ∧
    ((writing 20 (3 * 2 ^ 26 + 0x440) (2 ^ 63)).map fun (_, _, v, u) => !homedAway u (bits (ingb u 0) 52 37) && !homedAway u (bits v 52 37)) = some true ∧
    ((writing 20 (3 * 2 ^ 26 + 0x440) (2 ^ 63)).map fun (_, _, _, u) => !spillHeld u 0 0 (spillLength (u.cluster 0))) = some true ∧
    ([0x500, 0x53F].map fun k => (writing 20 (3 * 2 ^ 26 + k) 1).map fun (ok, a, _, _) => ok && a.off == k) = [some true, some true] ∧
    ((writing 20 (3 * 2 ^ 26 + 0xFFF) 0).map fun (ok, a, v, u) => ok && a.off == 0xFFF && !dieWordBad u 0 a.off v true) = some true := by
  decide +kernel

/-- RowsOfStewardInstructions: a store of ECTX by the die service core of its stack. -/
theorem witness_row_ectx : (match stewNext (at0 16 0xA1003F24B1800000 [0, 0, 0, 0, word 0xE000000000000]) 16 with
    | some (.st o, t) =>
      let s := at0 16 0xA1003F24B1800000 [0, 0, 0, 0, word 0xE000000000000]
      let u := { t with actor := stewActor 16 }
      memSpace o == 4 && memSize o == 8 && memEa u (core' u 16) o == memEa s (core' s 16) o && memEa u (core' u 16) o == 0xE000000000000 &&
        engineWordAt (memEa s (core' s 16) o) == some (0, 0) && (u.engine 0).queue == []
    | _ => false) = true := by decide +kernel

/-- The reeve at an MTS of PKGRST, with die 3 in a stage and the others LIVE, that names another stage of it. -/
def stepping (a b : Nat) : State :=
  let s := at0 20 0xF3003F2380000048 [0, 0, 0, 0, word (b * 2 ^ 12)]
  { s with pkg := { s.pkg with pkgrst := word (a * 2 ^ 12) } }
/-- Whether it makes that step. -/
def steps (a b : Nat) : Bool := match stewNext (stepping a b) 20 with
  | some (.mts o, t) =>
    let s := stepping a b
    let u := { t with actor := stewActor 20 }
    o.x.toNat % 2 ^ 12 == 0x048 && pkgrstStep s.pkg.pkgrst (word (src s (core' s 20) o .whole o.a false 0)) == some (3, a, b) &&
      pkgrstStep u.pkg.pkgrst (word (src u (core' u 20) o .whole o.a false 0)) == some (3, a, b) && stepOk u (3, a, b)
  | _ => false
/-- RowsOfStewardInstructions: every step of PKGRST by the reeve. -/
theorem witness_row_steps : steps 0 1 && steps 1 0 && steps 1 2 && steps 3 4 && steps 4 5 && steps 6 7 = true := by decide +kernel

/-- FIPS 202: the first bytes of SHAKE256 of the empty message. -/
theorem test_shake_empty : numOfBytes ((shake256 [] 64).take 8) = 0x138DA80B2BDDB946 := by decide +kernel

theorem mul_zero_point (k : Nat) : ∀ n, Ed448.mul k Ed448.zero n Ed448.zero = Ed448.zero
  | 0 => rfl
  | n + 1 => by
    have h : Ed448.add Ed448.zero Ed448.zero = Ed448.zero := by decide +kernel
    simp only [Ed448.mul, h, ite_self]
    exact mul_zero_point k n
theorem mul_by_zero (x : Nat × Nat × Nat) : ∀ n, Ed448.mul 0 x n Ed448.zero = Ed448.zero
  | 0 => rfl
  | n + 1 => by
    have h : Ed448.add Ed448.zero Ed448.zero = Ed448.zero := by decide +kernel
    simp only [Ed448.mul, h, Nat.zero_testBit, Bool.false_eq_true, if_false]
    exact mul_by_zero x n
theorem neutral_decodes : Ed448.decodePoint 1 = some Ed448.zero := beq_iff_eq.mp (by decide +kernel)
/-- Under the neutral point as key, the neutral point with scalar 0 signs every message. -/
theorem verify_neutral (msg sig : List Byte) (hr : numOfBytes (sig.take 57) = 1) (hs : numOfBytes (sig.drop 57) = 0) :
    Ed448.verify 1 msg sig = true := by
  have ha : Ed448.add Ed448.zero Ed448.zero = Ed448.zero := by decide +kernel
  unfold Ed448.verify
  rw [hr, hs, neutral_decodes]
  show (decide (0 < Ed448.l) && Ed448.same (Ed448.mul (4 * 0) Ed448.base 448 Ed448.zero) (Ed448.add (Ed448.mul 4 Ed448.zero 3 Ed448.zero)
    (Ed448.mul 4 (Ed448.mul _ Ed448.zero 446 Ed448.zero) 3 Ed448.zero))) = true
  rw [mul_zero_point, mul_zero_point, mul_zero_point, Nat.mul_zero, mul_by_zero, ha]
  decide +kernel

set_option exponentiation.threshold 600 in
/-- A package whose vendor key is the neutral point, and whose flash window holds that key's signature of the empty image. -/
def bootable : State :=
  let s := State.reset.writeByte flashBase 1
  let digest := BitVec.ofNat 512 (numOfBytes (shake256 (bytesOfNum 57 1) 64))
  { s with pkg := { s.pkg with fuses := { rootDigest := digest, vendorKey := 1, secret := 0 } } }

set_option exponentiation.threshold 600 in
/-- ResetsAndStarts: an image that verifies, and one that does not. -/
theorem witness_boot : bootVerifies bootable = true ∧ bootVerifies State.reset = false := by
  refine ⟨?_, by decide +kernel⟩
  have h : (numOfBytes (shake256 (bytesOfNum 57 1) 64) == bootable.pkg.fuses.rootDigest.toNat) = true := by decide +kernel
  unfold bootVerifies
  rw [Bool.and_eq_true]
  exact ⟨h, verify_neutral _ _ (by decide +kernel) (by decide +kernel)⟩

/-! ### Boundaries of the statements' other conditions -/

/-- No home holds an access of a die that reaches every die, while no die is in reset. -/
theorem holds_none (s : State) (a n d : Nat) (w : Bool) (h : s.pkg.pkgrst = 0) (hm : s.pkg.homemask = 0) (hd : d < 4)
    (hr : ∀ i < 4, ∀ k < 4, dieReach s i k = true) : homeHolds s a n w (die := some d) = false := by
  have hs : ∀ d, resetStage s d = 0 := fun d => by simp [resetStage, h, bits]
  have hh : ∀ line, lineHome s line < 4 := fun line => by
    simp [lineHome, homeOf, homeUnder, hm, bitOf, rawHome]; exact Nat.mod_lt _ (by decide)
  have hl : ∀ line, dieReach s d (lineHome s line) = true := fun line => hr d hd _ (hh line)
  have hk : ∀ line, stackDown s line = false := fun line => by
    by_cases hi : inHbm (line * 128) 1 = true
    · have hb : line * 128 / 2 ^ 37 < 4 := by simp [inHbm] at hi; omega
      have hx := hr _ (hh line) _ hb
      unfold stackDown linksDown
      dsimp only
      rw [hx, hs]
      simp
    · simp [stackDown, hi]
  simp [homeHolds, hk, hs, hl]

/-- ObservationRegistersAndSigchk, StewardMemoryAccesses, StewardGlobalAndLineAccesses: homes that hold an access and that do not. -/
theorem witness_holds : homeHolds (steward 0 []) 0 (2 ^ 24) true (die := some 0) = false ∧
    (inHbm 0 8 = true ∧ homeHolds (staged 2 (steward 20 [])) 0 8 (die := some 0) = true) ∧ cleanHolds (steward 20 []) 0 (some 0) = false ∧
    (let s := staged 4 (steward 20 [])
     cleanHolds (s.setDie 0 { s.die 0 with l2 := [(0, { CacheLine.init with valid := 1, dirty := 1 })] }) 0 (some 0) = true) :=
  ⟨holds_none _ _ _ _ _ rfl rfl (by decide) (by decide +kernel), by decide +kernel, by decide +kernel, by decide +kernel⟩

/-- PreciseTrapEntry, StepRunsTheDecodedInstruction: no sector of a cache is poisoned after reset, and no home holds a fetch. -/
theorem witness_clean : (∀ d k, ((State.reset.die d).line k).poison = 0) ∧ (∀ c k, ((State.reset.core c).line k).poison = 0) ∧
    fetchHolds State.reset 0 = false := by
  refine ⟨fun d k => ?_, fun _ _ => rfl, by decide +kernel⟩
  match d with
  | 0 | 1 | 2 | 3 => rfl
  | _ + 4 => rfl

/-- StepRunsTheDecodedInstruction: a word in the flash window. -/
theorem witness_flash_fetch :
    let s := State.reset.setStew 20 { State.reset.stew 20 with pc := word flashBase }
    let s := s.writeNum flashBase 8 0xE0003EE380000002
    inFlash (s.stew 20).pc.toNat 8 = true ∧ icacheWord (ready s .reeve) 20 = none ∧
    decodeBytes .steward (s.readBytes (s.stew 20).pc.toNat 8) = .ok (.br (plain .nul .zero .zero 2)) := by
  refine ⟨by decide +kernel, rfl, rfl⟩

/-- RequestMusterAndTimestampInstructions: times that a route transforms, and one that it cannot. -/
theorem witness_request_times : tsOnRoute (routeKind (routeWord (firing []) 0 0 0)) 0x2000000000 = .ok 0x2000000000 ∧
    tsOnRoute (routeKind (routeWord (firing []) 0 0 3)) 0 = .error 0 := ⟨rfl, rfl⟩

/-- ArrayInstructionsComplete: cells that have room for 32 rows, up to the last. -/
theorem witness_cells : Arr.init.cells.length + 32 ≤ cellRoom 0 := by decide

/-- TransactionsCommitAndAbort: an address whose low fields CFGABT refuses; a commit that is applied, and one that waits for a firing. -/
theorem witness_commits :
    let s := transaction .opened 0
    let idle := s.setElem 0 { s.elem 0 with firing := none }
    (cfgMalformed (word 0x80) = true ∧ cfgMalformed (word 0x80 &&& ~~~cfgPlace) = false) ∧
    applyCommit s 0 = none ∧ (applyCommit idle 0).isSome = true := by
  refine ⟨by decide, rfl, by decide +kernel⟩

/-- PageEvents: a migration that must be aborted, and one that need not; who may ask for a relay. -/
theorem witness_aborts :
    let s := migrating (moving .copying 0 [])
    let dead := setFabric s 0x500 4
    (mustAbort dead (moving .copying 0 [])).isSome = true ∧ mustAbort s (moving .copying 0 []) = none ∧
    (request .ld 3 0 .ready).elem < outsideMark ∧ outsideMark ≤ outsideMark := by decide +kernel

/-! ### Further witnesses -/

/-- SaturationAndTheDefaultNan: a magnitude below the significand's last place, results in range and above the largest value. -/
theorem witness_rounding :
    let q := fun (mg : Nat) (e : Int) => max (e + Nat.log2 mg - fracBits .e4m3) (1 - expBias .e4m3 - fracBits .e4m3)
    (2 ^ 20 + 1 ≠ 0 ∧ (-20 : Int) < q (2 ^ 20 + 1) (-20)) ∧ val .e4m3 (maxFinite .e4m3) = .fin false 14 5 ∧
    scaled false 8 (-3) (min (-3) 5) ≤ scaled false 14 5 (min (-3) 5) ∧ scaled false 14 5 (min 5 5) < scaled false 15 5 (min 5 5) ∧
    (Rounds true 5 2 2#2 3 ∧ Rounds false 5 2 0#2 2) := by
  refine ⟨by decide, by decide, by decide, by decide, by constructor <;> (unfold Rounds; decide)⟩

/-- FloatingResults: 1 as a whole exponent and as a power of two, -1 beside it, and integers to convert. -/
theorem witness_special : scaled false 1024 (-10) (min (-10) 0) = (1 : Int) * 2 ^ (-(min (-10) 0) : Int).toNat ∧ (1024 : Nat) = 2 ^ 10 ∧
    scaled true 1024 (-10) (min (-10) (-10)) < scaled false 1024 (-10) (min (-10) (-10)) ∧ Ty.isFloat .b8 = false ∧ Ty.isFloat .aif13 = false ∧
    fminmax .f16 true 0x8000 0 = 0 ∧ ftoi .f16 .b8 true 0 0x7C00 = 127 ∧ frcp .f16 0 0x4000 = 0x3800 := by decide

/-- VseqaccAbsorbsAPartialInTurn: an early partial that waits, and the run that the expected one sets off. -/
theorem witness_early :
    let p := fun (k : Nat) => ({ seq := k, value := vecOfLanes [k], last := false } : Partial)
    let old := { AccData.init with early := [p 1] }
    (∀ q ∈ old.early, old.exp < q.seq) ∧ old.early.length ≤ 16 ∧ old.repeats 2 false = false ∧
    (absorb .b32 0 65 { old with early := [p 1, p 0] }).exp = 2 ∧ lane (absorb .b32 0 65 { old with early := [p 1, p 0] }).acc 0 = 1 ∧
    (absorb .b32 0 65 { old with early := [p 1, p 2] }).exp = 0 := by decide +kernel

/-- RequestMusterAndTimestampInstructions: a SENDM on a route that is no muster sends. -/
theorem witness_sendm : let s := firing []
    routeKind (routeWord s 0 0 0) ≠ 6 ∧ (∃ g, issueSend s 0 (fired s) 0 {} 5 = .ok g) := ⟨by decide +kernel, _, rfl⟩

/-- FiringSplitPhaseAccesses: an address outside the cellar, one that is misaligned, one that no range permits, and one that a range permits. -/
theorem witness_stops : let s := firing []
    (inSpace s 0 0 2 (2 ^ 60) = false ∧ inSpace s 0 0 1 4 = true ∧ 4 % 8 ≠ 0 ∧ inSpace s 0 0 3 0 = true) ∧
    ((ctxRanges s 0 0).all fun w => bits w 60 58 != 2) = true ∧ ((ctxRanges s 0 0)[1]? = some (rangeWord 1 18) ∧ bits (rangeWord 1 18) 60 58 = 1 ∧
      bits (rangeWord 1 18) 55 8 = 0 ∧ bits (rangeWord 1 18) 2 0 = 0 ∧ bits (rangeWord 1 18) 7 3 = 18) := by
  refine ⟨by decide +kernel, by decide +kernel, by decide +kernel⟩

/-- ArrayInstructionsComplete: a complete row that MXDRN drains, and one that is empty. -/
theorem witness_drain : let a := Arr.init.setTile 0 1 { TileRow.init with state := .complete }
    (a.tile 0 1).state = .complete ∧ (a.tile 0 0).state ≠ .complete ∧ (0 : Nat).testBit 11 = false := by decide

/-- FiringFabricInstructions, StewardFabricInstructions: a target that is a muster, and a device out of reach. -/
theorem witness_targets : targetMuster (word (2 ^ 63 + 9)) = true ∧ targetMuster (word 9) = false ∧ deadPeer (steward 20 []) 9 = true ∧
    dieReach (steward 20 []) 0 0 = true := by decide +kernel

/-- StewardFrameAndPortInstructions: a RESIDENT entry whose eviction runs already. -/
theorem witness_evicting :
    let d := State.reset.setCluster 0 { State.reset.cluster 0 with wta := [(63, word (2 ^ 63 + 2 * 2 ^ 61 + 7 * 2 ^ 32))], evicting := [(63, 7, [])] }
    drainReason d 0 63 = none ∧ ((d.cluster 0).evicting.any fun y => y.1 == 63) = true ∧
    ((d.cluster 0).evicting.any fun y => y.1 == 62) = false := by decide +kernel

/-- PortAndMemoryEvents: a deferred read whose granule is empty, and one whose granule has been filled. -/
theorem witness_deferred :
    let d := listener.setCore 0 { listener.core 0 with deferred := [{ request .ldp 0 8 .held with pas := [scrAddr 0 8] }] }
    let f := d.setPresent (scrAddr 0 8) true
    readable d (scrAddr 0 8) = false ∧ readable f (scrAddr 0 8) = true := by decide +kernel

/-- EngineEvents: a die that cannot be reached from another. -/
theorem witness_unreachable : let s := engaged []
    let u := { s with pkg := { s.pkg with ucie := [0, 0, 0, 0] } }
    dieReach u 1 0 = false ∧ dieReach s copyReq.issueDie (handleDie 0) = true := by decide +kernel

/-- PageEvents: a frozen migration of a page of another home and of this one, a relay queue that is not yet empty, and one whose head is a
WATCH. -/
theorem witness_go :
    let s := migrating (moving .frozen 9 [])
    let h := { s with pkg := { s.pkg with migrations := [{ moving .frozen 9 [] with page := 0, pa := 0 }] } }
    let p : Signpost := { page := 1, owner := 2, gen := 0, queue := [request .watch 3 0x10000 .ready] }
    let q := { s with pkg := { s.pkg with signposts := [p] } }
    (mustAbort s (moving .frozen 9 []) = none ∧ admitted s (moving .frozen 9 []) = false ∧ homesPage s 1 = false) ∧
    ((migrationOf h 0).isSome = true ∧ homesPage h 0 = true ∧ (mustAbort h { moving .frozen 9 [] with page := 0, pa := 0 }) = none) ∧
    (((signpostOf s 1).all fun y => y.queue.isEmpty) = true ∧ ((signpostOf q 1).all fun y => y.queue.isEmpty) = false) := by decide +kernel

/-- RegionEvents: the aggregator of an entry that spans devices has a place for it, and has none beside 64 others. -/
theorem witness_home_room :
    let s := waitingTable [(63, word (2 ^ 63 + 8 * 2 ^ 32))]
    let slots := (List.range 64).map fun i => ({ image := 100 + i, batch := none, next := 0, acked := [], unacked := [], announce := false } : Slot)
    let u := { s with clusters := s.clusters.map fun c => { c with slots := slots }, devices := (8, [3]) :: (List.range 64).map fun i => (100 + i, [0]) }
    homeRoom s 0 8 = true ∧ homeRoom u 0 8 = false := by decide +kernel

/-- FiringScratchpadAccesses: a byte that a store covers, and one that it does not. -/
theorem witness_forwarding : let s := firing []
    s.soft = [] ∧ (8 ≤ 9 ∧ 9 < 8 + (bytesOfNum 8 5).length) ∧ ¬(8 ≤ 16 ∧ 16 < 8 + (bytesOfNum 8 5).length) ∧ (fired s).scr = [] := by decide +kernel

/-- R114: the lanes of a SCATV forward in their order, an STP its bytes, and a CLRP none. -/
theorem test_forwarding : let s := firing []
    let f := { fired s with scr := [.stp 0 (bytesOfNum 8 5) 0 0, .scatter [(0, [7]), (0, [9])], .clrp 0 8] }
    firingByte s 0 f 0 = 9 ∧ firingByte s 0 { f with scr := f.scr.take 1 } 0 = 5 := by decide +kernel

/-- StewardMemoryAccesses: an engine's register that a link reaches and one that none reaches, of the die service core of die 0. -/
theorem witness_linked : let s := steward 16 []
    let u := { s with pkg := { s.pkg with ucie := [0, 0, 0, 0] } }
    engineWordAt 0xE000000000000 = some (0, 0) ∧ engineWordAt 0xE000000020000 = some (128, 0) ∧ engineWordAt 0 = none ∧
    bothReach s (stewDie 16) (128 / 128) = true ∧ bothReach u (stewDie 16) (128 / 128) = false ∧ inHbm 0xE000000020000 8 = false := by decide +kernel

/-- StewardGlobalAndLineAccesses: an atomic of the reeve on a page that die 0 maps. -/
theorem witness_global_atomic : let s := paged (steward 20 [])
    (∃ t, resolveGlb s 0 0 0x3FFFFFF8 .atomic false (.steward 20 (s.stew 20).pc) = (t, .at 0x3FFFFFF8) ∧
      (∃ u old, atomAt t (.stew 20) 0x3FFFFFF8 8 0x3FFFFFF8 0 0 1 0 = (u, .ok old)) ∧ homeHolds t 0x3FFFFFF8 8 (die := some 0) = false) ∧
    engineWordAt 0x3FFFFFF8 = none := by
  refine ⟨⟨_, rfl, ⟨_, _, rfl⟩, by decide +kernel⟩, by decide +kernel⟩

/-- ArrayInstructionsComplete: an array that another image owns. -/
theorem witness_array_other : let s := firing []
    let t := s.setCore 0 { s.core 0 with arr := { Arr.init with ownv := true, ownimg := 8 } }
    t.agent = some (me t) ∧ (claimArray t 0).isSome = true ∧ (t.core 0).arr.ownimg ≠ ctxImage t 0 0 := by
  refine ⟨rfl, by decide +kernel, by decide +kernel⟩

/-- CutterInstructionsComplete: SPHDR on a route that sends nothing, and on one to a host. -/
theorem witness_sphdr_routes : let s := firing []
    sendsToDead s (routeWord s 0 0 0) = false ∧ sendsToDead s (routeTo 0 0) = false ∧ sendsToDead s (word (8 * 2 ^ 60 + 9 * 2 ^ 43)) = false ∧
    sendsToDead s (word (2 ^ 60 + 9 * 2 ^ 43)) = true := by decide +kernel

/-- StewardFrameAndPortInstructions: a context and a frame that fire, and a region with no free record, or with a frame that waits for one. -/
theorem witness_busy_frames :
    let s := parkedState
    let x := s.elem 0
    let f := { (fired (firing [])).frame with ts := 2, ctx := 0, ent := 0 }
    let u := s.setElem 0 { x with firing := some { fired (firing []) with frame := f } }
    let p := s.setElem 0 { x with frames := { f with ts := 3, state := .parkwait } :: x.frames }
    (((u.elem 0).firing.any fun f => f.frame.hasTag 0 0 2) = true ∧ ((u.elem 0).firing.any fun f => f.frame.hasTag 0 0 3) = false ∧
      ((u.elem 0).firing.any fun f => f.frame.ctx == 0) = true ∧ ((s.elem 0).firing.any fun f => f.frame.ctx == 0) = false) ∧
    (parkwaits p 0 (ctxImage p 0 0) ≠ [] ∧ (p.elem 0).firing = none ∧
      ((p.elem 0).frames.find? (fun f => (f.state == .filling || f.state == .complete) && f.hasTag 0 0 2)).isSome = true) := by decide +kernel

/-- StewardFrameAndPortInstructions: a DRAIN with ABANDON of an entry whose region has a request in flight, and of one with none. -/
theorem witness_abandon :
    let d := fun (s : State) => s.setCluster 0 { s.cluster 0 with wta := [(63, word (2 ^ 63 + 2 * 2 ^ 61 + 7 * 2 ^ 32))] }
    let busy := d (porting [request .ld 3 0 .ready])
    let left := fun (s : State) => let u := abandonPorts s 7
      (regionCtxs u 7).any fun y => requestsLeft u y.1 y.2
    left busy = true ∧ left (d State.reset) = false ∧ bitOf (Tab.get 0 (busy.cluster 0).wta 63) 63 = true ∧
    drainReason (abandonPorts (d State.reset) 7) 0 63 = none ∧ (2 ^ 29 - 1) % 2 = 1 := by decide +kernel

/-- WaymarkProtocolEvents: an activation that is admitted for a loop, and one that is in flight already. -/
theorem witness_activation :
    let s := { gateway with loops := [{ image := 7, loop := 1, parent := 0, window := 3, rank := 0 }] }
    ((gated 1).toks.all fun t => admits s t.region 1 0) = true ∧ homedAway s 7 = false ∧ (1 : Nat) ≠ 0 ∧
    unitRoom s 0 ((gated 1).toks.map tokStamp) = true ∧
    (((takeAct s 7 1 0).home 7).acts.any fun a => a.loop == 1 && a.pfx == 0) = true := by decide +kernel

/-- PortAndMemoryEvents: an entry with tokens left whose next one is counted as the write comes, is counted already, or is counted at its delivery. -/
theorem witness_next : let s := listener
    let w : Watch := { addr := 0, ea := 0, losses := 0, elem := 0, ctx := 0, ent := 0, route := 0, held := [tokenFor 0 0 0], left := 2, queue := [5], sent := [], lost := false }
    (1 < w.left ∧ w.next = [] ∧ w.sent = [] ∧ w.queue ≠ []) ∧ ({ w with next := [tokenFor 0 0 0] }).next ≠ [] ∧
    unitRoom s 0 (w.held.map tokStamp) = true := by decide +kernel

/-- EngineEvents: an engine context that links reach in both directions, and one that they do not. -/
theorem witness_both_ways : let s := engaged []
    let u := { s with pkg := { s.pkg with ucie := [0, 0, 0, 0] } }
    bothReach s copyReq.issueDie (handleDie (handleOf copyReq.cmp)) = true ∧ bothReach u 0 (handleDie 128) = false ∧ 128 ≠ 0 := by decide +kernel

/-- FabricEvents: a remote access at the owner of its page, which counts, and one elsewhere. -/
theorem witness_counted : let s := listener
    fabricGlobal (2 ^ 55) = true ∧ ownsPage s (pageOfVa (2 ^ 55)) = true ∧ fabricGlobal 8 = false := by decide +kernel

/-- PageEvents: a count that reaches the threshold of an OWNED page, and below it, with room in the queue of notices and with none. -/
theorem witness_notice :
    let s := migrating (moving .copying 0 [])
    let u := setFabric s 0x600 1
    let full := { u with pkg := { u.pkg with policy := List.replicate 256 default } }
    (bits (Tab.get 0 u.pkg.fabric 0x600) 15 0 = 1 ∧ homesPage u 0 = true ∧ homeMapFull u 0 = false ∧ (pageEntry u 0).state = .owned ∧
      1 ≤ min ((pageEntry u 0).cnt + 64) 65535 ∧ u.pkg.policy.length < 256 ∧ 256 ≤ full.pkg.policy.length) ∧
    (bits (Tab.get 0 (setFabric s 0x600 0xFFFF).pkg.fabric 0x600) 15 0 ≠ 0 ∧ (pageEntry u 0).cnt + 64 < 0xFFFF) := by decide +kernel

/-- PageEvents: the end of a move's relays here and at the home, and a home that waits for none. -/
theorem witness_relays :
    let s := migrating (moving .copying 0 [])
    let p : Signpost := { page := 1, owner := 2, gen := 0, queue := [], draining := true }
    let x := { s with pkg := { s.pkg with signposts := [p, { p with page := 0 }] } }
    let h := setPage x 0 { pageEntry x 0 with relaying := true }
    (signpostOf x 1 = some p ∧ p.draining = true ∧ p.owner ≠ x.devId ∧ homesPage x 1 = false ∧ homesPage x 0 = true) ∧
    ((pageEntry h 0).relaying = true ∧ (pageEntry x 0).relaying = false ∧ h.event.flag = false) := by decide +kernel

/-- PageEvents: an entry that no early access has left to wait for, one ajar for a request that had hit it, and what closes it. -/
theorem witness_ajar :
    let s := porting [{ request .ld 3 (2 ^ 55) .ready with pas := [0], ord := 5 }]
    let y : OwnerEntry := { ten := tenantOf s 0, page := pageOfVa (2 ^ 55), owner := 2, gen := 1, closed := true, awaits := false }
    earlyLeft s 0 y = [] ∧ earlyLeft s 0 { y with early := [5] } = [5] ∧ (closeEntry s 0 y).early = [5] ∧
    (s.core 0).ports.any (fun p => mayGo p 0 && p.reqs.any fun q => ownerMapped s 0 q y.page) = true ∧ dieOf 0 = 0 ∧
    (s.cores.any fun x => x.1 == 0) = true := by decide +kernel

/-- RowsOfStewardInstructions: a window that holds packets, and one that holds none. -/
theorem witness_ingb :
    let s := ingress 0 [default]
    (windowOf s 0).packets ≠ [] ∧ (windowOf (ingress 0 []) 0).packets = [] ∧ (windowOf s 0).floors = [] ∧
    (registered (setFabric s 0x440 (ingb s 0)) (ingb s 0)).isSome = true ∧ registered State.reset (ingb s 0) = none ∧
    homedAway s (bits (ingb s 0) 52 37) = false ∧ bothReach s 0 (0 / 128) = true := by decide +kernel

/-- R317: unbinding a window drops what it holds, with the reason 5. -/
theorem test_unbind :
    (match writeIngb (ingress 0 [default, default]) 0 0 with
     | .ok t => some ((windowOf t 0).packets.length, (windowOf t 0).dropped)
     | .error _ => none) = some (0, 2) := by decide +kernel

/-- ResetsAndStarts: a chained core whose array an element of core 0 has claimed, and one that it has not. -/
theorem witness_chained_claim :
    let s := State.reset.setCore 8 { State.reset.core 8 with arrClaim := some (3, Arr.init) }
    ((8 = 0 + 8) ∧ (s.core 8).arrClaim.isSome = true ∧ ((s.core 8).arrClaim.filter fun y => y.1 / 4 != 0).isNone = true) ∧
    ¬(9 = 0 + 8 ∨ (8 ≤ 0 % 128 ∧ 9 + 8 = 0)) := by decide +kernel
end Sys2Proof.Tests
end

section
/-! The decoder and the encoder: what a word decodes to, and that it is the one word of that instruction (R32, R49). -/

namespace Sys2Proof.Laws

open Machine (opRow)

/-! ## Decoding as checks on the fields of a word -/

/-- No number beyond eight bits is an opcode. -/
theorem opRow_eq_none_of_le {op : Nat} (h : 256 ≤ op) : opRow op = none := by
  obtain ⟨n, rfl⟩ := Nat.exists_eq_add_of_le' h
  rfl

/-- Fields that pass the checks of R49 stand beside an opcode of eight bits. -/
theorem opcode_lt_of_fieldsFault {mode : Mode} {op : Nat} {o : Ops} (h : fieldsFault mode op o = none) : op < 256 := by
  rcases Nat.lt_or_ge op 256 with hlt | hge
  · exact hlt
  · simp [fieldsFault, opRow_eq_none_of_le hge] at h

/-- What `Instr.WellFormed` asks, of an instruction whose opcode and fields are known. -/
theorem wellFormed_iff {mode : Mode} {i : Instr} {op : Nat} {o : Ops} (hc : i.code = some (op, o)) :
    i.WellFormed mode = true ↔ fieldsFault mode op o = none ∧ instrOf mode op o = some i := by
  simp [Instr.WellFormed, hc]

/-- A well-formed instruction has an opcode and fields: it is no event. -/
theorem exists_code_of_wellFormed {mode : Mode} {i : Instr} (h : i.WellFormed mode = true) : ∃ op o, i.code = some (op, o) := by
  cases hc : i.code with
  | none => simp [Instr.WellFormed, hc] at h
  | some p => exact ⟨p.1, p.2, rfl⟩

/-- The word of an instruction whose opcode and fields are known. -/
theorem encode_eq {i : Instr} {op : Nat} {o : Ops} (hc : i.code = some (op, o)) : encode i = some (encodeFields op o) := by
  simp [encode, hc]

/-- The type and the shape of a word that decodes are codes of a type and of a shape. -/
theorem fields_of_decode {mode : Mode} {w : W64} {i : Instr} (h : decode mode w = .ok i) :
    ∃ ty sh, Machine.Ty.ofCode (wordField w 54 51) = some ty ∧ Machine.Shape.ofCode (wordField w 50 49) = some sh := by
  unfold decode at h
  cases ht : Machine.Ty.ofCode (wordField w 54 51) <;> cases hs : Machine.Shape.ofCode (wordField w 50 49)
  case some.some ty sh => exact ⟨ty, sh, rfl, rfl⟩
  all_goals
    simp only [ht, hs] at h
    repeat' split at h
    all_goals cases h

/-- With the type and the shape of a word known, the decoder answers the instruction of its opcode and fields where these pass the checks of
R49. -/
theorem decode_eq_ok_iff {mode : Mode} {w : W64} {i : Instr} {ty : Ty} {sh : Shape} (ht : Machine.Ty.ofCode (wordField w 54 51) = some ty)
    (hs : Machine.Shape.ofCode (wordField w 50 49) = some sh) :
    decode mode w = .ok i ↔
      fieldsFault mode (wordField w 63 56) (wordOps w ty sh) = none ∧ instrOf mode (wordField w 63 56) (wordOps w ty sh) = some i := by
  simp only [decode, fieldsFault, ht, hs, show (wordOps w ty sh).e = w.toNat.testBit 55 from rfl]
  cases opRow (wordField w 63 56) with
  | none => simp
  | some r =>
    by_cases legal : if mode = .firing then r.firing else r.steward && !w.toNat.testBit 55
    · simp only [if_pos legal]
      cases Machine.Row.fault (wordField w 63 56) r mode (wordOps w ty sh) with
      | some c => simp
      | none => cases instrOf mode (wordField w 63 56) (wordOps w ty sh) <;> simp
    · simp only [if_neg legal]
      simp

/-- The fields that an opcode and operands encode pass through the decoder as they are. -/
theorem decode_encodeFields_eq_ok_iff {mode : Mode} {op : Nat} {o : Ops} {i : Instr} (hop : op < 256) :
    decode mode (encodeFields op o) = .ok i ↔ fieldsFault mode op o = none ∧ instrOf mode op o = some i := by
  have ht : Machine.Ty.ofCode (wordField (encodeFields op o) 54 51) = some o.ty := by rw [encodeFields_type hop, ty_ofCode_code]
  have hs : Machine.Shape.ofCode (wordField (encodeFields op o) 50 49) = some o.sh := by rw [encodeFields_shape hop, shape_ofCode_code]
  rw [decode_eq_ok_iff ht hs, encodeFields_opcode hop, wordOps_encodeFields hop]

/-- What a word decodes to is well-formed and encodes to the word. -/
theorem wellFormed_and_encode_of_decode {mode : Mode} {w : W64} {i : Instr} (h : decode mode w = .ok i) :
    i.WellFormed mode = true ∧ encode i = some w := by
  obtain ⟨ty, sh, ht, hs⟩ := fields_of_decode h
  obtain ⟨hf, hi⟩ := (decode_eq_ok_iff ht hs).mp h
  have hc := code_of_instrOf hi
  exact ⟨(wellFormed_iff hc).mpr ⟨hf, hi⟩, by rw [encode_eq hc, encodeFields_wordOps w ht hs]⟩

/-- The word of a well-formed instruction decodes to it. -/
theorem decode_of_wellFormed {mode : Mode} {w : W64} {i : Instr} (hwf : i.WellFormed mode = true) (he : encode i = some w) :
    decode mode w = .ok i := by
  obtain ⟨op, o, hc⟩ := exists_code_of_wellFormed hwf
  obtain ⟨hf, hi⟩ := (wellFormed_iff hc).mp hwf
  obtain rfl : encodeFields op o = w := Option.some.inj ((encode_eq hc).symm.trans he)
  exact (decode_encodeFields_eq_ok_iff (opcode_lt_of_fieldsFault hf)).mpr ⟨hf, hi⟩

/-- Settles O58: from a word, its fields are those of the instruction, and encode to it; from a well-formed instruction, the fields of its word
are its own. -/
theorem decodeAndEncodeAgree : Obligations.DecodeAndEncodeAgree := fun _ _ _ =>
  ⟨wellFormed_and_encode_of_decode, fun ⟨hwf, he⟩ => decode_of_wellFormed hwf he⟩

/-! ## Words written out -/

/-- Settles O57: each word is the encoding of an instruction that is well-formed in its mode, and so decodes to it; the last one's opcode is not
legal in firing mode. -/
theorem wordsDecode : Obligations.WordsDecode := by
  unfold Obligations.WordsDecode
  refine ⟨?_, ?_, ?_, ?_, ?_, ?_, ?_, ?_, ?_, ?_, ?_, ?_⟩
  case refine_12 => rfl
  all_goals exact decode_of_wellFormed rfl rfl

end Sys2Proof.Laws
end

section
/-! What the units that memory consists of leave alone: caches, watches, frontier units and queues move, the agents and the clock do not. -/

namespace Sys2Proof.Machine

/-! ## What the units of the memory system leave alone -/

/-- A state without what caches, ports, frontier units and queues hold: the part that no access to memory moves. -/
def State.unmoved (s : State) : State :=
  { s with mem := [], soft := [], net := [], cores := [], clusters := [], dies := [], homes := [], pkg := Package.init, out := [] }

/-- What no single change of a fold moves, the fold does not move. -/
theorem foldl_keeps {σ β γ : Type} (p : σ → γ) {f : σ → β → σ} (hf : ∀ s b, p (f s b) = p s) (l : List β) (s : σ) :
    p (l.foldl f s) = p s := by
  induction l generalizing s with
  | nil => rfl
  | cons b rest ih => rw [List.foldl_cons, ih, hf]

/-- A fold whose changes all leave a value as it is ends with that value. -/
theorem foldl_of_fixed {σ β : Type} {f : σ → β → σ} {s : σ} (hf : ∀ b, f s b = s) (l : List β) : l.foldl f s = s := by
  induction l with
  | nil => rfl
  | cons b rest ih => rw [List.foldl_cons, hf, ih]

/-- A change that leaves the part alone for each entry of a list leaves it alone. -/
theorem unmoved_foldl {β : Type} {f : State → β → State} (hf : ∀ s b, (f s b).unmoved = s.unmoved) (l : List β) (s : State) :
    (l.foldl f s).unmoved = s.unmoved := foldl_keeps State.unmoved hf l s

/-- It is enough to look at both branches of a choice. -/
@[simp] theorem unmoved_ite (c : Prop) [Decidable c] (s t : State) : (if c then s else t).unmoved = if c then s.unmoved else t.unmoved :=
  apply_ite State.unmoved c s t

@[simp] theorem unmoved_soft (s : State) (l : List SoftErr) : ({ s with soft := l } : State).unmoved = s.unmoved := rfl
@[simp] theorem unmoved_setCore (s : State) (c : Nat) (x : Core) : (s.setCore c x).unmoved = s.unmoved := rfl
@[simp] theorem unmoved_setCluster (s : State) (c : Nat) (x : Cluster) : (s.setCluster c x).unmoved = s.unmoved := rfl
@[simp] theorem unmoved_setDie (s : State) (d : Nat) (x : Die) : (s.setDie d x).unmoved = s.unmoved := rfl
@[simp] theorem unmoved_setHome (s : State) (i : Nat) (x : Home) : (s.setHome i x).unmoved = s.unmoved := rfl
@[simp] theorem unmoved_setEngine (s : State) (h : Nat) (x : Engine) : (s.setEngine h x).unmoved = s.unmoved := rfl
@[simp] theorem unmoved_setL1 (s : State) (c line : Nat) (l : CacheLine) : (setL1 s c line l).unmoved = s.unmoved := rfl
@[simp] theorem unmoved_setL2 (s : State) (d line : Nat) (l : CacheLine) : (setL2 s d line l).unmoved = s.unmoved := rfl
@[simp] theorem unmoved_setDir (s : State) (line : Nat) (x : DirEntry) : (setDir s line x).unmoved = s.unmoved := rfl
@[simp] theorem unmoved_logCorrected (s : State) (d : Nat) : (logCorrected s d).unmoved = s.unmoved := rfl

@[simp] theorem unmoved_writeBytes (s : State) (a : Nat) (bs : List Byte) : (s.writeBytes a bs).unmoved = s.unmoved := by
  induction bs generalizing s a with
  | nil => rfl
  | cons b rest ih => exact (ih _ _).trans rfl

@[simp] theorem unmoved_writeNum (s : State) (a n v : Nat) : (s.writeNum a n v).unmoved = s.unmoved := unmoved_writeBytes ..

@[simp] theorem unmoved_queueAsync (s : State) (cl : Nat) (r : TrapRec) : (queueAsync s cl r).unmoved = s.unmoved := by
  unfold queueAsync
  dsimp only
  split <;> rfl

@[simp] theorem unmoved_unitRecord (s : State) (cl cause : Nat) (w1 detail : W64) (core el ctx ent slot : Nat) :
    (unitRecord s cl cause w1 detail core el ctx ent slot).unmoved = s.unmoved := unmoved_queueAsync ..

/-! ### Caches -/

@[simp] theorem unmoved_forgetPoison (s : State) (line : Nat) (l : CacheLine) : (forgetPoison s line l).unmoved = s.unmoved :=
  unmoved_foldl (fun _ _ => unmoved_writeNum ..) _ s

@[simp] theorem unmoved_forgetL2 (s : State) (line : Nat) (l : CacheLine) : (forgetL2 s line l).unmoved = s.unmoved := by
  refine unmoved_foldl (fun s i => ?_) _ s
  dsimp only
  split <;> simp

@[simp] theorem unmoved_meetL1 (s : State) (c line mask : Nat) : (meetL1 s c line mask).unmoved = s.unmoved := by
  refine unmoved_foldl (fun s e => ?_) _ s
  cases e with
  | l1 k ln sector hard =>
    simp only [unmoved_ite, unmoved_unitRecord, unmoved_setL1, unmoved_soft, unmoved_logCorrected, unmoved_setCore, ite_self]
  | _ => rfl

@[simp] theorem unmoved_meetL2 (s : State) (d line mask : Nat) : (meetL2 s d line mask).unmoved = s.unmoved := by
  refine unmoved_foldl (fun s e => ?_) _ s
  cases e with
  | l2 k ln sector hard =>
    simp only [unmoved_ite, unmoved_queueAsync, unmoved_setDie, unmoved_setL2, unmoved_soft, unmoved_logCorrected, ite_self]
  | _ => rfl

@[simp] theorem unmoved_clearErrors (s : State) (a n : Nat) : (clearErrors s a n).unmoved = s.unmoved := rfl

@[simp] theorem unmoved_flushL2 (s : State) (d line : Nat) : (flushL2 s d line).unmoved = s.unmoved := by
  unfold flushL2
  dsimp only
  split
  · simp
  · rw [unmoved_soft, unmoved_foldl (fun _ _ => unmoved_clearErrors ..)]
    simp

@[simp] theorem unmoved_evictL2 (s : State) (d line : Nat) : (evictL2 s d line).unmoved = s.unmoved := by simp [evictL2]

@[simp] theorem unmoved_shrinkSet (d line keep n : Nat) (s : State) : (shrinkSet d line keep n s).unmoved = s.unmoved := by
  induction n generalizing s with
  | zero => rfl
  | succ n ih =>
    unfold shrinkSet
    dsimp only
    split
    · rfl
    · split
      · rfl
      · rw [ih, unmoved_evictL2]

@[simp] theorem unmoved_makeWay2 (s : State) (d line : Nat) : (makeWay2 s d line).unmoved = s.unmoved := by
  unfold makeWay2
  split <;> simp

@[simp] theorem unmoved_enterL2 (s : State) (d line : Nat) (f : CacheLine → CacheLine) : (enterL2 s d line f).unmoved = s.unmoved := by
  simp [enterL2, trimSet]

@[simp] theorem unmoved_flushL1 (s : State) (core line : Nat) : (flushL1 s core line).unmoved = s.unmoved := by
  unfold flushL1
  dsimp only
  split <;> simp

@[simp] theorem unmoved_dropL1 (s : State) (core line : Nat) : (dropL1 s core line).unmoved = s.unmoved := by
  unfold dropL1
  split
  · rfl
  · simp [noteGone]

@[simp] theorem unmoved_flushAll (s : State) (line : Nat) : (flushAll s line).unmoved = s.unmoved :=
  unmoved_foldl (fun _ _ => unmoved_flushL1 ..) _ s

@[simp] theorem unmoved_invalOthers (s : State) (line : Nat) (keep : Option Nat) : (invalOthers s line keep).unmoved = s.unmoved := by
  refine unmoved_foldl (fun s x => ?_) _ s
  dsimp only
  split
  · rfl
  · exact unmoved_dropL1 ..

@[simp] theorem unmoved_homeTouch (s : State) (a n : Nat) (write : Bool) : (homeTouch s a n write).unmoved = s.unmoved := by
  refine unmoved_foldl (fun s line => ?_) _ s
  cases write <;> simp

/-! ### Frontier units, records and watches -/

@[simp] theorem unmoved_putSlot (s : State) (cl : Nat) (x : Slot) : (putSlot s cl x).unmoved = s.unmoved := rfl

@[simp] theorem unmoved_freeEmptySlots (s : State) (cl : Nat) : (freeEmptySlots s cl).unmoved = s.unmoved := by
  simp only [freeEmptySlots, unmoved_ite, unmoved_setCluster, ite_self]

@[simp] theorem unmoved_out (s : State) (l : List Sent) : ({ s with out := l } : State).unmoved = s.unmoved := rfl
@[simp] theorem unmoved_net (s : State) (l : List Flight) : ({ s with net := l } : State).unmoved = s.unmoved := rfl
@[simp] theorem unmoved_pkg (s : State) (x : Package) : ({ s with pkg := x } : State).unmoved = s.unmoved := rfl

@[simp] theorem unmoved_closeBatch (s : State) (cl : Nat) (x : Slot) : (closeBatch s cl x).unmoved = s.unmoved := by
  unfold closeBatch
  split
  · rfl
  · simp only [unmoved_ite, unmoved_out, unmoved_setHome, unmoved_freeEmptySlots, unmoved_putSlot, ite_self]

@[simp] theorem unmoved_recordMark (s : State) (cl image : Nat) (m : Mark) : (recordMark s cl image m).1.unmoved = s.unmoved := by
  unfold recordMark
  split
  · rfl
  · simp

@[simp] theorem unmoved_countToken (s : State) (cl loc : Nat) (tok : Token) (gate : Bool) :
    (countToken s cl loc tok gate).1.unmoved = s.unmoved := unmoved_recordMark ..

@[simp] theorem unmoved_dropCounted (s : State) (t : Token) : (dropCounted s t).unmoved = s.unmoved := by
  unfold dropCounted
  split
  · exact unmoved_recordMark ..
  · rfl

@[simp] theorem unmoved_launch (s : State) (tok : Token) (src : Option (Nat × Nat)) (net : Nat) (origin : Option Nat) :
    (launch s tok src net origin).unmoved = s.unmoved := by
  unfold launch
  dsimp only
  split
  · rfl
  · split
    · split
      · exact unmoved_dropCounted ..
      · rfl
    · exact unmoved_dropCounted ..

@[simp] theorem unmoved_countAll (s : State) (cl : Nat) (toks : List Token) (gate : Bool) :
    (countAll s cl toks gate).1.unmoved = s.unmoved := by
  refine foldl_keeps (fun p : State × List Token => p.1.unmoved) (fun _ _ => ?_) toks (s, [])
  exact unmoved_countToken ..

@[simp] theorem unmoved_leaveCounted (s : State) (e route net : Nat) (toks : List Token) :
    (leaveCounted s e route net toks).unmoved = s.unmoved :=
  (unmoved_foldl (fun _ _ => unmoved_launch ..) _ _).trans (unmoved_countAll ..)

@[simp] theorem unmoved_chargeUnits (s : State) (cl : Nat) (image : Option Nat) : (chargeUnits s cl image).unmoved = s.unmoved := rfl

@[simp] theorem unmoved_queueReeve (s : State) (r : TrapRec) : (queueReeve s r).unmoved = s.unmoved := by
  unfold queueReeve
  split <;> rfl

@[simp] theorem unmoved_asyncRecord (s : State) (cause e ctx ent slot : Nat) (ts detail : W64) :
    (asyncRecord s cause e ctx ent slot ts detail).unmoved = s.unmoved := by
  simp only [asyncRecord, unmoved_ite, unmoved_leaveCounted, unmoved_queueReeve, unmoved_queueAsync, unmoved_chargeUnits, ite_self]

@[simp] theorem unmoved_countNext (s : State) (core : Nat) (w : Watch) : (countNext s core w).1.unmoved = s.unmoved := by
  unfold countNext
  split
  · rfl
  · exact unmoved_countAll ..

@[simp] theorem unmoved_triggerRuns (s : State) (runs : List (Nat × Nat)) : (triggerRuns s runs).unmoved = s.unmoved := by
  refine unmoved_foldl (fun s x => unmoved_foldl (fun s y => ?_) _ s) _ s
  simp only [unmoved_ite, unmoved_setCore, unmoved_countNext, unmoved_asyncRecord, ite_self]

/-! ### Writes of bytes -/

@[simp] theorem unmoved_storeBytes (s : State) (a : Nat) (bs : List Byte) : (storeBytes s a bs).unmoved = s.unmoved := by
  simp [storeBytes, markMoving, triggerWatches]

theorem unmoved_writeEctx {s t : State} {who : Issuer} {h : Nat} {v : W64} (hw : writeEctx s who h v = .ok t) : t.unmoved = s.unmoved := by
  cases who with
  | firing core image => cases hw
  | engine => cases hw
  | stew n =>
    unfold writeEctx at hw
    dsimp only at hw
    split at hw
    · cases hw
    · split at hw
      · cases hw
      · cases hw
        rfl

@[simp] theorem unmoved_enterStore (s : State) (a n ea : Nat) : (enterStore s none a n ea).1.unmoved = s.unmoved := by
  unfold enterStore
  split
  · simp
  · split
    · rfl
    · exact unmoved_homeTouch ..

/-- A write at the home, whether it succeeds or fails. -/
@[simp] theorem unmoved_writeAt (s : State) (who : Issuer) (a : Nat) (bs : List Byte) (ea : Nat) :
    (writeAt s who none a bs ea).1.unmoved = s.unmoved := by
  have henter := unmoved_enterStore s a bs.length ea
  unfold writeAt
  dsimp only
  split
  · -- bytes of a scratchpad, of a cellar or of HBM
    split <;> rename_i heq <;> rw [heq] at henter
    · exact (unmoved_storeBytes ..).trans henter
    · exact henter
  · split
    · -- the flash window
      rfl
    · split
      · -- ECTX of an engine context, which only a steward-mode core may write
        split
        · rfl
        · rfl
        · split
          · exact unmoved_writeEctx ‹_›
          · rfl
      · -- another word of an engine context
        rfl
      · -- no word of an engine context
        rfl

/-- Blocks written one after another. -/
theorem unmoved_writeBlocks {n a : Nat} {bs : List (List Byte)} {s t : State} (h : writeBlocks n a bs s = .ok t) : t.unmoved = s.unmoved := by
  induction bs generalizing a s with
  | nil =>
    cases h
    rfl
  | cons b rest ih =>
    unfold writeBlocks at h
    split at h
    · cases h
    · next u heq =>
      have hu := unmoved_writeAt s (.stew n) a b a
      rw [heq] at hu
      exact (ih h).trans hu

/-! ### The passing of core clocks -/

/-- The clock is part of what memory leaves alone. -/
theorem clock_of_unmoved {s t : State} (h : t.unmoved = s.unmoved) : t.clock = s.clock := (congrArg State.clock h :)

@[simp] theorem clock_countClocks (s : State) (n : Nat) : (countClocks s n).clock = s.clock := by
  refine foldl_keeps State.clock (fun s (e, x) => ?_) _ s
  dsimp only
  cases x.firing with
  | none => rfl
  | some f =>
    dsimp only
    split
    · refine foldl_keeps State.clock (fun s (r, k) => ?_) _ s
      dsimp only
      split <;> rfl
    · rfl

@[simp] theorem unmoved_traceClocks (s : State) (cl n : Nat) : (traceClocks s cl n).unmoved = s.unmoved := by
  unfold traceClocks
  dsimp only
  split <;> rfl

@[simp] theorem unmoved_walkClocks (s : State) (cl n : Nat) : (walkClocks s cl n).unmoved = s.unmoved := by
  unfold walkClocks
  split
  · rfl
  · dsimp only
    split
    · rfl
    · split
      · rfl
      · exact (unmoved_setCluster ..).trans (unmoved_writeBlocks ‹_›)

/-- The clock advances by the core clocks that pass. -/
theorem clock_passClocks (s : State) (n : Nat) : (passClocks s n).clock = s.clock + n := by
  have hclusters : ((List.range 16).foldl (fun s cl => chargeUnits (walkClocks (traceClocks s cl n) cl n) cl none)
      (countClocks s n)).clock = s.clock :=
    (clock_of_unmoved (unmoved_foldl (fun _ _ => by simp) _ _)).trans (clock_countClocks s n)
  simp only [passClocks, hclusters]

end Sys2Proof.Machine
end

section
/-! What a step runs: the fetch of a steward-mode core (R335) and of a firing's slot (R52, R96), and the turns without one. -/

namespace Sys2Proof.Machine

open Safety (ready follow)

/-! ## The agent that runs -/

/-- Readying an agent notes it and charges a die. -/
theorem ready_eq (s : State) (a : Actor) : ∃ dies, ready s a = { s with dies := dies, actor := a } := by
  cases a with
  | element e =>
    unfold ready chargeEnergy
    dsimp only
    split <;> exact ⟨_, rfl⟩
  | steward n => exact ⟨_, rfl⟩
  | dsc d => exact ⟨_, rfl⟩
  | reeve => exact ⟨_, rfl⟩

/-- What neither the dies nor the agent decide is as it was. -/
theorem ready_part {γ : Type} (p : State → γ) {s : State} (hp : ∀ dies a, p { s with dies := dies, actor := a } = p s) (a : Actor) :
    p (ready s a) = p s := by
  obtain ⟨_, h⟩ := ready_eq s a
  rw [h, hp]

@[simp] theorem ready_mem (s : State) (a : Actor) : (ready s a).mem = s.mem := ready_part State.mem (fun _ _ => rfl) a
@[simp] theorem ready_soft (s : State) (a : Actor) : (ready s a).soft = s.soft := ready_part State.soft (fun _ _ => rfl) a
@[simp] theorem ready_cores (s : State) (a : Actor) : (ready s a).cores = s.cores := ready_part State.cores (fun _ _ => rfl) a
@[simp] theorem ready_elems (s : State) (a : Actor) : (ready s a).elems = s.elems := ready_part State.elems (fun _ _ => rfl) a
@[simp] theorem ready_clusters (s : State) (a : Actor) : (ready s a).clusters = s.clusters := ready_part State.clusters (fun _ _ => rfl) a
@[simp] theorem ready_stewards (s : State) (a : Actor) : (ready s a).stewards = s.stewards := ready_part State.stewards (fun _ _ => rfl) a
@[simp] theorem ready_pkg (s : State) (a : Actor) : (ready s a).pkg = s.pkg := ready_part State.pkg (fun _ _ => rfl) a
@[simp] theorem ready_event (s : State) (a : Actor) : (ready s a).event = s.event := ready_part State.event (fun _ _ => rfl) a
@[simp] theorem ready_actor (s : State) (a : Actor) : (ready s a).actor = a := rfl
@[simp] theorem ready_stew (s : State) (a : Actor) (n : Nat) : (ready s a).stew n = s.stew n := by simp [State.stew]
@[simp] theorem ready_elem (s : State) (a : Actor) (e : Nat) : (ready s a).elem e = s.elem e := by simp [State.elem]
@[simp] theorem ready_core (s : State) (a : Actor) (c : Nat) : (ready s a).core c = s.core c := by simp [State.core]
@[simp] theorem ready_readBytes (s : State) (a : Actor) (p n : Nat) : (ready s a).readBytes p n = s.readBytes p n := by
  simp [State.readBytes, State.readByte]

/-- A part of each die that a write to one die leaves as it was. -/
theorem die_setDie_part {β : Type} (f : Die → β) {s : State} {n : Nat} {x : Die} (hx : f x = f (s.die n)) (d : Nat) :
    f ((s.setDie n x).die d) = f (s.die d) := by
  by_cases hd : d = n
  · subst hd
    by_cases hlen : d < s.dies.length
    · rw [State.die_setDie hlen, hx]
    · rw [State.setDie, setAt, List.set_eq_of_length_le (by omega)]
  · rw [State.die_setDie_ne hd]

/-- Energy is charged beside the L2 of a die. -/
@[simp] theorem ready_line (s : State) (a : Actor) (d line : Nat) : ((ready s a).die d).line line = (s.die d).line line := by
  suffices h : ((chargeEnergy s a (Config.energyWeight s.stepNo)).die d).l2 = (s.die d).l2 by
    exact congrArg (Tab.get CacheLine.init · line) h
  unfold chargeEnergy
  cases a with
  | element e =>
    dsimp only
    split <;> exact die_setDie_part Die.l2 (by rfl) d
  | steward n => exact die_setDie_part Die.l2 (by rfl) d
  | dsc d => rfl
  | reeve => rfl

@[simp] theorem resetStage_ready (s : State) (a : Actor) (d : Nat) : resetStage (ready s a) d = resetStage s d :=
  ready_part (resetStage · d) (fun _ _ => rfl) a
@[simp] theorem dieReach_ready (s : State) (a : Actor) (c d : Nat) : dieReach (ready s a) c d = dieReach s c d :=
  ready_part (dieReach · c d) (fun _ _ => rfl) a
@[simp] theorem lineHome_ready (s : State) (a : Actor) (line : Nat) : lineHome (ready s a) line = lineHome s line :=
  ready_part (lineHome · line) (fun _ _ => rfl) a
@[simp] theorem stackDown_ready (s : State) (a : Actor) (line : Nat) : stackDown (ready s a) line = stackDown s line :=
  ready_part (stackDown · line) (fun _ _ => rfl) a

/-- Whether an access waits at its home is decided by the package's registers and the L2 lines. -/
@[simp] theorem homeHolds_ready (s : State) (a : Actor) (p n : Nat) (w : Bool) (routed : Nat) (die : Option Nat) :
    homeHolds (ready s a) p n w routed die = homeHolds s p n w routed die := by
  simp [homeHolds]

@[simp] theorem poisoned_ready (s : State) (a : Actor) (c : Option Nat) (p n : Nat) : poisoned (ready s a) c p n = poisoned s c p n := by
  simp [poisoned, l1Has]

/-! ## Reads that a fetch makes -/

/-- The flash window lies above HBM (R396). -/
theorem inHbm_of_inFlash {a n : Nat} (h : inFlash a n = true) : inHbm a n = false := by
  simp only [inFlash, Bool.and_eq_true, decide_eq_true_eq] at h
  simp only [inHbm, decide_eq_false_iff_not]
  omega

/-- A read in the flash window moves nothing. -/
theorem readAt_inFlash {s : State} {who : Issuer} {l1 : Option Nat} {a n ea : Nat} (h : inFlash a n = true) :
    readAt s who l1 a n ea = (s, .ok (s.readNum a n)) := by
  have ⟨hlo, hhi⟩ : 0xF000000000000 ≤ a ∧ a + n ≤ 0xF000010000000 := by simpa [inFlash] using h
  have hcel : ¬ celBase ≤ a := by simp only [celBase]; omega
  have hscr : ¬ scrBase ≤ a := by simp only [scrBase]; omega
  simp [readAt, hcel, hscr, inHbm_of_inFlash h, h]

/-- Without latent errors an access meets none. -/
theorem meetCacheErrors_of_no_errors {s : State} (h : s.soft = []) (core : Option Nat) (a n : Nat) : meetCacheErrors s core a n = s := by
  have hl1 (c line m : Nat) : meetL1 s c line m = s := by simp [meetL1, h]
  have hl2 (d line m : Nat) : meetL2 s d line m = s := by simp [meetL2, h]
  refine foldl_of_fixed (fun line => ?_) _
  have hothers (m : Nat) : s.cores.foldl (fun s (p : Nat × Core) => meetL1 s p.1 line (m &&& (p.2.line line).dirty)) s = s :=
    foldl_of_fixed (fun p => hl1 p.1 line _) _
  cases core with
  | none => simp [hl2, hothers]
  | some c => simp [hl1, hl2, hothers]

theorem correct_of_no_errors {s : State} (h : s.soft = []) (a n : Nat) : correct s a n = s := by simp [correct, h]

theorem hasHardError_of_no_errors {s : State} (h : s.soft = []) (a n : Nat) : hasHardError s a n = false := by simp [hasHardError, h]

/-- A read of HBM at the home without latent errors, which may fill the caches. -/
theorem readAt_inHbm {s : State} {who : Issuer} {a n ea : Nat} (h : inHbm a n = true) (hsoft : s.soft = [])
    (hclean : poisoned s none a n = false) : readAt s who none a n ea = (homeTouch s a n false, .ok (s.readNum a n)) := by
  have ha : a + n ≤ 0x8000000000 := by simpa [inHbm] using h
  have hcel : ¬ celBase ≤ a := by simp only [celBase]; omega
  have hscr : ¬ scrBase ≤ a := by simp only [scrBase]; omega
  simp [readAt, hcel, hscr, h, meetCacheErrors_of_no_errors hsoft, hclean, correct_of_no_errors hsoft, hasHardError_of_no_errors hsoft]

/-! ## The instruction cache -/

/-- The words that a fetch takes in are those of its line. -/
theorem line_of_mem_goodWords {s : State} {line : Nat} {p : Nat × W64} (h : p ∈ goodWords s line) : p.1 / 128 = line := by
  have hline : p ∈ lineWords s line := (List.mem_filter.mp h).1
  obtain ⟨i, hi, rfl⟩ := List.mem_map.mp hline
  have := List.mem_range.mp hi
  simp only [lineBytes]
  omega

/-- Words listed in a table leave every other address as it was. -/
theorem get_foldl_set_of_not_mem {a : Nat} (l : List (Nat × W64)) (t : Tab (Option W64)) (h : ∀ p ∈ l, p.1 ≠ a) :
    Tab.get none (l.foldl (fun t p => Tab.set none t p.1 (some p.2)) t) a = Tab.get none t a := by
  induction l generalizing t with
  | nil => rfl
  | cons p rest ih =>
    rw [List.foldl_cons, ih _ fun q hq => h q (List.mem_cons_of_mem _ hq)]
    exact Tab.get_set_ne (h p List.mem_cons_self).symm

/-- A word that the instruction cache holds is fetched with no effect. -/
theorem fetchWord_of_icacheWord {s : State} {n : Nat} {w : W64} (h : icacheWord s n = some w) : fetchWord s n = some (w, s) := by
  simp [fetchWord, h]

/-- A word that a read answers is fetched with what the read moves, and the instruction cache takes in words of its line. -/
theorem fetchWord_of_readAt {s t : State} {n x : Nat} (hnone : icacheWord s n = none)
    (hmem : (inHbm (s.stew n).pc.toNat 8 || inFlash (s.stew n).pc.toNat 8) = true)
    (hread : readAt s (.stew n) none (s.stew n).pc.toNat 8 (s.stew n).pc.toNat = (t, .ok x)) :
    ∃ ic, fetchWord s n = some (word x, t.setStew n { t.stew n with icache := ic }) ∧
      ∀ a, a / 128 ≠ (s.stew n).pc.toNat / 128 → Tab.get none ic a = Tab.get none (t.stew n).icache a := by
  refine ⟨_, by simp only [fetchWord, hnone, hmem, hread, if_true]; rfl, fun a ha => get_foldl_set_of_not_mem _ _ fun p hp hpa => ?_⟩
  exact ha (hpa ▸ line_of_mem_goodWords hp)

/-- The number of some bytes is the word that the decoder makes of them. -/
theorem word_numOfBytes (bs : List Byte) : word (numOfBytes bs) = wordOfBytes bs := by
  suffices h : numOfBytes bs = bs.foldr (fun b acc => b.toNat + 256 * acc) 0 by rw [h]; rfl
  induction bs with
  | nil => rfl
  | cons b rest ih => simp [numOfBytes, ih]

/-- Eight bytes read as a number and those bytes decode alike. -/
theorem decode_readNum (s : State) (mode : Mode) (p : Nat) : decode mode (word (s.readNum p 8)) = decodeBytes mode (s.readBytes p 8) := by
  rw [State.readNum, word_numOfBytes, decodeBytes]

/-! ## What a turn comes to -/

theorem step_of_idle {s t : State} (h : fetchTurn s = .idle t) : step s = .next (nextTurn t) := by simp [step, h]

theorem step_of_run {s t : State} {i : Instr} (h : fetchTurn s = .run i t) : step s = follow (exec i t) := by
  unfold step
  rw [h]
  dsimp only
  cases exec i t <;> rfl

/-- A steward-mode core that the package has fetches in its turn. -/
theorem fetchTurn_stewActor {s : State} {n : Nat} (hn : n < 21) (ht : s.turn = .run (stewActor n)) :
    fetchTurn s = fetchSteward (ready s (stewActor n)) n := by
  unfold fetchTurn
  rw [ht]
  by_cases h16 : n < 16
  · simp [stewActor, h16, actorExists, ready]
  · by_cases h20 : n < 20
    · simp [stewActor, h16, h20, actorExists, ready, show n - 16 < 4 by omega, show 16 + (n - 16) = n by omega]
    · obtain rfl : n = 20 := by omega
      rfl

/-- An element of a core that no fuse switches off goes on in its turn. -/
theorem fetchTurn_element {s : State} {e : Nat} (he : e < 8192) (hf : isFused s (coreOf e) = false) (ht : s.turn = .run (.element e)) :
    fetchTurn s = fetchElement (ready s (.element e)) e := by
  unfold fetchTurn
  rw [ht]
  simp [actorExists, he, hf, ready]

/-- A steward-mode core that runs, and whose fetch does not wait, runs what its word decodes to. -/
theorem fetchSteward_of_fetchWord {s t : State} {n : Nat} {w : W64} {i : Instr} (hhalted : (s.stew n).halted = false)
    (hwaiting : (s.stew n).waiting = none) (hholds : fetchHolds s n = false) (hw : fetchWord s n = some (w, t))
    (hi : decode .steward w = .ok i) : fetchSteward s n = .run i t := by
  simp [fetchSteward, hhalted, hwaiting, hholds, hw, hi]

/-- A firing that runs, at a slot without latent errors, runs what the slot's word decodes to. -/
theorem fetchElement_of_decode {s : State} {e : Nat} {f : Firing} {i : Instr} (hf : (s.elem e).firing = some f) (hended : f.ended = false)
    (hslot : f.slot < 32) (hgood : slotErrors s (e * 8 + f.frame.ctx) f.slot = [])
    (hi : decode .firing ((s.core (coreOf e)).ctxWord (e % 4) f.frame.ctx (0x10 + f.slot)) = .ok i) : fetchElement s e = .run i s := by
  simp [fetchElement, hf, hended, Nat.not_le.mpr hslot, hgood, hi, correctSlot]

/-! ## Steps -/

section
variable {s : State} {n : Nat} {i : Instr} (hn : n < 21) (ht : s.turn = .run (stewActor n)) (hhalted : (s.stew n).halted = false)
  (hwaiting : (s.stew n).waiting = none)
include hn ht hhalted hwaiting

/-- A steward-mode core steps by the instruction of the word that it fetches. -/
theorem step_of_fetchWord {t : State} {w : W64} (hholds : fetchHolds (ready s (stewActor n)) n = false)
    (hw : fetchWord (ready s (stewActor n)) n = some (w, t)) (hi : decode .steward w = .ok i) : step s = follow (exec i t) := by
  refine step_of_run ?_
  rw [fetchTurn_stewActor hn ht]
  exact fetchSteward_of_fetchWord (by simpa using hhalted) (by simpa using hwaiting) hholds hw hi

/-- From its instruction cache the core takes the word as it stands. -/
theorem step_of_icacheWord {w : W64} (hw : icacheWord (ready s (stewActor n)) n = some w) (hi : decode .steward w = .ok i) :
    step s = follow (exec i (ready s (stewActor n))) :=
  step_of_fetchWord hn ht hhalted hwaiting (by simp [fetchHolds, hw]) (fetchWord_of_icacheWord hw) hi

/-- From the flash window it takes the eight bytes at the PC, and its instruction cache may fill with words of their line (R335). -/
theorem step_of_inFlash (hnone : icacheWord (ready s (stewActor n)) n = none)
    (hi : decodeBytes .steward (s.readBytes (s.stew n).pc.toNat 8) = .ok i) (hflash : inFlash (s.stew n).pc.toNat 8 = true) :
    ∃ ic, step s = follow (exec i ((ready s (stewActor n)).setStew n { s.stew n with icache := ic })) ∧
      ∀ a, a / 128 ≠ (s.stew n).pc.toNat / 128 → Tab.get none ic a = Tab.get none (s.stew n).icache a := by
  obtain ⟨ic, hw, hic⟩ := fetchWord_of_readAt hnone (by simp [hflash]) (readAt_inFlash (by simpa using hflash))
  simp only [ready_stew] at hw hic
  refine ⟨ic, step_of_fetchWord hn ht hhalted hwaiting (by simp [fetchHolds, inHbm_of_inFlash hflash]) hw ?_, hic⟩
  rw [decode_readNum, ready_readBytes, hi]

/-- From HBM it takes the eight bytes at the PC through the L2, whose lines may move; no element and no register does (R335). -/
theorem step_of_inHbm (hnone : icacheWord (ready s (stewActor n)) n = none)
    (hi : decodeBytes .steward (s.readBytes (s.stew n).pc.toNat 8) = .ok i) (hhbm : inHbm (s.stew n).pc.toNat 8 = true)
    (hsoft : s.soft = []) (hclean : poisoned s none (s.stew n).pc.toNat 8 = false)
    (hhome : homeHolds s (s.stew n).pc.toNat 8 (die := some (stewDie n)) = false) :
    ∃ v, step s = follow (exec i v) ∧ v.elems = s.elems ∧ v.actor = stewActor n ∧ v.event = s.event ∧
      ∃ ic, v.stewards = setAt s.stewards n { s.stew n with icache := ic } := by
  have hread := readAt_inHbm (who := .stew n) (ea := (s.stew n).pc.toNat) hhbm ((ready_soft s (stewActor n)).trans hsoft)
    ((poisoned_ready s (stewActor n) none _ 8).trans hclean)
  obtain ⟨ic, hw, -⟩ := fetchWord_of_readAt hnone (by simp [hhbm]) (by simpa using hread)
  have htouch := unmoved_homeTouch (ready s (stewActor n)) (s.stew n).pc.toNat 8 false
  have hstewards : (homeTouch (ready s (stewActor n)) (s.stew n).pc.toNat 8 false).stewards = s.stewards :=
    (congrArg State.stewards htouch :).trans (ready_stewards ..)
  have hstew : (homeTouch (ready s (stewActor n)) (s.stew n).pc.toNat 8 false).stew n = s.stew n := by
    rw [State.stew, hstewards, State.stew]
  refine ⟨_, step_of_fetchWord hn ht hhalted hwaiting (by simp [fetchHolds, hhome]) hw ?_, ?_, ?_, ?_, ic, ?_⟩
  · rw [decode_readNum, ready_readBytes, hi]
  · exact (congrArg State.elems htouch :).trans (ready_elems ..)
  · exact (congrArg State.actor htouch :)
  · exact (congrArg State.event htouch :).trans (ready_event ..)
  · rw [State.setStew_stewards, hstewards, hstew]
end

/-- An element steps by the instruction of the slot that its firing has reached. -/
theorem step_of_slot {s : State} {e : Nat} {f : Firing} {i : Instr} (he : e < 8192) (hfused : isFused s (coreOf e) = false)
    (ht : s.turn = .run (.element e)) (hf : (s.elem e).firing = some f) (hended : f.ended = false) (hslot : f.slot < 32)
    (hgood : slotErrors s (e * 8 + f.frame.ctx) f.slot = [])
    (hi : decode .firing ((s.core (coreOf e)).ctxWord (e % 4) f.frame.ctx (0x10 + f.slot)) = .ok i) :
    step s = follow (exec i (ready s (.element e))) := by
  refine step_of_run ?_
  rw [fetchTurn_element he hfused ht]
  exact fetchElement_of_decode (by simpa using hf) hended hslot (by simpa [slotErrors] using hgood) (by simpa using hi)

/-- Settles O56: by the kind of turn, from what a fetch answers and what it moves. -/
theorem stepRunsTheDecodedInstruction : Obligations.StepRunsTheDecodedInstruction := by
  refine ⟨fun s n i hn _ ht hhalted hwaiting => ⟨fun w hw hi => step_of_icacheWord hn ht hhalted hwaiting hw hi, fun hnone hi =>
    ⟨step_of_inFlash hn ht hhalted hwaiting hnone hi, step_of_inHbm hn ht hhalted hwaiting hnone hi⟩⟩, ?_, ?_, ?_, ?_, ?_⟩
  · intro s e f i he hfused ht hf hended hslot hgood hi
    exact step_of_slot he hfused ht hf hended hslot hgood hi
  · intro s i e ht hevent
    exact step_of_run (by simp [fetchTurn, ht, hevent])
  · intro s k u a b h ht
    exact step_of_idle (by simp [fetchTurn, ht])
  · intro s k ht
    exact ⟨step_of_idle (by simp [fetchTurn, ht]), clock_passClocks s k⟩
  · intro s a
    simp

end Sys2Proof.Machine
end

section
/-! Timestamps and headers as fields of words: what a field reads as after a write, when a timestamp is well-formed, and what a route makes of
one (R59, R60, R166 to R168). -/

namespace Sys2Proof.Machine

/-! ## Fields of a word -/

/-- A bit of a field is a bit of its word. -/
theorem testBit_bits (w : W64) (hi lo i : Nat) : (bits w hi lo).testBit i = (decide (i < hi - lo + 1) && w.toNat.testBit (lo + i)) := by
  rw [bits, Nat.testBit_mod_two_pow, Nat.testBit_shiftRight]

/-- Replacing the digits of a number from place `lo` on leaves those below and above them. -/
theorem testBit_replace (n k lo v i : Nat) : (n - n >>> lo % 2 ^ k * 2 ^ lo + v % 2 ^ k * 2 ^ lo).testBit i =
    if i < lo then n.testBit i else if i < lo + k then v.testBit (i - lo) else n.testBit i := by
  have hsplit : n - n >>> lo % 2 ^ k * 2 ^ lo + v % 2 ^ k * 2 ^ lo = 2 ^ lo * (2 ^ k * (n >>> lo >>> k) + v % 2 ^ k) + n % 2 ^ lo := by
    have hlow := Nat.div_add_mod n (2 ^ lo)
    have hmid := Nat.div_add_mod (n >>> lo) (2 ^ k)
    rw [Nat.shiftRight_eq_div_pow n lo] at hmid ⊢
    rw [Nat.shiftRight_eq_div_pow _ k]
    generalize n / 2 ^ lo / 2 ^ k = a at *
    generalize n / 2 ^ lo % 2 ^ k = b at *
    rw [← hmid, Nat.mul_add] at hlow
    rw [Nat.mul_comm b, Nat.mul_comm (v % 2 ^ k), Nat.mul_add]
    omega
  rw [hsplit, Nat.testBit_two_pow_mul_add _ (Nat.mod_lt _ (Nat.two_pow_pos lo))]
  by_cases hlo : i < lo
  · simp [hlo, Nat.testBit_mod_two_pow]
  · rw [if_neg hlo, if_neg hlo, Nat.testBit_two_pow_mul_add _ (Nat.mod_lt _ (Nat.two_pow_pos k))]
    by_cases hk : i < lo + k
    · rw [if_pos (by omega), if_pos hk, Nat.testBit_mod_two_pow, decide_eq_true (by omega), Bool.true_and]
    · rw [if_neg (by omega), if_neg hk, Nat.testBit_shiftRight, Nat.testBit_shiftRight]
      congr 1
      omega

/-- The bits of a word after a write of a field. -/
theorem testBit_setBits {hi lo i : Nat} (w : W64) (v : Nat) (hle : lo ≤ hi) (hi64 : i < 64) : (setBits w hi lo v).toNat.testBit i =
    if lo ≤ i ∧ i ≤ hi then v.testBit (i - lo) else w.toNat.testBit i := by
  rw [setBits, word, BitVec.toNat_ofNat, Nat.testBit_mod_two_pow, decide_eq_true hi64, Bool.true_and, bits, testBit_replace]
  by_cases hlo : i < lo
  · rw [if_pos hlo, if_neg (by omega)]
  · rw [if_neg hlo]
    by_cases hhi : i ≤ hi
    · rw [if_pos (by omega), if_pos (by omega)]
    · rw [if_neg (by omega), if_neg (by omega)]

/-- A field reads as it was written. -/
theorem bits_setBits_self {hi lo : Nat} (w : W64) (v : Nat) (hle : lo ≤ hi) (h64 : hi < 64) :
    bits (setBits w hi lo v) hi lo = v % 2 ^ (hi - lo + 1) := by
  apply Nat.eq_of_testBit_eq
  intro i
  rw [testBit_bits, Nat.testBit_mod_two_pow]
  by_cases hi' : i < hi - lo + 1
  · rw [testBit_setBits w v hle (by omega), if_pos (by omega), Nat.add_sub_cancel_left]
  · simp [hi']

/-- Writing a field leaves those beside it. -/
theorem bits_setBits_of_disjoint {hi lo hi' lo' : Nat} (w : W64) (v : Nat) (hle : lo ≤ hi) (hle' : lo' ≤ hi') (h64' : hi' < 64)
    (hdis : hi' < lo ∨ hi < lo') : bits (setBits w hi lo v) hi' lo' = bits w hi' lo' := by
  apply Nat.eq_of_testBit_eq
  intro i
  rw [testBit_bits, testBit_bits]
  by_cases hi' : i < hi' - lo' + 1
  · rw [testBit_setBits w v hle (by omega), if_neg (by omega)]
  · simp [hi']

/-- One bit is a field of one bit. -/
theorem bitOf_eq_decide_bits (w : W64) (n : Nat) : bitOf w n = decide (bits w n n = 1) := by
  rw [bitOf, bits, Nat.testBit_eq_decide_div_mod_eq, Nat.shiftRight_eq_div_pow, Nat.sub_self, Nat.zero_add, Nat.pow_one]

/-! ## Fields of a timestamp -/

/-- The highest bit of a coordinate (R59). -/
def tsHi (i : Nat) : Nat := if i = 0 then 61 else if i = 1 then 36 else if i = 2 then 24 else 12
/-- The lowest bit of a coordinate (R59). -/
def tsLo (i : Nat) : Nat := if i = 0 then 37 else if i = 1 then 25 else if i = 2 then 13 else 1

theorem tsCoord_eq_bits (t : W64) (i : Nat) : tsCoord t i = bits t (tsHi i) (tsLo i) := by
  unfold tsCoord tsHi tsLo
  grind

theorem tsSet_eq_setBits (t : W64) (i v : Nat) : tsSet t i v = setBits t (tsHi i) (tsLo i) v := by
  unfold tsSet tsHi tsLo
  grind

/-- A coordinate is a field between bit 0 and the depth. -/
theorem tsPlace_bounds (i : Nat) : 0 < tsLo i ∧ tsLo i ≤ tsHi i ∧ tsHi i < 62 := by
  unfold tsHi tsLo
  grind

/-- The coordinates stand beside each other. -/
theorem tsPlace_disjoint {i j : Nat} (hi : i ≤ 3) (hj : j ≤ 3) (hne : j ≠ i) : tsHi j < tsLo i ∨ tsHi i < tsLo j := by
  unfold tsHi tsLo
  grind

/-- A coordinate reads as it was written; c0 has 25 bits, the others 12. -/
theorem tsCoord_tsSet_self (t : W64) (i v : Nat) : tsCoord (tsSet t i v) i = v % 2 ^ (tsHi i - tsLo i + 1) := by
  obtain ⟨-, hle, h62⟩ := tsPlace_bounds i
  rw [tsCoord_eq_bits, tsSet_eq_setBits, bits_setBits_self t v hle (by omega)]

/-- The coordinates after the first have 12 bits. -/
theorem tsCoord_tsSet_of_lt {i v : Nat} (t : W64) (hi : 1 ≤ i) (hv : v < 4096) : tsCoord (tsSet t i v) i = v := by
  have hwidth : tsHi i - tsLo i + 1 = 12 := by
    unfold tsHi tsLo
    grind
  rw [tsCoord_tsSet_self, hwidth]
  exact Nat.mod_eq_of_lt hv

theorem tsCoord_tsSet_ne {i j : Nat} (t : W64) (v : Nat) (hi : i ≤ 3) (hj : j ≤ 3) (hne : j ≠ i) :
    tsCoord (tsSet t i v) j = tsCoord t j := by
  obtain ⟨-, hle, -⟩ := tsPlace_bounds i
  obtain ⟨-, hle', h62'⟩ := tsPlace_bounds j
  rw [tsCoord_eq_bits, tsCoord_eq_bits, tsSet_eq_setBits,
    bits_setBits_of_disjoint t v hle hle' (by omega) (tsPlace_disjoint hi hj hne)]

@[simp] theorem tsDepth_tsSet (t : W64) (i v : Nat) : tsDepth (tsSet t i v) = tsDepth t := by
  obtain ⟨-, hle, h62⟩ := tsPlace_bounds i
  rw [tsDepth, tsDepth, tsSet_eq_setBits, bits_setBits_of_disjoint t v hle (by omega) (by omega) (.inr h62)]

@[simp] theorem bitOf_zero_tsSet (t : W64) (i v : Nat) : bitOf (tsSet t i v) 0 = bitOf t 0 := by
  obtain ⟨hpos, hle, -⟩ := tsPlace_bounds i
  rw [bitOf_eq_decide_bits, bitOf_eq_decide_bits, tsSet_eq_setBits,
    bits_setBits_of_disjoint t v hle (Nat.le_refl 0) (by omega) (.inl hpos)]

theorem tsDepth_lt (t : W64) : tsDepth t < 4 := Nat.mod_lt _ (by decide)

/-- Two words of one depth, with the same coordinates and the same bit 0, are one timestamp. -/
theorem ts_ext {t u : W64} (hd : tsDepth t = tsDepth u) (hc : ∀ i ≤ 3, tsCoord t i = tsCoord u i) (h0 : bitOf t 0 = bitOf u 0) : t = u := by
  have h0' : bits t 0 0 = bits u 0 0 := by
    rw [bitOf_eq_decide_bits, bitOf_eq_decide_bits, decide_eq_decide] at h0
    have ht : bits t 0 0 < 2 := Nat.mod_lt _ (by decide)
    have hu : bits u 0 0 < 2 := Nat.mod_lt _ (by decide)
    omega
  have hc0 : bits t 61 37 = bits u 61 37 := hc 0 (by omega)
  have hc1 : bits t 36 25 = bits u 36 25 := hc 1 (by omega)
  have hc2 : bits t 24 13 = bits u 24 13 := hc 2 (by omega)
  have hc3 : bits t 12 1 = bits u 12 1 := hc 3 (by omega)
  have ht := t.isLt
  have hu := u.isLt
  apply BitVec.eq_of_toNat_eq
  simp only [tsDepth, bits, Nat.shiftRight_eq_div_pow] at hd hc0 hc1 hc2 hc3 h0'
  omega

/-! ## Cutting and padding -/

/-- A coordinate beyond a depth is cleared. -/
def tsClear (d i : Nat) (t : W64) : W64 := if d < i then tsSet t i 0 else t

theorem tsTo_eq_tsClear (t : W64) (d : Nat) : tsTo t d = setBits (tsClear d 1 (tsClear d 2 (tsClear d 3 t))) 63 62 d := rfl

theorem tsCoord_tsClear {d i j : Nat} (t : W64) (hi : i ≤ 3) (hj : j ≤ 3) :
    tsCoord (tsClear d i t) j = if j = i ∧ d < i then 0 else tsCoord t j := by
  unfold tsClear
  by_cases hd : d < i
  · rw [if_pos hd]
    by_cases hji : j = i
    · rw [if_pos ⟨hji, hd⟩, hji, tsCoord_tsSet_self, Nat.zero_mod]
    · rw [if_neg (fun h => hji h.1), tsCoord_tsSet_ne t 0 hi hj hji]
  · rw [if_neg hd, if_neg (fun h => hd h.2)]

@[simp] theorem bitOf_zero_tsClear (d i : Nat) (t : W64) : bitOf (tsClear d i t) 0 = bitOf t 0 := by
  unfold tsClear
  split
  · exact bitOf_zero_tsSet ..
  · rfl

/-- Writing the depth leaves the coordinates. -/
theorem tsCoord_setBits_depth (t : W64) (i d : Nat) : tsCoord (setBits t 63 62 d) i = tsCoord t i := by
  obtain ⟨-, hle, h62⟩ := tsPlace_bounds i
  rw [tsCoord_eq_bits, tsCoord_eq_bits, bits_setBits_of_disjoint t d (by omega) hle (by omega) (.inl h62)]

/-- A timestamp cut or padded to a depth keeps its coordinates up to it; the others are zero. -/
theorem tsCoord_tsTo {d i : Nat} (t : W64) (hi : i ≤ 3) : tsCoord (tsTo t d) i = if i ≤ d then tsCoord t i else 0 := by
  rw [tsTo_eq_tsClear, tsCoord_setBits_depth, tsCoord_tsClear _ (by omega) hi, tsCoord_tsClear _ (by omega) hi,
    tsCoord_tsClear _ (by omega) hi]
  grind

theorem tsDepth_tsTo {d : Nat} (t : W64) (hd : d < 4) : tsDepth (tsTo t d) = d := by
  rw [tsTo_eq_tsClear, tsDepth, bits_setBits_self _ d (by omega) (by omega)]
  exact Nat.mod_eq_of_lt hd

@[simp] theorem bitOf_zero_tsTo (t : W64) (d : Nat) : bitOf (tsTo t d) 0 = bitOf t 0 := by
  rw [tsTo_eq_tsClear, bitOf_eq_decide_bits, bits_setBits_of_disjoint _ d (by omega) (Nat.le_refl 0) (by omega) (.inl (by omega)),
    ← bitOf_eq_decide_bits]
  simp

/-- A word is a well-formed timestamp where the coordinates beyond its depth and bit 0 are zero (R59). -/
theorem tsWf_iff (t : W64) : tsWf t = true ↔ (∀ i ≤ 3, tsDepth t < i → tsCoord t i = 0) ∧ bitOf t 0 = false := by
  have hcut : tsTo t (tsDepth t) = t ↔ ∀ i ≤ 3, tsDepth t < i → tsCoord t i = 0 := by
    constructor
    · intro h i hi hlt
      rw [← h, tsCoord_tsTo t hi, if_neg (by omega)]
    · intro h
      refine ts_ext (tsDepth_tsTo t (tsDepth_lt t)) (fun i hi => ?_) (bitOf_zero_tsTo ..)
      rw [tsCoord_tsTo t hi]
      split
      · rfl
      · rw [h i hi (by omega)]
  simp [tsWf, hcut]

/-! ## Timestamps on routes -/

theorem tsOnRoute_two (t : W64) (n : Nat) : tsOnRoute 2 t n =
    if tsDepth t = 3 then .error t else .ok (tsSet (tsTo t (tsDepth t + 1)) (tsDepth t + 1) n) := rfl

theorem tsOnRoute_three (t : W64) (n : Nat) : tsOnRoute 3 t n = if tsDepth t = 0 then .error t
    else if tsCoord t (tsDepth t) = 4095 then .error (tsSet t (tsDepth t) 0)
    else .ok (tsSet t (tsDepth t) (tsCoord t (tsDepth t) + 1)) := rfl

theorem tsOnRoute_four (t : W64) (n : Nat) : tsOnRoute 4 t n =
    if tsDepth t = 0 then .error t else .ok (tsTo t (tsDepth t - 1)) := rfl

section
variable {t : W64} (hwf : tsWf t = true)
include hwf

/-- Setting a coordinate that a well-formed timestamp has leaves it well-formed. -/
theorem tsWf_tsSet {i : Nat} (v : Nat) (hi : i ≤ tsDepth t) : tsWf (tsSet t i v) = true := by
  have hd := tsDepth_lt t
  obtain ⟨hzero, hbit⟩ := (tsWf_iff t).mp hwf
  refine (tsWf_iff _).mpr ⟨fun j hj hlt => ?_, by simpa using hbit⟩
  rw [tsDepth_tsSet] at hlt
  rw [tsCoord_tsSet_ne t v (by omega) hj (by omega), hzero j hj hlt]

/-- A well-formed timestamp cut or padded to a depth is well-formed. -/
theorem tsWf_tsTo {d : Nat} (hd : d < 4) : tsWf (tsTo t d) = true := by
  obtain ⟨-, hbit⟩ := (tsWf_iff t).mp hwf
  refine (tsWf_iff _).mpr ⟨fun j hj hlt => ?_, by simpa using hbit⟩
  rw [tsDepth_tsTo t hd] at hlt
  rw [tsCoord_tsTo t hj, if_neg (by omega)]

/-- An ingress route opens a coordinate below the timestamp's (R167). -/
theorem tsOnRoute_ingress {n : Nat} (hd : tsDepth t < 3) (hn : n < 4096) : ∃ u, tsOnRoute 2 t n = .ok u ∧ tsWf u = true ∧
    tsDepth u = tsDepth t + 1 ∧ tsCoord u (tsDepth t + 1) = n ∧ ∀ i, i ≤ tsDepth t → tsCoord u i = tsCoord t i := by
  have hdepth : tsDepth (tsTo t (tsDepth t + 1)) = tsDepth t + 1 := tsDepth_tsTo t (by omega)
  refine ⟨tsSet (tsTo t (tsDepth t + 1)) (tsDepth t + 1) n, ?_, ?_, ?_, ?_, fun i hi => ?_⟩
  · rw [tsOnRoute_two, if_neg (by omega)]
  · exact tsWf_tsSet (tsWf_tsTo hwf (by omega)) n (by omega)
  · rw [tsDepth_tsSet, hdepth]
  · exact tsCoord_tsSet_of_lt _ (by omega) hn
  · rw [tsCoord_tsSet_ne _ n (by omega) (by omega) (by omega), tsCoord_tsTo t (by omega), if_pos (by omega)]

/-- A feedback route counts the innermost coordinate up (R167). -/
theorem tsOnRoute_feedback {n : Nat} (hd : 1 ≤ tsDepth t) (hc : tsCoord t (tsDepth t) < 4095) : ∃ u, tsOnRoute 3 t n = .ok u ∧
    tsWf u = true ∧ tsDepth u = tsDepth t ∧ tsCoord u (tsDepth t) = tsCoord t (tsDepth t) + 1 ∧
    ∀ i, i ≤ 3 → i ≠ tsDepth t → tsCoord u i = tsCoord t i := by
  have hlt := tsDepth_lt t
  refine ⟨tsSet t (tsDepth t) (tsCoord t (tsDepth t) + 1), ?_, tsWf_tsSet hwf _ (Nat.le_refl _), tsDepth_tsSet .., ?_, fun i hi hne => ?_⟩
  · rw [tsOnRoute_three, if_neg (by omega), if_neg (by omega)]
  · exact tsCoord_tsSet_of_lt _ hd (by omega)
  · exact tsCoord_tsSet_ne t _ (by omega) hi hne

/-- An egress route drops the innermost coordinate (R167). -/
theorem tsOnRoute_egress {n : Nat} (hd : 1 ≤ tsDepth t) : ∃ u, tsOnRoute 4 t n = .ok u ∧ tsWf u = true ∧ tsDepth u = tsDepth t - 1 ∧
    ∀ i, i < tsDepth t → tsCoord u i = tsCoord t i := by
  have hlt := tsDepth_lt t
  refine ⟨tsTo t (tsDepth t - 1), ?_, tsWf_tsTo hwf (by omega), tsDepth_tsTo t (by omega), fun i hi => ?_⟩
  · rw [tsOnRoute_four, if_neg (by omega)]
  · rw [tsCoord_tsTo t (by omega), if_pos (by omega)]

omit hwf in
/-- A feedback route that finds the innermost coordinate at its bound answers the timestamp with that coordinate 0 (R168). -/
theorem tsOnRoute_feedback_overflow {n : Nat} (hd : 1 ≤ tsDepth t) (hc : tsCoord t (tsDepth t) = 4095) : ∃ u, tsOnRoute 3 t n = .error u ∧
    tsDepth u = tsDepth t ∧ tsCoord u (tsDepth t) = 0 ∧ ∀ i, i ≤ 3 → i ≠ tsDepth t → tsCoord u i = tsCoord t i := by
  have hlt := tsDepth_lt t
  refine ⟨tsSet t (tsDepth t) 0, ?_, tsDepth_tsSet .., ?_, fun i hi hne => ?_⟩
  · rw [tsOnRoute_three, if_neg (by omega), if_pos hc]
  · exact tsCoord_tsSet_of_lt _ hd (by omega)
  · exact tsCoord_tsSet_ne t _ (by omega) hi hne
end

/-! ## Header words -/

theorem bits_lt (w : W64) (hi lo : Nat) : bits w hi lo < 2 ^ (hi - lo + 1) := Nat.mod_lt _ (Nat.two_pow_pos _)

theorem ofBool_le (b : Bool) : ofBool b ≤ 1 := by cases b <;> decide

theorem decide_ofBool (b : Bool) : decide (ofBool b = 1) = b := by cases b <;> rfl

theorem routeDev_lt {s : State} (hdev : s.devId < 4096) (r : W64) : routeDev s r < 4096 := by
  have hbits : bits r 54 43 < 4096 := bits_lt r 54 43
  unfold routeDev
  split <;> assumption

/-- The fields of a header word that is put together from numbers that fit their places (R60). -/
theorem bits_headerWord {dev place vc last scaled eos esheaf taint seq wide : Nat} (hdev : dev < 4096) (hplace : place < 2097152)
    (hvc : vc < 32) (hlast : last ≤ 1) (hscaled : scaled ≤ 1) (heos : eos ≤ 1) (hesheaf : esheaf ≤ 1) (htaint : taint ≤ 1)
    (hseq : seq < 64) (hwide : wide ≤ 1) :
    let h := word (dev * 2 ^ 52 + place * 2 ^ 31 + vc * 2 ^ 26 + last * 2 ^ 25 + scaled * 2 ^ 24 + eos * 2 ^ 23 + esheaf * 2 ^ 22
      + taint * 2 ^ 21 + seq * 2 ^ 15 + wide * 2 ^ 12)
    bits h 63 52 = dev ∧ bits h 51 31 = place ∧ bits h 30 26 = vc ∧ bits h 25 25 = last ∧ bits h 24 24 = scaled ∧ bits h 23 23 = eos ∧
      bits h 22 22 = esheaf ∧ bits h 21 21 = taint ∧ bits h 20 15 = seq ∧ bits h 14 12 = wide ∧ bits h 11 0 = 0 := by
  simp only [bits, word, BitVec.toNat_ofNat, Nat.shiftRight_eq_div_pow]
  refine ⟨?_, ?_, ?_, ?_, ?_, ?_, ?_, ?_, ?_, ?_, ?_⟩ <;> omega

/-- The header of a token on a route: where the route goes, on which VC, and the flags of the send (R60). -/
theorem header1_fields {s : State} (hdev : s.devId < 4096) (r : W64) (fl : Flags) (wide : Bool) :
    let h := header1 s r fl wide
    bits h 63 52 = routeDev s r ∧ bits h 51 31 = bits r 42 22 ∧ bits h 30 26 = bits r 21 17 ∧ bitOf h 25 = fl.last ∧
      bitOf h 24 = fl.scaled ∧ bitOf h 23 = fl.eos ∧ bitOf h 22 = fl.esheaf ∧ bitOf h 21 = fl.taint ∧
      bits h 20 15 = fl.seq % 64 ∧ bits h 14 12 = (if wide then 1 else 0) ∧ bits h 11 0 = 0 := by
  obtain ⟨hdev, hplace, hvc, hlast, hscaled, heos, hesheaf, htaint, hseq, hwide, hzero⟩ :=
    bits_headerWord (routeDev_lt hdev r) (bits_lt r 42 22) (bits_lt r 21 17) (ofBool_le fl.last) (ofBool_le fl.scaled) (ofBool_le fl.eos)
      (ofBool_le fl.esheaf) (ofBool_le fl.taint) (Nat.mod_lt fl.seq (by decide : 0 < 64)) (ofBool_le wide)
  simp only [bitOf_eq_decide_bits]
  exact ⟨hdev, hplace, hvc, hlast ▸ decide_ofBool _, hscaled ▸ decide_ofBool _, heos ▸ decide_ofBool _, hesheaf ▸ decide_ofBool _,
    htaint ▸ decide_ofBool _, hseq, hwide, hzero⟩

/-- Settles O12: each kind of route by the coordinate that it opens, counts or drops, and the header by its fields. -/
theorem timestampsAndHeaders : Obligations.TimestampsAndHeaders := by
  refine ⟨fun t n hwf => ?_, fun s r fl wide hdev => header1_fields hdev r fl wide⟩
  refine ⟨rfl, rfl, rfl, rfl, rfl, fun hd hn => tsOnRoute_ingress hwf hd hn, fun hd hc => tsOnRoute_feedback hwf hd hc,
    fun hd => tsOnRoute_egress hwf hd, fun hd => ⟨?_, ?_⟩, fun hd => ?_, fun hd hc => tsOnRoute_feedback_overflow hd hc⟩
  · rw [tsOnRoute_three, if_pos hd]
  · rw [tsOnRoute_four, if_pos hd]
  · rw [tsOnRoute_two, if_pos hd]

end Sys2Proof.Machine
end

section
/-! Sends and the other instructions that place something in the commit buffer: what they answer once the buffer is free for their firing (R100,
R168, R190 to R193, R444). -/

namespace Sys2Proof.Machine

open Safety (Issues CompletesAs)

/-! ## The commit buffer -/

section
variable {o : Ops} {s : State} {e : Nat} {f : Firing} (h : Issues s e f)
include h

/-- Where the buffer is free for the firing and accepts what the instruction places there, the instruction completes. -/
theorem buffered_ok {k : Nat → Firing → Except Why Firing} {g : Firing} (hk : k e f = .ok g) :
    buffered o s k = .next (finish s o (.firing e g)) := by
  obtain ⟨hagent, hfree⟩ := h
  simp [buffered, withFiring, hagent, hfree, hk]

/-- A send of A completes where its scalar is a container and its route accepts it (R72, R190). -/
theorem sendValue_ok {route : Agent → Nat} {fl : Agent → Flags} {widen : Bool} {g : Firing}
    (hc : o.sh = .scalar → containerBad (.bits o.ty) (src s (.firing e f) o (.bits o.ty) o.a false 0) = false)
    (hg : issueSend s e f (route (.firing e f)) (fl (.firing e f)) (sendPayload s (.firing e f) o) widen = .ok g) :
    sendValue o s route fl widen = .next (finish s o (.firing e g)) := by
  refine buffered_ok h ?_
  dsimp only
  rw [if_neg (by simpa using hc), hg]
end

/-! ## Fields of the send form (R44) -/

theorem sendRoute_eq (o : Ops) : sendRoute o = o.x.toNat / 2 ^ 24 % 32 := 
  congrArg (· % 32) (Nat.shiftRight_eq_div_pow o.x.toNat 24)
theorem sendSeq_eq (o : Ops) : sendSeq o = o.x.toNat / 2 ^ 17 % 64 := 
  congrArg (· % 64) (Nat.shiftRight_eq_div_pow o.x.toNat 17)
theorem sendLast_eq (o : Ops) : sendLast o = o.x.toNat.testBit 23 := rfl

/-- Settles O14: each instruction is a send of A, of nothing or of a matched token, and completes where its route accepts it. -/
theorem sendingInstructionsComplete : Obligations.SendingInstructionsComplete := by
  intro o s e f h
  dsimp only
  rw [← sendRoute_eq, ← sendSeq_eq]
  intro hc
  refine ⟨fun g hg => ?send, fun g hg => ?scalm, fun g hg => ?widen, fun g hg => ?seq, fun g hg => ?sendl, fun g hg => ?steer,
    fun g hg => ?eos, fun t ht g hg => ?chain⟩
  case send => exact (sendValue_ok h hc hg : execSend o s = _)
  case scalm => exact (sendValue_ok h hc hg : execScalm o s = _)
  case widen => exact (sendValue_ok h hc hg : execWiden o s = _)
  case seq => exact (sendValue_ok h hc hg : execSeq o s = _)
  case sendl => exact (sendValue_ok h hc hg : execSendl o s = _)
  case steer => exact (sendValue_ok h hc hg : execSteer o s = _)
  case eos => exact (buffered_ok h hg : execEos o s = _)
  case chain =>
    refine (buffered_ok h ?_ : execChain o s = _)
    simp only [ht]
    exact hg

/-! ## TSGET with SEL 6 (R193) -/

/-- The fields of TSGET t0, t1 with SEL 6, which R193 makes ill-formed. -/
def selSix : Ops := { e := false, ty := .b64, sh := .scalar, m := 0, d := .t 0, a := .t 1, b := .zero, x := 6 }

/-- A firing that holds in t1 a word of depth 0 whose c0 is 0 and whose bits [12:1], the place of c3, hold 3. -/
def selSixFiring : Firing := { (default : Firing) with t := [0, 6] }

/-- Element 0 moves, with that firing. -/
def selSixState : State :=
  { State.reset.setElem 0 { State.reset.elem 0 with firing := some selSixFiring } with actor := .element 0 }

/-- What t0 of element 0's firing holds after an instruction. -/
def firstTemp : Host.Outcome State Fault Refusal → Option W64
  | .next t => (t.elem 0).firing.map fun f => f.t.getD 0 0
  | .fault _ => none
  | .refused _ => none

/-- The model answers the bits of c3. -/
theorem firstTemp_tsget_selSix : firstTemp (exec (.tsget selSix) selSixState) = some 3 := by decide +kernel

theorem issues_selSix : Issues selSixState 0 selSixFiring := ⟨rfl, by decide +kernel⟩

/-- Refutes O15 by its clause on TSGET, which speaks of every SEL: for SEL 6, which no well-formed TSGET has (R193), it names the innermost
coordinate, here c0, which is 0, and the model answers the bits of c3, which are 3. -/
theorem not_requestMusterAndTimestampInstructions : ¬ Obligations.RequestMusterAndTimestampInstructions := by
  intro h
  obtain ⟨-, -, -, -, htsget⟩ := h selSix selSixState 0 selSixFiring issues_selSix
  have hmodel := firstTemp_tsget_selSix
  rw [htsget] at hmodel
  revert hmodel
  decide +kernel

end Sys2Proof.Machine
end

section
/-! The events of the waymark protocol: admission at the gate (R175), batches and their application at the home (R186, R189), acknowledgements,
and milestones (R181, R187). -/

namespace Sys2Proof.Machine

/-! ## What a home aggregator counts -/

/-- The counts and the pending requests of a region's home aggregator, which batches on their way to it leave alone. -/
def State.waymarked (s : State) (image : Nat) : List Count × List Pending := ((s.home image).counts, (s.home image).pending)

theorem home_counts_eq (s : State) (i : Nat) : (s.home i).counts = (s.waymarked i).1 := rfl
theorem home_pending_eq (s : State) (i : Nat) : (s.home i).pending = (s.waymarked i).2 := rfl

/-- It is enough to look at both branches of a choice. -/
@[simp] theorem waymarked_ite (c : Prop) [Decidable c] (s t : State) (i : Nat) :
    (if c then s else t).waymarked i = if c then s.waymarked i else t.waymarked i := apply_ite (fun u => u.waymarked i) c s t

@[simp] theorem waymarked_setCluster (s : State) (c : Nat) (x : Cluster) (i : Nat) : (s.setCluster c x).waymarked i = s.waymarked i := rfl
@[simp] theorem waymarked_putSlot (s : State) (cl : Nat) (x : Slot) (i : Nat) : (putSlot s cl x).waymarked i = s.waymarked i := rfl
@[simp] theorem waymarked_out (s : State) (l : List Sent) (i : Nat) : ({ s with out := l } : State).waymarked i = s.waymarked i := rfl

@[simp] theorem waymarked_freeEmptySlots (s : State) (cl i : Nat) : (freeEmptySlots s cl).waymarked i = s.waymarked i := by
  simp only [freeEmptySlots, waymarked_ite, waymarked_setCluster, ite_self]

/-- A home aggregator that keeps what it counts leaves what every home aggregator counts. -/
theorem waymarked_setHome {s : State} {k : Nat} {x : Home} (hx : (x.counts, x.pending) = s.waymarked k) (i : Nat) :
    (s.setHome k x).waymarked i = s.waymarked i := by
  rw [State.waymarked]
  by_cases hi : i = k
  · rw [hi, State.home_setHome, hx]
  · rw [State.home_setHome_ne hi, State.waymarked]

@[simp] theorem waymarked_closeBatch (s : State) (cl : Nat) (x : Slot) (i : Nat) : (closeBatch s cl x).waymarked i = s.waymarked i := by
  unfold closeBatch
  split
  · rfl
  · dsimp only
    rw [waymarked_ite, waymarked_out, waymarked_setHome, ite_self, waymarked_freeEmptySlots, waymarked_putSlot] <;> rfl

@[simp] theorem waymarked_recordMark (s : State) (cl image : Nat) (m : Mark) (i : Nat) :
    (recordMark s cl image m).1.waymarked i = s.waymarked i := by
  unfold recordMark
  split
  · rfl
  · simp only [waymarked_ite, waymarked_closeBatch, waymarked_putSlot, ite_self]

@[simp] theorem waymarked_dropCounted (s : State) (t : Token) (i : Nat) : (dropCounted s t).waymarked i = s.waymarked i := by
  unfold dropCounted
  split
  · exact waymarked_recordMark ..
  · rfl

/-- Launching a token moves no count and no pending request: what it may record goes to a frontier unit. -/
@[simp] theorem waymarked_launch (s : State) (tok : Token) (src : Option (Nat × Nat)) (net : Nat) (origin : Option Nat) (i : Nat) :
    (launch s tok src net origin).waymarked i = s.waymarked i := by
  unfold launch
  dsimp only
  split
  · rfl
  · split
    · split
      · exact waymarked_dropCounted ..
      · rfl
    · exact waymarked_dropCounted ..

/-- A token of this device goes onto its network. -/
theorem launch_near {s : State} {tok : Token} {src : Option (Nat × Nat)} {net : Nat} {origin : Option Nat}
    (h : locDev (tokLoc tok) = s.devId) : launch s tok src net origin =
      { s with net := s.net ++ [{ tok := tok, src := src, net := net, origin := origin }] } := by
  rw [launch, if_pos h]

/-! ## Activations (R175) -/

/-- Whether an activation of a loop is in flight at a home aggregator. -/
theorem act_any_iff (l : List Act) (n : Nat) (p : W64) :
    (l.any fun a => a.loop == n && a.pfx == p) = true ↔ ∃ a ∈ l, a.loop = n ∧ a.pfx = p := by
  simp

/-- Loop 0, which is no loop, and an activation in flight already change nothing. -/
theorem takeAct_of_inFlight {u : State} {image l : Nat} {p : W64}
    (h : l = 0 ∨ ∃ a ∈ (u.home image).acts, a.loop = l ∧ a.pfx = p) : takeAct u image l p = u := by
  rw [← act_any_iff] at h
  rw [takeAct, if_pos]
  rcases h with h | h
  · simp [h]
  · simp [h]

/-- An activation is noted at its home aggregator, or nothing changes. -/
theorem takeAct_cases (u : State) (image l : Nat) (p : W64) : takeAct u image l p = u ∨
    takeAct u image l p =
      u.setHome image { u.home image with acts := (u.home image).acts ++ [{ loop := l, pfx := p, applied := false }] } := by
  unfold takeAct
  dsimp only
  split
  · exact .inl rfl
  · exact .inr rfl

/-- A loop's activation is in flight once it has been noted where its region's home is on this device. -/
theorem takeAct_inFlight {u : State} {image l : Nat} (p : W64) (hl : l ≠ 0) (hhome : homedAway u image = false) :
    ∃ a ∈ ((takeAct u image l p).home image).acts, a.loop = l ∧ a.pfx = p := by
  by_cases h : ∃ a ∈ (u.home image).acts, a.loop = l ∧ a.pfx = p
  · rwa [takeAct_of_inFlight (.inr h)]
  · rw [← act_any_iff, Bool.not_eq_true] at h
    rw [takeAct, if_neg (by simp [hl, hhome, h]), State.home_setHome]
    exact ⟨{ loop := l, pfx := p, applied := false }, by simp, rfl, rfl⟩

theorem takeAct_keeps {u : State} {image : Nat} {a : Act} (l : Nat) (p : W64) (ha : a ∈ (u.home image).acts) :
    a ∈ ((takeAct u image l p).home image).acts := by
  rcases takeAct_cases u image l p with h | h <;> rw [h]
  · exact ha
  · rw [State.home_setHome]
    exact List.mem_append_left _ ha

theorem takeAct_home_ne {u : State} {image i : Nat} (l : Nat) (p : W64) (hi : i ≠ image) :
    (takeAct u image l p).home i = u.home i := by
  rcases takeAct_cases u image l p with h | h <;> rw [h]
  rw [State.home_setHome_ne hi]

/-- An activation is noted at a home aggregator and nowhere else. -/
theorem takeAct_eq (u : State) (image l : Nat) (p : W64) : takeAct u image l p = { u with homes := (takeAct u image l p).homes } := by
  rcases takeAct_cases u image l p with h | h
  · rw [h]
  · rw [h] <;> rfl

@[simp] theorem takeAct_mem (u : State) (image l : Nat) (p : W64) : (takeAct u image l p).mem = u.mem :=
  (congrArg State.mem (takeAct_eq u image l p) :)
@[simp] theorem takeAct_net (u : State) (image l : Nat) (p : W64) : (takeAct u image l p).net = u.net :=
  (congrArg State.net (takeAct_eq u image l p) :)
@[simp] theorem takeAct_out (u : State) (image l : Nat) (p : W64) : (takeAct u image l p).out = u.out :=
  (congrArg State.out (takeAct_eq u image l p) :)
@[simp] theorem takeAct_clusters (u : State) (image l : Nat) (p : W64) : (takeAct u image l p).clusters = u.clusters :=
  (congrArg State.clusters (takeAct_eq u image l p) :)

/-- Every activation of loop 0 is admitted. -/
theorem admits_zero (s : State) (image : Nat) (p : W64) : admits s image 0 p = true := by
  unfold admits
  dsimp only
  split <;> rfl

/-! ## Admission at the gate (R175, R312, R313) -/

/-- Whether a send of the same route and outer coordinates waits before the k-th of a gate queue. -/
def gateBehind (s : State) (g : Gated) : Bool :=
  ((s.cluster s.event.unit).gate.take s.event.index).any fun h => h.src == g.src && h.prefixTs == g.prefixTs

/-- The state in which the k-th send of a gate queue has been admitted and has left it. -/
def gateAdmitted (s : State) (g : Gated) : State :=
  let cl := s.event.unit
  let u := (g.toks.map Token.region).eraseDups.foldl (fun s i => takeAct s i g.loop g.prefixTs) s
  let u := u.setCluster cl { u.cluster cl with gate := (u.cluster cl).gate.eraseIdx s.event.index }
  let r := countAll (chargeUnits u cl (some (ctxImage u g.elem (gatedCtx u g)))) cl g.toks true
  ungate (r.2.foldl (fun t k => launch t k (some g.src) g.net none) r.1) g

/-- A send of a gate queue leaves where no such send waits before it, each of its regions admits it, and the units have room. -/
theorem gate_of_some {s : State} {g : Gated} (hkind : s.event.kind ≠ 1)
    (hg : (s.cluster s.event.unit).gate[s.event.index]? = some g) :
    exec .gateAdmissionGrant s = .next (
      if gateBehind s g || !((g.toks.map Token.region).eraseDups.all fun i => admits s i g.loop g.prefixTs)
        || !unitRoom s s.event.unit (g.toks.map tokStamp) then s else gateAdmitted s g) := by
  change execGateAdmissionGrant s = _
  unfold execGateAdmissionGrant
  dsimp only
  rw [if_neg hkind, hg]
  dsimp only
  rw [Bool.not_not] <;> rfl

/-- Asking each region of a send's copies once is asking for each copy. -/
theorem all_admits_regions_eq (s : State) (g : Gated) : ((g.toks.map Token.region).eraseDups.all fun i => admits s i g.loop g.prefixTs) =
    g.toks.all fun t => admits s t.region g.loop g.prefixTs := by
  rw [Bool.eq_iff_iff]
  simp

/-- What may happen to the k-th send of a gate queue (R175). -/
theorem gateAdmissionGrant_of_send {s : State} {g : Gated} (hkind : s.event.kind ≠ 1)
    (hg : (s.cluster s.event.unit).gate[s.event.index]? = some g) :
    (gateBehind s g = true → exec .gateAdmissionGrant s = .next s) ∧
    (∀ t ∈ g.toks, admits s t.region g.loop g.prefixTs = false → exec .gateAdmissionGrant s = .next s) ∧
    (gateBehind s g = false → g.loop = 0 ∨ (g.toks.all fun t => admits s t.region g.loop g.prefixTs) = true →
      unitRoom s s.event.unit (g.toks.map tokStamp) = true → exec .gateAdmissionGrant s = .next (gateAdmitted s g)) := by
  rw [gate_of_some hkind hg, all_admits_regions_eq]
  refine ⟨fun hbehind => ?_, fun t ht hno => ?_, fun hfirst hadmits hroom => ?_⟩
  · rw [hbehind, Bool.true_or, Bool.true_or, if_pos rfl]
  · have hall : (g.toks.all fun t => admits s t.region g.loop g.prefixTs) = false := List.all_eq_false.mpr ⟨t, ht, by simp [hno]⟩
    simp [hall]
  · have hall : (g.toks.all fun t => admits s t.region g.loop g.prefixTs) = true := by
      rcases hadmits with hzero | hall
      · simp [hzero, admits_zero]
      · exact hall
    simp [hfirst, hall, hroom]

/-- What the home on this device answers to another device's gate (R175). -/
theorem gateAdmissionGrant_of_asked {s : State} (hkind : s.event.kind = 1) : exec .gateAdmissionGrant s = .next (
    if !homedAway s s.event.addr && admits s s.event.addr s.event.index s.event.w0 then
      { takeAct s s.event.addr s.event.index s.event.w0 with
        out := .admission s.event.addr s.event.index s.event.w0 true :: (takeAct s s.event.addr s.event.index s.event.w0).out }
    else s) := by
  change execGateAdmissionGrant s = _
  unfold execGateAdmissionGrant
  dsimp only
  rw [if_pos hkind]

/-! ## Batches (R186, R189) -/

/-- A slot's open batch closes once it is old or full, and the unit below its limit. -/
theorem batchClose_of_open {s : State} {x : Slot} {b : Batch} (hx : (s.cluster s.event.unit).slots[s.event.index]? = some x)
    (hb : x.batch = some b) : exec .batchClose s = .next (
      if (b.opened + 256 ≤ s.clock ∨ 32 ≤ stamps b) ∧ x.unacked.length < 32768 then closeBatch s s.event.unit x else s) := by
  change execBatchClose s = _
  unfold execBatchClose
  dsimp only
  rw [hx]
  dsimp only
  rw [hb]
  simp [Slot.mayForward]

/-- A home aggregator that has applied the oldest batch of a unit, `rest` being those behind it. -/
def afterBatch (s : State) (b : Batch) (rest : List Batch) : Home :=
  let h := s.home s.event.unit
  b.marks.foldl (applyMark s s.event.unit s.event.index b.seq)
    { h with received := Tab.set [] h.received s.event.index rest, applied := Tab.set 0 h.applied s.event.index (b.seq + 1) }

/-- A unit's oldest batch is applied in its turn, where the home has room for its increments. -/
theorem batchApply_of_received {s : State} {b : Batch} {rest : List Batch} (hkind : s.event.kind = 0)
    (hr : Tab.get [] (s.home s.event.unit).received s.event.index = b :: rest) : exec .batchApply s = .next (
      if !b.first && b.seq != Tab.get 0 (s.home s.event.unit).applied s.event.index % 65536 then s
      else if homeCapacity s s.event.unit < (afterBatch s b rest).waymarks ∧
          (s.home s.event.unit).waymarks < (afterBatch s b rest).waymarks then s
      else s.setHome s.event.unit (closeActs s s.event.unit (afterBatch s b rest))) := by
  change execBatchApply s = _
  unfold execBatchApply
  dsimp only
  rw [hkind]
  rw [if_neg (by decide), if_neg (by decide), if_neg (by decide), if_neg (by decide), hr]
  simp only [Bool.and_eq_true, decide_eq_true_eq] <;> rfl

/-! ## Acknowledgements (R186) -/

/-- The acknowledgement vector of the units that forwarded a batch since the last broadcast. -/
def ackVector (s : State) : List (Nat × Nat) :=
  let h := s.home s.event.unit
  (h.fresh.filter fun u => Tab.get 0 h.applied u != 0 && !restarts s s.event.unit u).map fun u => (u, Tab.get 0 h.applied u - 1)

/-- A home aggregator after a broadcast: the vector is on its way to every cluster with a slot of the region, and the units with batches still to
apply stay in the list of changed ones. -/
def ackedHome (s : State) : Home :=
  let h := s.home s.event.unit
  { h with fresh := h.fresh.filter fun u => !(Tab.get [] h.received u).isEmpty,
           acks := h.acks ++ ((List.range 16).filter fun cl => (findSlot s cl s.event.unit).isSome).map fun cl => (cl, ackVector s) }

/-- A broadcast changes its home aggregator, and what leaves for other devices. -/
theorem ackBroadcast_eq (s : State) : ∃ outs, exec .ackBroadcast s = .next { s.setHome s.event.unit (ackedHome s) with out := outs } :=
  ⟨_, rfl⟩

theorem ne_nil_of_mem_ackedHome_fresh {s : State} {u : Nat} (hu : u ∈ (ackedHome s).fresh) :
    Tab.get [] (s.home s.event.unit).received u ≠ [] := by
  obtain ⟨-, hne⟩ := List.mem_filter.mp hu
  simpa using hne

theorem ackedHome_acks_any {s : State} {cl : Nat} (hcl : cl < 16) (hslot : (findSlot s cl s.event.unit).isSome = true) :
    ((ackedHome s).acks.any fun a => a.1 == cl) = true := by
  refine List.any_eq_true.mpr ⟨(cl, ackVector s), List.mem_append_right _ (List.mem_map.mpr ⟨cl, ?_, rfl⟩), beq_self_eq_true cl⟩
  exact List.mem_filter.mpr ⟨List.mem_range.mpr hcl, hslot⟩

/-- A cluster takes the oldest vector that is on its way to it. -/
theorem ackReceive_of_find {s : State} {x : Slot} {a : Nat × List (Nat × Nat)} (hx : findSlot s s.event.unit s.event.index = some x)
    (hflag : s.event.flag = false) (ha : (s.home s.event.index).acks.find? (fun a => a.1 == s.event.unit) = some a) :
    exec .ackReceive s = .next (putSlot
      (s.setHome s.event.index { s.home s.event.index with acks := (s.home s.event.index).acks.erase a }) s.event.unit
      (takeAck s s.event.unit x a.2)) := by
  change execAckReceive s = _
  unfold execAckReceive
  simp only [hx, hflag, ha] <;> rfl

/-! ## Milestones (R181) -/

/-- A pending request is marked as delivered. -/
def delivering (s : State) (p : Pending) : State :=
  let h := s.home s.event.unit
  s.setHome s.event.unit { h with pending := h.pending.map fun q => if q = p then { q with delivered := true } else q }

theorem milestoneDelivery_of_pending {s : State} {p : Pending} (hp : (s.home s.event.unit).pending[s.event.index]? = some p) :
    exec .milestoneDelivery s = .next (
      if deliverable s s.event.unit p then launch (delivering s p) (milestoneToken s.event.unit p) none 2 else s) := by
  change execMilestoneDelivery s = _
  unfold execMilestoneDelivery
  dsimp only
  rw [hp] <;> rfl

/-- A field of a number that stands above bit 32 of a word. -/
theorem bits_word_above {n r : Nat} (hi lo : Nat) (hn : n < 2 ^ 31) (hr : r < 2 ^ 33) :
    bits (word (n * 2 ^ 33 + r)) (hi + 33) (lo + 33) = n / 2 ^ lo % 2 ^ (hi - lo + 1) := by
  have hword : (word (n * 2 ^ 33 + r)).toNat / 2 ^ 33 = n := by
    rw [word, BitVec.toNat_ofNat]
    omega
  rw [bits, Nat.shiftRight_eq_div_pow, Nat.add_comm lo, Nat.pow_add, ← Nat.div_div_eq_div_mul, hword]
  congr 2
  omega

/-- A location is put together from its places in the header (R60). -/
theorem locOf_places {n : Nat} (hn : n < 2 ^ 31) :
    locOf (n / 2 ^ 19 % 2 ^ 12)
      (n / 2 ^ 17 % 2 ^ 2 * 512 + n / 2 ^ 15 % 2 ^ 2 * 128 + n / 2 ^ 11 % 2 ^ 4 * 8 + n / 2 ^ 8 % 2 ^ 3)
      (n / 2 ^ 6 % 2 ^ 2) (n / 2 ^ 3 % 2 ^ 3) (n / 2 ^ 0 % 2 ^ 3) = n := by
  -- each place divides what stands above the one below it
  have hel : n / 2 ^ 6 = n / 2 ^ 3 / 2 ^ 3 := by omega
  have hcx : n / 2 ^ 8 = n / 2 ^ 6 / 2 ^ 2 := by omega
  have hcy : n / 2 ^ 11 = n / 2 ^ 8 / 2 ^ 3 := by omega
  have hcl : n / 2 ^ 15 = n / 2 ^ 11 / 2 ^ 4 := by omega
  have hdie : n / 2 ^ 17 = n / 2 ^ 15 / 2 ^ 2 := by omega
  have hdev : n / 2 ^ 19 = n / 2 ^ 17 / 2 ^ 2 := by omega
  rw [locOf]
  omega

/-- The header of a milestone names the location of its request and the side of the predicate (R60, R181). -/
theorem tokLoc_milestoneToken {p : Pending} (image : Nat) (hloc : p.loc < 2 ^ 31) : tokLoc (milestoneToken image p) = p.loc := by
  have hfield (hi lo : Nat) : bits (milestoneToken image p).h1 (hi + 33) (lo + 33) = p.loc / 2 ^ lo % 2 ^ (hi - lo + 1) := by
    have htaint := ofBool_le p.taint
    rw [milestoneToken, Nat.add_assoc, bits_word_above hi lo hloc (by omega)]
  rw [tokLoc, hfield 30 19, hfield 18 17, hfield 16 15, hfield 14 11, hfield 10 8, hfield 7 6, hfield 5 3, hfield 2 0]
  exact locOf_places hloc

theorem tokSide_milestoneToken (image : Nat) (p : Pending) : tokSide (milestoneToken image p) = 3 := by
  have htaint := ofBool_le p.taint
  simp only [tokSide, milestoneToken, bits, word, BitVec.toNat_ofNat, Nat.shiftRight_eq_div_pow]
  omega

/-- What the delivery of a milestone leaves in its home aggregator. -/
theorem waymarked_launch_delivering (s : State) (p : Pending) (tok : Token) (net : Nat) :
    (launch (delivering s p) tok none net).waymarked s.event.unit = ((s.home s.event.unit).counts,
      (s.home s.event.unit).pending.map fun q => if q = p then { q with delivered := true } else q) := by
  rw [waymarked_launch, delivering, State.waymarked, State.home_setHome]

/-- The delivery of a milestone (R181). -/
theorem milestoneDelivery_of_deliverable {s : State} {p : Pending} (hp : (s.home s.event.unit).pending[s.event.index]? = some p)
    (hdel : deliverable s s.event.unit p = true) : ∃ t, exec .milestoneDelivery s = .next t ∧
      (t.home s.event.unit).counts = (s.home s.event.unit).counts ∧
      (t.home s.event.unit).pending =
        (s.home s.event.unit).pending.map (fun q => if q = p then { q with delivered := true } else q) ∧
      (p.loc / 2 ^ 19 = s.devId → p.loc < 2 ^ 31 →
        ∃ f, t.net = s.net ++ [f] ∧ f.net = 2 ∧ f.tok.ts = p.s ∧ tokLoc f.tok = p.loc ∧ tokSide f.tok = 3) := by
  have hleft := waymarked_launch_delivering s p (milestoneToken s.event.unit p) 2
  refine ⟨launch (delivering s p) (milestoneToken s.event.unit p) none 2, ?_, ?_, ?_, fun hdev hloc => ?_⟩
  · rw [milestoneDelivery_of_pending hp, if_pos hdel]
  · rw [home_counts_eq (launch ..), hleft]
  · rw [home_pending_eq (launch ..), hleft]
  · have hat := tokLoc_milestoneToken s.event.unit hloc
    rw [launch_near (by rw [hat]; exact hdev)]
    exact ⟨_, rfl, rfl, rfl, hat, tokSide_milestoneToken ..⟩

/-! ## The protocol -/

/-- Settles O46: each event by what it answers, and what it leaves in the home aggregator. -/
theorem waymarkProtocolEvents : Obligations.WaymarkProtocolEvents := by
  intro s
  dsimp only
  refine ⟨fun g hkind hg => gateAdmissionGrant_of_send hkind hg, fun hkind => ⟨fun hno => ?asked, fun hhome hadmits => ?granted⟩,
    fun u image l p => ?activation, fun x b hx hb => ?close, fun b rest hkind hr => ?apply, ?broadcast,
    fun x a hx hflag ha => ackReceive_of_find hx hflag ha,
    fun p hp => ⟨fun hdel => milestoneDelivery_of_deliverable hp hdel, fun hdel => ?undeliverable⟩⟩
  case asked =>
    rw [gateAdmissionGrant_of_asked hkind]
    rcases hno with h | h
    · simp [h]
    · simp [h]
  case granted =>
    rw [gateAdmissionGrant_of_asked hkind, hhome, hadmits]
    exact ⟨_, rfl, congrArg _ (takeAct_out ..), takeAct_mem .., takeAct_net .., rfl⟩
  case activation =>
    exact ⟨fun hl hhome => takeAct_inFlight p hl hhome, fun a ha => takeAct_keeps l p ha, takeAct_of_inFlight,
      fun i hi => takeAct_home_ne l p hi, takeAct_clusters ..⟩
  case close =>
    rw [batchClose_of_open hx hb]
    refine ⟨fun hdue hroom => ?_, fun hyoung hfew => ?_, fun hfull => ?_⟩
    · rw [if_pos ⟨hdue, hroom⟩]
    · rw [if_neg (by omega)]
    · rw [if_neg (by omega)]
  case apply =>
    rw [batchApply_of_received hkind hr]
    refine ⟨fun hfirst hseq => ?_, fun hturn => ?_⟩
    · rw [if_pos (by simp [hfirst, hseq])]
    · rw [if_neg (by rcases hturn with h | h <;> simp [h])]
      exact ⟨fun hcap hmore => congrArg _ (if_pos ⟨hcap, hmore⟩),
        fun hroom => congrArg _ (if_neg fun ⟨hcap, hmore⟩ => hroom.elim (Nat.not_le_of_lt hcap) (Nat.not_le_of_lt hmore))⟩
  case broadcast =>
    obtain ⟨outs, heq⟩ := ackBroadcast_eq s
    refine ⟨_, heq, ?_⟩
    have hhome : ({ s.setHome s.event.unit (ackedHome s) with out := outs } : State).home s.event.unit = ackedHome s := State.home_setHome
    rw [hhome]
    exact ⟨fun u hu => ne_nil_of_mem_ackedHome_fresh hu, rfl, rfl, fun cl hcl hslot => ackedHome_acks_any hcl hslot⟩
  case undeliverable =>
    rw [milestoneDelivery_of_pending hp, if_neg (by simp [hdel])]

end Sys2Proof.Machine
end

section
/-! Coordinate-value streams and masked values: blocks of coordinates (R297), what two of them share (R298), their merge (R299), and the
condensing of packed rows (R270). -/

namespace Sys2Proof.Machine

/-! ## Lists of digits -/

/-- A list of digits packs into as many bits as they have places. -/
theorem packNum_lt (w : Nat) : (l : List Nat) → packNum w l < 2 ^ (w * l.length)
  | [] => Nat.one_pos
  | x :: rest => by
    calc packNum w (x :: rest)
      _ < 2 ^ w + 2 ^ w * packNum w rest := Nat.add_lt_add_right (Nat.mod_lt x (Nat.two_pow_pos w)) _
      _ = 2 ^ w * (packNum w rest + 1) := by rw [Nat.mul_add_one, Nat.add_comm]
      _ ≤ 2 ^ w * 2 ^ (w * rest.length) := Nat.mul_le_mul_left _ (packNum_lt w rest)
      _ = 2 ^ (w * (x :: rest).length) := by rw [← Nat.pow_add, List.length_cons, Nat.mul_add_one, Nat.add_comm]

/-- Digits of one bit are the bits of the number that they pack into. -/
theorem testBit_packNum_marks (p : Nat → Bool) (l : List Nat) (i : Nat) :
    (packNum 1 (l.map fun c => ofBool (p c))).testBit i = l[i]?.any p := by
  induction l generalizing i with
  | nil => simp [packNum]
  | cons c rest ih =>
    have hlow : ofBool (p c) % 2 ^ 1 < 2 ^ 1 := Nat.mod_lt _ (by decide)
    rw [List.map_cons, packNum, Nat.add_comm, Nat.testBit_two_pow_mul_add _ hlow]
    cases i with
    | zero => cases h : p c <;> simp [h, ofBool]
    | succ i => simpa using ih i

/-- A run of digits set into a number at a place leaves those below and above it. -/
theorem testBit_splice {k v : Nat} (n lo i : Nat) (hv : v < 2 ^ k) :
    (n % 2 ^ lo + v * 2 ^ lo + n / 2 ^ (lo + k) * 2 ^ (lo + k)).testBit i =
      if lo ≤ i ∧ i < lo + k then v.testBit (i - lo) else n.testBit i := by
  have hreplace : n % 2 ^ lo + v * 2 ^ lo + n / 2 ^ (lo + k) * 2 ^ (lo + k) =
      n - n >>> lo % 2 ^ k * 2 ^ lo + v % 2 ^ k * 2 ^ lo := by
    have hlow := Nat.mod_add_div n (2 ^ lo)
    have hmid := Nat.mod_add_div (n / 2 ^ lo) (2 ^ k)
    rw [Nat.mod_eq_of_lt hv, Nat.shiftRight_eq_div_pow, Nat.pow_add, ← Nat.div_div_eq_div_mul]
    rw [← hmid, Nat.mul_add, Nat.mul_comm (2 ^ lo), ← Nat.mul_assoc, Nat.mul_comm (2 ^ lo * 2 ^ k)] at hlow
    omega
  rw [hreplace, testBit_replace]
  by_cases hlo : i < lo
  · rw [if_pos hlo, if_neg (by omega)]
  · simp only [if_neg hlo, Nat.not_lt.mp hlo, true_and]

/-! ## Blocks of coordinates (R297) -/

/-- The coordinates of the valid entries of a block. -/
def validCoords (l : List Nat) : List Nat := l.filter fun c => c != noEntry

@[simp] theorem mem_validCoords {l : List Nat} {c : Nat} : c ∈ validCoords l ↔ c ∈ l ∧ c ≠ noEntry := by
  simp [validCoords]

@[simp] theorem length_blockCoords (s : State) (x : Agent) (sp : Spec) : (blockCoords s x sp).length = 32 := by
  simp [blockCoords]

/-- A coordinate is a number of 32 bits, of which `noEntry` is the greatest. -/
theorem le_noEntry_of_mem_blockCoords {s : State} {x : Agent} {sp : Spec} {c : Nat} (h : c ∈ blockCoords s x sp) : c ≤ noEntry := by
  obtain ⟨i, -, rfl⟩ := List.mem_map.mp h
  exact Nat.le_pred_of_lt (Nat.mod_lt _ (by decide))

/-- From a place on at which a block is well formed, its valid entries ascend, beyond the entry before that place. -/
theorem validCoords_of_blockFault {l : List Nat} {prev : Option Nat} {i : Nat} (hmax : ∀ c ∈ l, c ≤ noEntry)
    (h : blockFault prev i l = none) : (validCoords l).Pairwise (· < ·) ∧ ∀ p ∈ prev, ∀ c ∈ validCoords l, p < c := by
  induction l generalizing prev i with
  | nil => simp [validCoords]
  | cons c rest ih =>
    have hrest : ∀ d ∈ rest, d ≤ noEntry := fun d hd => hmax d (List.mem_cons_of_mem c hd)
    rw [blockFault] at h
    by_cases hc : c = noEntry
    · rw [if_pos hc] at h
      obtain ⟨-, hbeyond⟩ := ih hrest h
      have hnil : validCoords (c :: rest) = [] := by
        have hskip : validCoords (c :: rest) = validCoords rest := by simp [validCoords, hc]
        refine List.eq_nil_iff_forall_not_mem.mpr fun d hd => ?_
        rw [hskip] at hd
        exact Nat.not_lt.mpr (hrest d (mem_validCoords.mp hd).1) (hbeyond noEntry rfl d hd)
      simp [hnil]
    · by_cases hany : (prev.any fun p => decide (c ≤ p)) = true
      · simp [hc, hany] at h
      have hprev : ∀ p ∈ prev, p < c := fun p hp => by simpa [Option.mem_def.mp hp] using hany
      rw [if_neg hc, if_neg hany] at h
      obtain ⟨hasc, hbeyond⟩ := ih hrest h
      have hkeep : validCoords (c :: rest) = c :: validCoords rest := by simp [validCoords, hc]
      rw [hkeep]
      refine ⟨List.pairwise_cons.mpr ⟨hbeyond c rfl, hasc⟩, fun p hp d hd => ?_⟩
      rcases List.mem_cons.mp hd with rfl | hd
      · exact hprev p hp
      · exact Nat.lt_trans (hprev p hp) (hbeyond c rfl d hd)

/-- The valid entries of a well-formed block ascend. -/
theorem validCoords_blockCoords_pairwise {s : State} {x : Agent} {sp : Spec} (h : blockFault none 0 (blockCoords s x sp) = none) :
    (validCoords (blockCoords s x sp)).Pairwise (· < ·) :=
  (validCoords_of_blockFault (fun _ => le_noEntry_of_mem_blockCoords) h).1

/-- A stream instruction runs on the coordinates of two well-formed blocks. -/
theorem streamOp_of_wellFormed {o : Ops} {s : State} {x : Agent} (k : Agent → List Nat → List Nat → State) (hx : s.agent = some x)
    (ha : blockFault none 0 (blockCoords s x o.a) = none) (hb : blockFault none 0 (blockCoords s x o.b) = none) :
    streamOp o s k = .next (k x (blockCoords s x o.a) (blockCoords s x o.b)) := by
  simp [streamOp, withAgent, hx, ha, hb]

/-! ## The shared coordinates (R298) -/

theorem heldIn_lt (a b : List Nat) : heldIn a b < 2 ^ a.length := by
  simpa [heldIn] using packNum_lt 1 (a.map fun c => ofBool (c != noEntry && b.contains c))

/-- The mask of a block has the bits of its valid entries that the other block holds. -/
theorem testBit_heldIn {a : List Nat} (b : List Nat) {i : Nat} (hi : i < a.length) :
    (heldIn a b).testBit i = (decide (a.getD i 0 ≠ noEntry) && decide (a.getD i 0 ∈ b)) := by
  have hget : a[i]? = some (a.getD i 0) := by simp [hi]
  rw [heldIn, testBit_packNum_marks, hget, Option.any_some, Bool.eq_iff_iff]
  simp

/-- The two masks of ISECT stand side by side. -/
theorem heldIn_beside {a b : List Nat} (ha : a.length = 32) (hb : b.length = 32) :
    heldIn a b + heldIn b a * 2 ^ 32 < 2 ^ 64 ∧ ∀ i < 32,
      (heldIn a b + heldIn b a * 2 ^ 32).testBit i = (heldIn a b).testBit i ∧
      (heldIn a b + heldIn b a * 2 ^ 32).testBit (32 + i) = (heldIn b a).testBit i := by
  have hlow : heldIn a b < 2 ^ 32 := ha ▸ heldIn_lt a b
  have hhigh : heldIn b a < 2 ^ 32 := hb ▸ heldIn_lt b a
  refine ⟨by omega, fun i hi => ?_⟩
  rw [Nat.add_comm, Nat.mul_comm, Nat.testBit_two_pow_mul_add _ hlow, Nat.testBit_two_pow_mul_add _ hlow,
    if_pos hi, if_neg (by omega), Nat.add_sub_cancel_left]
  exact ⟨rfl, rfl⟩

/-! ## The merge of two streams (R299) -/

/-- The union of two lists holds what either holds, where its fuel reaches through both. -/
theorem mem_unionAsc {n : Nat} {as bs : List Nat} {c : Nat} (hn : as.length + bs.length ≤ n) :
    c ∈ unionAsc n as bs ↔ c ∈ as ∨ c ∈ bs := by
  fun_induction unionAsc n as bs with
  | case1 as bs =>
    obtain ⟨ha, hb⟩ := Nat.add_eq_zero_iff.mp (Nat.le_zero.mp hn)
    simp [List.eq_nil_of_length_eq_zero ha, List.eq_nil_of_length_eq_zero hb]
  | case2 n bs => simp
  | case3 n as hne => simp
  | case4 n a as b bs hlt ih =>
    rw [List.mem_cons, ih (by simp only [List.length_cons] at hn ⊢; omega), List.mem_cons (b := a), or_assoc]
  | case5 n a as b bs hge hlt ih =>
    rw [List.mem_cons, ih (by simp only [List.length_cons] at hn ⊢; omega), List.mem_cons (b := b), or_left_comm]
  | case6 n a as b bs hge hle ih =>
    obtain rfl : a = b := by omega
    rw [List.mem_cons, ih (by simp only [List.length_cons] at hn ⊢; omega), List.mem_cons, List.mem_cons, or_or_distrib_left]

/-- The union of two ascending lists ascends. -/
theorem pairwise_unionAsc {n : Nat} {as bs : List Nat} (hn : as.length + bs.length ≤ n) (ha : as.Pairwise (· < ·))
    (hb : bs.Pairwise (· < ·)) : (unionAsc n as bs).Pairwise (· < ·) := by
  fun_induction unionAsc n as bs with
  | case1 as bs => exact .nil
  | case2 n bs => exact hb
  | case3 n as hne => exact ha
  | case4 n a as b bs hlt ih =>
    have hrest : as.length + (b :: bs).length ≤ n := by simp only [List.length_cons] at hn ⊢; omega
    obtain ⟨hfirst, hasc⟩ := List.pairwise_cons.mp ha
    refine .cons (fun c hc => ?_) (ih hrest hasc hb)
    rcases (mem_unionAsc hrest).mp hc with hc | hc
    · exact hfirst c hc
    · rcases List.mem_cons.mp hc with rfl | hc
      · exact hlt
      · exact Nat.lt_trans hlt (List.rel_of_pairwise_cons hb hc)
  | case5 n a as b bs hge hlt ih =>
    have hrest : (a :: as).length + bs.length ≤ n := by simp only [List.length_cons] at hn ⊢; omega
    obtain ⟨hfirst, hasc⟩ := List.pairwise_cons.mp hb
    refine .cons (fun c hc => ?_) (ih hrest ha hasc)
    rcases (mem_unionAsc hrest).mp hc with hc | hc
    · rcases List.mem_cons.mp hc with rfl | hc
      · exact hlt
      · exact Nat.lt_trans hlt (List.rel_of_pairwise_cons ha hc)
    · exact hfirst c hc
  | case6 n a as b bs hge hle ih =>
    obtain rfl : a = b := by omega
    have hrest : as.length + bs.length ≤ n := by simp only [List.length_cons] at hn ⊢; omega
    obtain ⟨hfirsta, hasca⟩ := List.pairwise_cons.mp ha
    obtain ⟨hfirstb, hascb⟩ := List.pairwise_cons.mp hb
    exact .cons (fun c hc => ((mem_unionAsc hrest).mp hc).elim (hfirsta c) (hfirstb c)) (ih hrest hasca hascb)

/-- A member of an ascending list is among its first n, or beyond n of them. -/
theorem mem_take_or_beyond {l : List Nat} {c : Nat} (n : Nat) (hasc : l.Pairwise (· < ·)) (hc : c ∈ l) :
    c ∈ l.take n ∨ ((l.take n).length = n ∧ ∀ d ∈ l.take n, d < c) := by
  rw [← List.take_append_drop n l] at hasc hc
  obtain ⟨-, -, hbefore⟩ := List.pairwise_append.mp hasc
  refine (List.mem_append.mp hc).imp_right fun hdrop => ⟨?_, fun d hd => hbefore d hd c hdrop⟩
  have hlen := List.length_pos_of_mem hdrop
  rw [List.length_drop] at hlen
  exact List.length_take_of_le (by omega)

/-- Whether a coordinate lies up to the last valid one of both blocks, an empty block setting no limit. -/
def mergeLimit (a b : List Nat) (c : Nat) : Bool :=
  (lastCoord a).all (fun l => decide (c ≤ l)) && (lastCoord b).all fun l => decide (c ≤ l)

/-- The valid coordinates of `l` within the limit that `a` and `b` set. -/
def mergePick (a b l : List Nat) : List Nat := l.filter fun c => c != noEntry && mergeLimit a b c

/-- The coordinates that SMERGE writes: the first 32 of the union. -/
def mergeCoords (a b : List Nat) : List Nat := (unionAsc 65 (mergePick a b a) (mergePick a b b)).take 32

/-- The value that SMERGE writes beside a coordinate of the blocks `a` and `b`. -/
def mergeValue (s : State) (x : Agent) (o : Ops) (a b : List Nat) (c : Nat) : Nat :=
  let value := fun (sp : Spec) (l : List Nat) => src s x o (.typed o.ty) sp true (32 + l.idxOf c)
  if a.contains c && b.contains c then sumStep o.ty o.m (value o.a a) (value o.b b)
  else if a.contains c then value o.a a else value o.b b

/-- The coordinates that R299 merges: the valid ones of either block up to the last valid one of each block that has any. -/
def MergeWanted (a b : List Nat) (c : Nat) : Prop :=
  c ≠ noEntry ∧ (c ∈ a ∨ c ∈ b) ∧ ((∃ d ∈ a, d ≠ noEntry) → ∃ d ∈ a, d ≠ noEntry ∧ c ≤ d) ∧
    ((∃ d ∈ b, d ≠ noEntry) → ∃ d ∈ b, d ≠ noEntry ∧ c ≤ d)

/-- A coordinate is up to the last valid one of a block exactly where some valid one, if there is any, reaches it. -/
theorem lastCoord_all_iff {l : List Nat} {c : Nat} :
    (lastCoord l).all (fun m => decide (c ≤ m)) = true ↔ ((∃ d ∈ l, d ≠ noEntry) → ∃ d ∈ l, d ≠ noEntry ∧ c ≤ d) := by
  change (validCoords l).max?.all _ = true ↔ _
  cases hmax : (validCoords l).max? with
  | none =>
    have hnil : validCoords l = [] := List.max?_eq_none_iff.mp hmax
    have hnone : ¬ ∃ d ∈ l, d ≠ noEntry := fun ⟨d, hd⟩ => by simpa [hnil] using mem_validCoords.mpr hd
    simp only [Option.all_none, true_iff]
    exact fun h => absurd h hnone
  | some m =>
    obtain ⟨hm, hge⟩ := List.max?_eq_some_iff.mp hmax
    obtain ⟨hmem, hvalid⟩ := mem_validCoords.mp hm
    simp only [Option.all_some, decide_eq_true_eq]
    refine ⟨fun hc _ => ⟨m, hmem, hvalid, hc⟩, fun h => ?_⟩
    obtain ⟨d, hd, hdv, hcd⟩ := h ⟨m, hmem, hvalid⟩
    exact Nat.le_trans hcd (hge d (mem_validCoords.mpr ⟨hd, hdv⟩))

theorem mem_mergePick {a b l : List Nat} {c : Nat} : c ∈ mergePick a b l ↔ c ∈ l ∧ c ≠ noEntry ∧ mergeLimit a b c = true := by
  simp [mergePick]

theorem pairwise_mergePick {a b l : List Nat} (h : (validCoords l).Pairwise (· < ·)) : (mergePick a b l).Pairwise (· < ·) := by
  have hpick : mergePick a b l = (validCoords l).filter (mergeLimit a b) := by
    simp [mergePick, validCoords, List.filter_filter, Bool.and_comm]
  rw [hpick]
  exact h.filter _

theorem length_mergePick_le (a b l : List Nat) : (mergePick a b l).length ≤ l.length := List.length_filter_le ..

section
variable {a b : List Nat} (hlen : a.length + b.length ≤ 65)
include hlen

/-- The union that SMERGE takes reaches through both picks. -/
theorem length_mergePicks_le : (mergePick a b a).length + (mergePick a b b).length ≤ 65 :=
  Nat.le_trans (Nat.add_le_add (length_mergePick_le a b a) (length_mergePick_le a b b)) hlen

/-- The union that SMERGE takes is what R299 merges. -/
theorem mem_union_mergePick_iff {c : Nat} : c ∈ unionAsc 65 (mergePick a b a) (mergePick a b b) ↔ MergeWanted a b c := by
  rw [mem_unionAsc (length_mergePicks_le hlen), mem_mergePick, mem_mergePick, ← or_and_right, mergeLimit, Bool.and_eq_true,
    lastCoord_all_iff, lastCoord_all_iff, and_left_comm]
  rfl

/-- Only what R299 merges is written. -/
theorem mergeWanted_of_mem {c : Nat} (hc : c ∈ mergeCoords a b) : MergeWanted a b c :=
  (mem_union_mergePick_iff hlen).mp (List.mem_of_mem_take hc)

variable (ha : (validCoords a).Pairwise (· < ·)) (hb : (validCoords b).Pairwise (· < ·))
include ha hb

theorem pairwise_union_mergePick : (unionAsc 65 (mergePick a b a) (mergePick a b b)).Pairwise (· < ·) :=
  pairwise_unionAsc (length_mergePicks_le hlen) (pairwise_mergePick ha) (pairwise_mergePick hb)

/-- What R299 merges is written, or lies beyond 32 coordinates that are. -/
theorem mem_mergeCoords_or_beyond {c : Nat} (hc : MergeWanted a b c) :
    c ∈ mergeCoords a b ∨ ((mergeCoords a b).length = 32 ∧ ∀ d ∈ mergeCoords a b, d < c) :=
  mem_take_or_beyond 32 (pairwise_union_mergePick hlen ha hb) ((mem_union_mergePick_iff hlen).mpr hc)

end

/-! ## Condensed rows (R270) -/

/-- The values at one place of all the whole rows of 64 of a payload take at most 32 bits. -/
theorem width_mul_rows_le (t : Ty) : Ty.width t * (2048 / Ty.width t / 64) ≤ 32 := by
  cases t <;> decide

theorem length_payloadValues (s : State) (x : Agent) (o : Ops) : (payloadValues s x o).length = 2048 / Ty.width o.ty := by
  simp [payloadValues]

/-- The values at the places of a mask, row after row of 64. -/
def condensed (vals : List Nat) (b : Nat) : List Nat :=
  (List.range (vals.length / 64)).flatMap fun r => ((List.range 64).filter fun i => b.testBit i).map fun m => vals.getD (64 * r + m) 0

theorem length_condensed (vals : List Nat) (b : Nat) : (condensed vals b).length = vals.length / 64 * popCount 64 b := by
  simp only [condensed, popCount, List.countP_eq_length_filter, List.length_flatMap, List.length_map, List.length_range, List.map_const',
    List.sum_replicate_nat]

/-- The condensed rows of a payload fit the block that R270 writes. -/
theorem packNum_condensed_lt (s : State) (x : Agent) (o : Ops) (b : Nat) :
    packNum (Ty.width o.ty) (condensed (payloadValues s x o) b) < 2 ^ (32 * popCount 64 b) := by
  refine Nat.lt_of_lt_of_le (packNum_lt ..) (Nat.pow_le_pow_right (by decide) ?_)
  rw [length_condensed, length_payloadValues, ← Nat.mul_assoc]
  exact Nat.mul_le_mul_right _ (width_mul_rows_le o.ty)

/-! ## The instructions -/

/-- ISECT on two well-formed blocks. -/
theorem isect_of_wellFormed {o : Ops} {s : State} {x : Agent} (hx : s.agent = some x)
    (ha : blockFault none 0 (blockCoords s x o.a) = none) (hb : blockFault none 0 (blockCoords s x o.b) = none) :
    exec (.isect o) s = .next (finish s o (x.setScalar o.d
      (heldIn (blockCoords s x o.a) (blockCoords s x o.b) + heldIn (blockCoords s x o.b) (blockCoords s x o.a) * 2 ^ 32))) := by
  change execIsect o s = _
  rw [execIsect, streamOp_of_wellFormed _ hx ha hb, finishScalar]

/-- SMERGE on two well-formed blocks. -/
theorem smerge_of_wellFormed {o : Ops} {s : State} {x : Agent} (hx : s.agent = some x)
    (ha : blockFault none 0 (blockCoords s x o.a) = none) (hb : blockFault none 0 (blockCoords s x o.b) = none) :
    let a := blockCoords s x o.a
    let b := blockCoords s x o.b
    let u := mergeCoords a b
    exec (.smerge o) s = .next (finish s o (x.setVector o.d (vecOfLanes (u ++ List.replicate (32 - u.length) noEntry ++
      u.map (mergeValue s x o a b) ++ List.replicate (32 - u.length) 0)))) := by
  change execSmerge o s = _
  rw [execSmerge, streamOp_of_wellFormed _ hx ha hb]
  rfl

/-- NMSEL under a mask that fits its place, with no malformed container among the values that it keeps. -/
theorem nmsel_of_fits {o : Ops} {s : State} {e : Nat} {f : Firing} {b n pos : Nat} (hx : s.agent = some (.firing e f))
    (hmask : srcWord s (.firing e f) o o.b = b) (hcount : popCount 64 b = n) (hplace : xField o.x 2 0 = pos)
    (hn : n = 8 ∨ n = 16 ∨ n = 32) (hpos : pos * 4 * n + 4 * n ≤ 256)
    (hgood : (condensed (payloadValues s (.firing e f) o) b).find? (containerBad (.bits o.ty)) = none) :
    exec (.nmsel o) s = .next (finish s o ((Agent.firing e f).setVector o.d (BitVec.ofNat 2048
      ((vectorRaw s (.firing e f) o.d).toNat % 2 ^ (pos * 32 * n) +
        packNum (Ty.width o.ty) (condensed (payloadValues s (.firing e f) o) b) * 2 ^ (pos * 32 * n) +
        (vectorRaw s (.firing e f) o.d).toNat / 2 ^ (pos * 32 * n + 32 * n) * 2 ^ (pos * 32 * n + 32 * n))))) := by
  subst hmask hcount hplace
  rw [condensed] at hgood ⊢
  change execNmsel o s = _
  simp only [execNmsel, withFiring, hx]
  rw [if_neg (by simp; omega), hgood]

/-- Settles O26: ISECT by the bits of its two masks, SMERGE by the coordinates of the union, NMSEL by the bits that its block replaces. -/
theorem streamsAndMaskedValues : Obligations.StreamsAndMaskedValues := by
  refine ⟨⟨fun o s x hx ha hb => ?isect, fun o s x hx ha hb => ?smerge⟩, fun o s e f hx hn hpos hgood => ?nmsel⟩
  case isect =>
    obtain ⟨hlt, hbits⟩ := heldIn_beside (length_blockCoords s x o.a) (length_blockCoords s x o.b)
    refine ⟨_, isect_of_wellFormed hx ha hb, hlt, fun i hi => ?_⟩
    obtain ⟨hlow, hhigh⟩ := hbits i hi
    rw [hlow, hhigh, testBit_heldIn _ (by simpa using hi), testBit_heldIn _ (by simpa using hi)]
    exact ⟨rfl, rfl⟩
  case smerge =>
    have hlen : (blockCoords s x o.a).length + (blockCoords s x o.b).length ≤ 65 := by simp
    have hasca := validCoords_blockCoords_pairwise ha
    have hascb := validCoords_blockCoords_pairwise hb
    refine ⟨mergeCoords _ _, (mergeCoords _ _).map (mergeValue s x o _ _), smerge_of_wellFormed hx ha hb, List.length_take_le .., by simp,
      (pairwise_union_mergePick hlen hasca hascb).take, fun c hc => mergeWanted_of_mem hlen hc,
      fun c hc => mem_mergeCoords_or_beyond hlen hasca hascb hc, fun j hj => ?_⟩
    simp [hj, mergeValue]
  case nmsel =>
    refine ⟨_, nmsel_of_fits hx rfl rfl rfl hn hpos hgood, fun i hi => ?_⟩
    rw [BitVec.toNat_ofNat, Nat.testBit_mod_two_pow _ 2048, decide_eq_true hi, Bool.true_and,
      testBit_splice _ _ _ (packNum_condensed_lt ..)]
    rfl

end Sys2Proof.Machine
end

section
/-! The events of hosts: packets of ingress windows (R317, R432), round registers and other accesses (R431, R433), egress (R434), reports and
attestation (R435, R436), and the disposal of a lost region (R416). -/

namespace Sys2Proof.Machine

/-! ## Ingress windows -/

/-- An ingress window reads as it was written. -/
@[simp] theorem windowOf_setWindow (s : State) (i : Nat) (w : Window) : windowOf (setWindow s i w) i = w := Tab.get_set_self

theorem dropped_countDrop (s : State) (i : Nat) : (windowOf (countDrop s i) i).dropped = min ((windowOf s i).dropped + 1) (2 ^ 32 - 1) := by
  rw [countDrop, windowOf_setWindow] <;> rfl

theorem floors_countDrop (s : State) (i : Nat) : (windowOf (countDrop s i) i).floors = (windowOf s i).floors := by
  rw [countDrop, windowOf_setWindow]

/-- A packet has joined those that a window holds. -/
def packetTaken (s : State) (i : Nat) (p : Packet) : State :=
  setWindow s i { windowOf s i with packets := (windowOf s i).packets ++ [p] }

theorem windowOf_packetTaken (s : State) (i : Nat) (p : Packet) (clusters : List Cluster) :
    windowOf { packetTaken s i p with clusters := clusters } i =
      { windowOf s i with packets := (windowOf s i).packets ++ [p] } := windowOf_setWindow ..

/-- No packet enters a window that is not bound. -/
theorem dropReason_of_unbound {s : State} {i : Nat} (h : bitOf (ingb s i) 63 = false) (off dev len : Nat) (w0 w1 w2 w3 : W64) :
    dropReason s i off dev len w0 w1 w2 w3 = some 5 := by
  simp [dropReason, h]

section
variable {s : State} (hoff : s.event.index < 0xFF00) (hroom : (windowOf s (s.event.unit % 64)).packets.length < 32)
include hoff hroom

/-- A packet for which R432 has a reason is dropped. -/
theorem ingressPacket_of_dropReason {r : Nat} (hr : dropReason s (s.event.unit % 64) s.event.index s.event.addr s.event.size s.event.w0
    s.event.w1 s.event.w2 s.event.w3 = some r) : exec .ingressPacket s = .next (dropPacket s (s.event.unit % 64) r) := by
  change execIngressPacket s = _
  unfold execIngressPacket
  dsimp only
  rw [if_neg (by omega), hr]

/-- Every other packet joins its window; a cluster may count it in a WAITN. -/
theorem ingressPacket_of_accepted (hr : dropReason s (s.event.unit % 64) s.event.index s.event.addr s.event.size s.event.w0
    s.event.w1 s.event.w2 s.event.w3 = none) : ∃ clusters, exec .ingressPacket s = .next
      { packetTaken s (s.event.unit % 64) { w0 := s.event.w0, w1 := s.event.w1, payload := s.event.payload } with clusters := clusters } := by
  change ∃ clusters, execIngressPacket s = _
  unfold execIngressPacket
  dsimp only
  rw [if_neg (by omega), hr]
  dsimp only
  split
  · exact ⟨s.clusters, rfl⟩
  · exact ⟨_, rfl⟩
end

/-- A window without its oldest packet, `rest` being those behind it: the floors that this one held back are applied. -/
def packetGone (s : State) (i : Nat) (rest : List Packet) : State :=
  advanceFloors (setWindow s i { windowOf s i with packets := rest }) i 1

/-- What becomes of the oldest packet of a window (R317, R432). -/
theorem ingressDelivery_of_packet {s : State} {p : Packet} {rest : List Packet} {i : Nat} {w : W64} (hi : s.event.unit % 64 = i)
    (hw : ingb s i = w) (hp : (windowOf s i).packets = p :: rest) :
    let tok := packetToken s (bits w 52 37) p
    let cl := clusterOf (locCore (tokLoc tok))
    let k := countToken s cl (tokLoc tok) tok
    exec .ingressDelivery s = .next (
      if !bitOf w 63 || (registered s w).isNone then dropPacket (packetGone s i rest) i 5
      else if registered s w != some 2 then s
      else if !unitRoom s cl [tokStamp tok] then s
      else launch (packetGone k.1 i rest) k.2 (some (2 ^ 21 + 4 * i, 0)) (if tokWide k.2 then 1 else 2)) := by
  subst hi hw
  change execIngressDelivery s = _
  unfold execIngressDelivery
  dsimp only
  rw [hp] <;> rfl

/-! ## Other accesses of hosts (R431, R433) -/

/-- A write of the round register by the window's device, or another write of a host there. -/
theorem roundRegisterWrite_eq {s : State} {i : Nat} (hi : s.event.unit % 64 = i) : exec .roundRegisterWrite s = .next (
    if s.event.addr ≠ 0xFF00 ∨ s.event.size ≠ 8 ∨ bitOf (ingb s i) 63 = false ∨ s.event.index ≠ bits (ingb s i) 36 25 then countDrop s i
    else advanceFloors (setWindow s i { windowOf s i with
      floors := (windowOf s i).floors ++ [((windowOf s i).packets.length, bits s.event.w0 24 0)] }) i 0) := by
  subst hi
  change execRoundRegisterWrite s = _
  simp [execRoundRegisterWrite, or_assoc]

theorem discardedHostWrite_of_read {s : State} (hflag : s.event.flag = true) (hspace : s.event.index < 0x400000)
    (hstatus : s.event.index % 65536 = 0xFF08) : exec .discardedHostWrite s = .next
      { s with out := .hostRead (some (windowStatus s (s.event.index / 65536))) :: s.out } := by
  change execDiscardedHostWrite s = _
  simp [execDiscardedHostWrite, hflag, hspace, hstatus]

theorem discardedHostWrite_of_write {s : State} (hflag : s.event.flag = false) (hspace : s.event.index < 0x400000)
    (harea : 0xFF00 ≤ s.event.index % 65536) : exec .discardedHostWrite s = .next (countDrop s (s.event.index / 65536)) := by
  change execDiscardedHostWrite s = _
  simp [execDiscardedHostWrite, hflag, Nat.not_le.mpr hspace, Nat.not_lt.mpr harea]

/-! ## Host egress and reports (R434, R435) -/

/-- A host egress queue reads as it was written. -/
@[simp] theorem egressOf_setEgress (s : State) (q : Nat) (l : List Token) : egressOf (setEgress s q l) q = l := Tab.get_set_self

/-- The places that queue 63 has left for reports. -/
def reportRoom (s : State) : Nat := if bitOf (egq s 63) 63 then 64 - (egressOf s 63).length else 0

theorem egressOf_sendReports (s : State) : egressOf (sendReports s) 63 = egressOf s 63 ++ s.pkg.reports.take (reportRoom s) :=
  egressOf_setEgress ..

@[simp] theorem sendReports_out (s : State) : (sendReports s).out = s.out := rfl

theorem egressOf_addReport (s : State) (t : Token) :
    egressOf (addReport s t) 63 = egressOf s 63 ++ (s.pkg.reports ++ [t]).take (reportRoom s) := egressOf_sendReports _

theorem reports_addReport (s : State) (t : Token) : (addReport s t).pkg.reports = (s.pkg.reports ++ [t]).drop (reportRoom s) := rfl

theorem addReport_home (s : State) (t : Token) (i : Nat) : (addReport s t).home i = s.home i := rfl
theorem findSlot_addReport (s : State) (t : Token) (cl i : Nat) : findSlot (addReport s t) cl i = findSlot s cl i := rfl

/-- A report for which queue 63 has room, with none before it, goes there. -/
theorem addReport_of_room {s : State} (t : Token) (hroom : reeveQueueRoom s 1 = true) (hnone : s.pkg.reports = []) :
    egressOf (addReport s t) 63 = egressOf s 63 ++ [t] ∧ (addReport s t).pkg.reports = [] := by
  have ⟨hbound, hlen⟩ : bitOf (egq s 63) 63 = true ∧ (egressOf s 63).length + 1 ≤ 64 := by simpa [reeveQueueRoom] using hroom
  have hone : 1 ≤ reportRoom s := by
    rw [reportRoom, if_pos hbound]
    omega
  rw [egressOf_addReport, reports_addReport, hnone]
  exact ⟨by rw [List.take_of_length_le hone]; rfl, List.drop_eq_nil_of_le hone⟩

/-- A report waits while queue 63 is unbound. -/
theorem addReport_of_unbound {s : State} (t : Token) (h : bitOf (egq s 63) 63 = false) :
    egressOf (addReport s t) 63 = egressOf s 63 ∧ (addReport s t).pkg.reports = s.pkg.reports ++ [t] := by
  have hnone : reportRoom s = 0 := by simp [reportRoom, h]
  rw [egressOf_addReport, reports_addReport, hnone]
  simp

/-- The state in which a queue looks for a token to write: reports that wait for queue 63 find room there. -/
def egressReady (s : State) (q : Nat) : State := if q = 63 then sendReports s else s

/-- The oldest token of a bound queue is written to the host. -/
theorem hostEgress_of_token {s : State} {q : Nat} {t : Token} {rest : List Token} (hq : s.event.unit % 64 = q)
    (hold : egressOf (egressReady s q) q = t :: rest) : exec .hostEgress s = .next (
      if bitOf (egq s q) 63 then { setEgress (egressReady s q) q rest with
        out := .hostWrite q t (bits (egq s q) 62 51) (bits (egq s q) 47 8 * 256) :: (egressReady s q).out }
      else egressReady s q) := by
  subst hq
  change execHostEgress s = _
  unfold execHostEgress
  dsimp only
  rw [egressReady] at hold ⊢
  rw [hold]

/-- Without waiting reports every queue holds what it held. -/
theorem egressOf_egressReady {s : State} {q : Nat} (h : q ≠ 63 ∨ s.pkg.reports = []) : egressOf (egressReady s q) q = egressOf s q := by
  unfold egressReady
  split
  case isTrue hq =>
    subst hq
    rw [egressOf_sendReports, h.resolve_left (· rfl), List.take_nil, List.append_nil]
  case isFalse => rfl

theorem egressReady_out (s : State) (q : Nat) : (egressReady s q).out = s.out := by
  rw [egressReady, apply_ite State.out, sendReports_out, ite_self]

/-! ## Tokens of the reeve (R435, R436) -/

theorem seq_reeveToken {seq : Nat} (h : seq < 64) (wide : Bool) (v : Vec) : bits (reeveToken seq wide v).h1 20 15 = seq := by
  have hwide := ofBool_le wide
  simp only [reeveToken, bits, word, BitVec.toNat_ofNat, Nat.shiftRight_eq_div_pow]
  omega

/-- The code of a report stands in the low bits of its payload. -/
theorem code_reeveToken (seq : Nat) (wide : Bool) (n : Nat) :
    (reeveToken seq wide (BitVec.ofNat 2048 n)).payload.toNat % 2 ^ 16 = n % 2 ^ 16 := by
  rw [reeveToken, BitVec.toNat_ofNat]
  exact Nat.mod_mod_of_dvd n (Nat.pow_dvd_pow 2 (by decide))

theorem code_reglostToken (image : Nat) : (reglostToken image).payload.toNat % 2 ^ 16 = 0x0066 := by
  rw [reglostToken, code_reeveToken]
  omega

theorem code_imgrefToken (image reason : Nat) : (imgrefToken image reason).payload.toNat % 2 ^ 16 = 0x0067 := by
  rw [imgrefToken, code_reeveToken]
  omega

/-! ## Attestation (R436) -/

theorem attestationRequest_of_write {s : State} (hkind : s.event.kind ≠ 1) : exec .attestationRequest s = .next (
    if s.pkg.attest.length < 4 then
      { s with pkg := { s.pkg with attest := s.pkg.attest ++ [BitVec.ofNat 256 s.event.payload.toNat] } }
    else s) := by
  change execAttestationRequest s = _
  simp only [execAttestationRequest, if_neg hkind]

/-- Taking a nonce changes no report. -/
theorem reportHalf_attest (s : State) (l : List (BitVec 256)) (nonce : BitVec 256) (half : Nat) :
    reportHalf { s with pkg := { s.pkg with attest := l } } nonce half = reportHalf s nonce half := by
  simp only [reportHalf, report, reportBody, keyDigest, fuseXor, State.die]

/-- The reeve answers the oldest nonce with the halves of its report. -/
theorem attestationRequest_of_answer {s : State} {n : BitVec 256} {rest : List (BitVec 256)} (hkind : s.event.kind = 1)
    (hn : s.pkg.attest = n :: rest) (hroom : reeveQueueRoom s 2 = true) : exec .attestationRequest s = .next
      (setEgress { s with pkg := { s.pkg with attest := rest } } 63
        (egressOf s 63 ++ [reeveToken 0 true (reportHalf s n 0), reeveToken 1 true (reportHalf s n 1)])) := by
  change execAttestationRequest s = _
  unfold execAttestationRequest
  rw [if_pos hkind, hn]
  dsimp only
  rw [if_pos hroom, reportHalf_attest, reportHalf_attest] <;> rfl

/-! ## The disposal of a lost region (R416) -/

/-! What disposes of a region leaves the package alone, its queues and reports among it. -/

theorem freeEmptySlots_pkg (s : State) (cl : Nat) : (freeEmptySlots s cl).pkg = s.pkg := by
  simp only [freeEmptySlots, apply_ite State.pkg, State.setCluster_pkg, ite_self]

theorem closeBatch_pkg (s : State) (cl : Nat) (x : Slot) : (closeBatch s cl x).pkg = s.pkg := by
  unfold closeBatch
  split
  · rfl
  · simp only [apply_ite State.pkg, State.setHome_pkg, freeEmptySlots_pkg, putSlot, State.setCluster_pkg, ite_self]

theorem recordDec_pkg (s : State) (cl : Nat) (d : Dec) (taint : Bool) : (recordDec s cl d taint).pkg = s.pkg := by
  unfold recordDec recordMark
  split
  · rfl
  · simp only [apply_ite State.pkg, closeBatch_pkg, putSlot, State.setCluster_pkg, ite_self]

theorem cancelWatches_pkg (s : State) (core : Nat) (pick : Watch → Bool) : (cancelWatches s core pick).pkg = s.pkg := by
  unfold cancelWatches
  refine (foldl_keeps State.pkg (fun u w => ?_) _ _).trans (State.setCore_pkg ..)
  exact foldl_keeps State.pkg (fun v t => recordDec_pkg v _ (tokDec t) false) _ u

theorem invalidateContext_pkg (s : State) (e ctx : Nat) : (invalidateContext s e ctx).pkg = s.pkg := by
  simp only [invalidateContext, freeEmptySlots_pkg, State.setCluster_pkg, State.setCore_pkg, cancelWatches_pkg]

theorem freeLayby_pkg (s : State) (image : Nat) : (freeLayby s image).pkg = s.pkg :=
  foldl_keeps State.pkg (fun s k => by simp only [apply_ite State.pkg, State.writeNum_pkg, ite_self]) _ s

theorem dropFrames_pkg (s : State) (ctxs : List (Nat × Nat)) : (dropFrames s ctxs).pkg = s.pkg := by
  unfold dropFrames
  exact foldl_keeps State.pkg (fun u y => State.setElem_pkg u y.1 _) ctxs s

/-- A region's lay-by records are free, its frames are gone, and its contexts are invalid. -/
def regionCleared (s : State) (image : Nat) : State :=
  (regionCtxs s image).foldl (fun s y => invalidateContext s y.1 y.2) (dropFrames (freeLayby s image) (regionCtxs s image))

theorem regionCleared_pkg (s : State) (image : Nat) : (regionCleared s image).pkg = s.pkg := by
  unfold regionCleared
  rw [foldl_keeps State.pkg fun (u : State) (y : Nat × Nat) => invalidateContext_pkg u y.1 y.2, dropFrames_pkg, freeLayby_pkg]

/-- A region that is disposed of: cleared, without a home aggregator and a slot. -/
def regionDisposed (s : State) (image : Nat) : State := freeSlots ((regionCleared s image).setHome image Home.init) image

theorem freeSlots_home (s : State) (image i : Nat) : (freeSlots s image).home i = s.home i := rfl
theorem freeSlots_pkg (s : State) (image : Nat) : (freeSlots s image).pkg = s.pkg := rfl

theorem home_regionDisposed (s : State) (image : Nat) : (regionDisposed s image).home image = Home.init := by
  rw [regionDisposed, freeSlots_home, State.home_setHome]

theorem regionDisposed_pkg (s : State) (image : Nat) : (regionDisposed s image).pkg = s.pkg := by
  rw [regionDisposed, freeSlots_pkg, State.setHome_pkg, regionCleared_pkg]

theorem egressOf_regionDisposed (s : State) (image q : Nat) : egressOf (regionDisposed s image) q = egressOf s q := by
  rw [egressOf, regionDisposed_pkg, egressOf]

theorem egq_regionDisposed (s : State) (image q : Nat) : egq (regionDisposed s image) q = egq s q := by
  rw [egq, regionDisposed_pkg, egq]

theorem reeveQueueRoom_regionDisposed (s : State) (image n : Nat) : reeveQueueRoom (regionDisposed s image) n = reeveQueueRoom s n := by
  rw [reeveQueueRoom, egq_regionDisposed, egressOf_regionDisposed, reeveQueueRoom]

theorem findSlot_freeSlots (s : State) (image cl : Nat) : findSlot (freeSlots s image) cl image = none := by
  have hcl : ∀ c ∈ s.clusters, (c.slots.filter fun x => x.image != image).find? (fun x => x.image == image) = none := by simp
  simp only [findSlot, freeSlots, State.cluster, List.getD_eq_getElem?_getD, List.getElem?_map]
  cases hc : s.clusters[cl]? with
  | none => rfl
  | some c => exact hcl c (List.mem_of_getElem? hc)

theorem findSlot_regionDisposed (s : State) (image cl : Nat) : findSlot (regionDisposed s image) cl image = none := findSlot_freeSlots ..

/-- A lost region whose contexts do not fire is disposed of, and reported. -/
theorem lostRegionDisposal_of_lost {s : State} (hkind : s.event.kind ≠ 1) (hlost : (s.home s.event.unit).lost = true)
    (hidle : ((regionCtxs s s.event.unit).all fun y => !((s.elem y.1).firing.any fun f => f.frame.ctx == y.2)) = true) :
    exec .lostRegionDisposal s = .next (addReport (regionDisposed s s.event.unit) (reglostToken s.event.unit)) := by
  rw [← List.not_any_eq_all_not, Bool.not_eq_true'] at hidle
  change execLostRegionDisposal s = _
  unfold execLostRegionDisposal
  dsimp only
  rw [if_neg hkind, hlost, if_neg (by simp), hidle, if_neg (by simp)] <;> rfl

theorem lostRegionDisposal_of_refused {s : State} (hkind : s.event.kind = 1) :
    exec .lostRegionDisposal s = .next (addReport s (imgrefToken s.event.unit s.event.index)) := by
  change execLostRegionDisposal s = _
  unfold execLostRegionDisposal
  dsimp only
  rw [if_pos hkind]

/-! ## The events -/

/-- Settles O49: each event by what it answers, and what it leaves in windows, queues and the region. -/
theorem hostEvents : Obligations.HostEvents := by
  intro s
  dsimp only
  refine ⟨fun hoff hroom => ⟨fun r hr => ingressPacket_of_dropReason hoff hroom hr, fun hr => ?accepted⟩,
    fun hunbound hoff hroom => ingressPacket_of_dropReason hoff hroom (dropReason_of_unbound hunbound ..),
    fun p rest hp => ?delivery, fun haddr hsize hbound hdev => ?round, fun hother => ?discarded,
    fun tok rest hold => ⟨fun hbound hqueue => ?written, fun hunbound hqueue => ?held⟩, fun hkind hfew => ?nonce, fun hkind hfull => ?refused,
    fun n rest hkind hn hroom => ?answer, fun hflag hspace hstatus => ⟨_, discardedHostWrite_of_read hflag hspace hstatus, rfl, rfl⟩,
    fun hflag hspace harea => ⟨_, discardedHostWrite_of_write hflag hspace harea, dropped_countDrop .., rfl⟩,
    fun hkind hlost hidle => ?lost,
    fun hkind => ⟨lostRegionDisposal_of_refused hkind, code_imgrefToken ..⟩⟩
  case accepted =>
    obtain ⟨clusters, heq⟩ := ingressPacket_of_accepted hoff hroom hr
    exact ⟨_, heq, by rw [windowOf_packetTaken], by rw [windowOf_packetTaken], rfl, rfl, rfl⟩
  case delivery =>
    rw [ingressDelivery_of_packet rfl rfl hp]
    refine ⟨fun hgone => ?_, fun hbound hresident hroom => ?_, fun hbound hheld => ?_⟩
    · rw [if_pos (by rcases hgone with h | h <;> simp [h])] <;> rfl
    · rw [if_neg (by simp [hbound, hresident]), if_neg (by simp [hresident]), if_neg (by simp [hroom])] <;> rfl
    · obtain ⟨k, hk, hne⟩ := hheld
      rw [if_neg (by simp [hbound, hk]), if_pos (by simp [hk, hne])]
  case round =>
    rw [roundRegisterWrite_eq rfl, if_neg (by simp [haddr, hsize, hbound, hdev])]
  case discarded =>
    rw [roundRegisterWrite_eq rfl, if_pos hother]
    exact ⟨_, rfl, dropped_countDrop .., floors_countDrop .., rfl⟩
  case written =>
    rw [hostEgress_of_token rfl (by rw [egressOf_egressReady hqueue, hold]), if_pos hbound]
    exact ⟨_, rfl, egressOf_setEgress .., by rw [egressReady_out]⟩
  case held =>
    rw [hostEgress_of_token rfl (by rw [egressOf_egressReady (.inl hqueue), hold]), if_neg (by simp [hunbound]), egressReady, if_neg hqueue]
  case nonce => exact ⟨_, by rw [attestationRequest_of_write hkind, if_pos hfew], rfl⟩
  case refused => rw [attestationRequest_of_write hkind, if_neg (by omega)]
  case answer =>
    exact ⟨_, reeveToken 0 true (reportHalf s n 0), reeveToken 1 true (reportHalf s n 1), attestationRequest_of_answer hkind hn hroom, rfl,
      egressOf_setEgress .., rfl, rfl, seq_reeveToken (by decide) .., seq_reeveToken (by decide) ..⟩
  case lost =>
    refine ⟨_, lostRegionDisposal_of_lost hkind hlost hidle, by rw [addReport_home, home_regionDisposed],
      fun cl => by rw [findSlot_addReport, findSlot_regionDisposed], code_reglostToken _, fun hroom hnone => ?_, fun hunbound => ?_⟩
    · rw [← egressOf_regionDisposed s s.event.unit]
      exact addReport_of_room _ (by rw [reeveQueueRoom_regionDisposed, hroom]) (by rw [regionDisposed_pkg, hnone])
    · rw [← egressOf_regionDisposed s s.event.unit, ← regionDisposed_pkg s s.event.unit]
      exact addReport_of_unbound _ (by rw [egq_regionDisposed, hunbound])

end Sys2Proof.Machine
end

section
/-! The events of regions: the block scheduler (R318, R371), the retirement of a spliced predecessor (R319, R320), eviction (R323) and reload
(R324). -/

namespace Sys2Proof.Machine

/-! ## The block scheduler (R318) -/

section
variable {s : State} {cl : Nat} (h : cl < s.clusters.length) (n st : Nat)
include h

theorem wtaOf_setEntry : wtaOf (setEntry s cl n st) cl n = setBits (wtaOf s cl n) 62 61 st := by
  rw [wtaOf, setEntry, State.cluster_setCluster h, Tab.get_set_self]

theorem placed_setEntry : ((setEntry s cl n st).cluster cl).placed = none := by
  rw [setEntry, State.cluster_setCluster h]
end

/-- An entry is handed to the loader, and the steward of its cluster learns it. -/
def loading (s : State) (cl n : Nat) : State :=
  let u := setEntry s cl n 1
  u.setStew cl { u.stew cl with evLoad := true }

theorem setEntry_stew (s : State) (cl n st m : Nat) : (setEntry s cl n st).stew m = s.stew m := rfl

theorem evLoad_loading {s : State} {cl : Nat} (h : cl < s.stewards.length) (n : Nat) : ((loading s cl n).stew cl).evLoad = true := by
  rw [loading, State.stew_setStew (show cl < (setEntry s cl n 1).stewards.length from h)]

/-- The program of the steward goes on where it was, of a steward beyond the package's too. -/
theorem pc_loading (s : State) (cl n : Nat) : ((loading s cl n).stew cl).pc = (s.stew cl).pc := by
  rcases Nat.lt_or_ge cl s.stewards.length with h | h
  · rw [loading, State.stew_setStew (show cl < (setEntry s cl n 1).stewards.length from h), setEntry_stew]
  · rw [loading, State.setStew, setAt, List.set_eq_of_length_le (show (setEntry s cl n 1).stewards.length ≤ cl from h)]
    exact congrArg Stew.pc (setEntry_stew s cl n 1 cl)

/-- What the scheduler does with the top entry. -/
theorem schedulerDecision_of_top {s : State} {cl n : Nat} (hcl : s.event.unit = cl) (htop : topEntry s cl = some n) :
    exec .schedulerDecision s = .next (
      if 16 ≤ cl || resetStage s (cl / 4) != 0 || (s.cluster cl).placed.isSome then s
      else if hasPlace s cl n then
        if homeRoom s cl (bits (wtaOf s cl n) 47 32) then loading s cl n else sendPlacereq (setEntry s cl n 0) cl n
      else sendPlacereq s cl n) := by
  subst hcl
  change execSchedulerDecision s = _
  unfold execSchedulerDecision
  dsimp only
  rw [htop] <;> rfl

/-- The scheduler of a die that is not LIVE decides nothing (R420). -/
theorem schedulerDecision_of_notLive {s : State} (h : resetStage s (s.event.unit / 4) ≠ 0) : exec .schedulerDecision s = .next s := by
  cases htop : topEntry s s.event.unit with
  | none =>
    change execSchedulerDecision s = _
    unfold execSchedulerDecision
    dsimp only
    rw [htop]
  | some n => rw [schedulerDecision_of_top rfl htop, if_pos (by simp [h])]

/-- The scheduler that has asked for room decides nothing until a change. -/
theorem schedulerDecision_of_asked {s : State} {n : Nat} (htop : topEntry s s.event.unit = some n)
    (hplaced : (s.cluster s.event.unit).placed ≠ none) : exec .schedulerDecision s = .next s := by
  rw [schedulerDecision_of_top rfl htop, if_pos (by simp [Option.isSome_iff_ne_none, hplaced])]

section
variable {s : State} {cl n : Nat} (hcl : s.event.unit = cl) (hlt : cl < 16) (hlive : resetStage s (cl / 4) = 0)
  (htop : topEntry s cl = some n) (hplaced : (s.cluster cl).placed = none)
include hcl hlt hlive htop hplaced

/-- The scheduler of a LIVE die that has asked for no room decides on its top entry. -/
theorem schedulerDecision_of_live : exec .schedulerDecision s = .next (
    if hasPlace s cl n then
      if homeRoom s cl (bits (wtaOf s cl n) 47 32) then loading s cl n else sendPlacereq (setEntry s cl n 0) cl n
    else sendPlacereq s cl n) := by
  rw [schedulerDecision_of_top hcl htop, if_neg (by simp [hlive, hplaced]; omega)]

theorem schedulerDecision_of_place (hplace : hasPlace s cl n = true) (hroom : homeRoom s cl (bits (wtaOf s cl n) 47 32) = true) :
    exec .schedulerDecision s = .next (loading s cl n) := by
  rw [schedulerDecision_of_live hcl hlt hlive htop hplaced, if_pos hplace, if_pos hroom]

/-- Without a place at its home aggregator the entry returns to WAITING (R371). -/
theorem schedulerDecision_of_fullHome (hplace : hasPlace s cl n = true) (hroom : homeRoom s cl (bits (wtaOf s cl n) 47 32) = false) :
    exec .schedulerDecision s = .next (sendPlacereq (setEntry s cl n 0) cl n) := by
  rw [schedulerDecision_of_live hcl hlt hlive htop hplaced, if_pos hplace, if_neg (by simp [hroom])]

theorem schedulerDecision_of_noPlace (hplace : hasPlace s cl n = false) : exec .schedulerDecision s = .next (sendPlacereq s cl n) := by
  rw [schedulerDecision_of_live hcl hlt hlive htop hplaced, if_neg (by simp [hplace])]
end

/-! ## Splicing (R319, R320) -/

/-- The contexts of a predecessor on a core have retired, and those of its successor there have the priority of the splice `w`. -/
def coreRetired (s : State) (core old : Nat) (w : W64) : State :=
  let u := (ctxsOn s old core).foldl (fun u y => invalidateContext u y.1 y.2) s
  givePriority u (bits w 53 50) (ctxsOn u (bits w 47 32) core)

/-- The last core of a predecessor has retired: the successor runs on the cores too that the predecessor did not share, and its entry alone is
left. -/
def spliced (s : State) (cl n : Nat) (w : W64) (shared : List Nat) : State :=
  let u := givePriority s (bits w 53 50) ((regionCtxs s (bits w 47 32)).filter fun y => !shared.contains (coreOf y.1))
  let c := u.cluster cl
  dropUnregistered (u.setCluster cl { c with
    wta := Tab.set 0 (Tab.set 0 c.wta (bits w 59 54) 0) n (setBits w 62 61 2), placed := none }) cl

/-! Where regions are placed is left alone by the retirement of contexts. -/

theorem unmoved_cancelWatches (s : State) (core : Nat) (pick : Watch → Bool) : (cancelWatches s core pick).unmoved = s.unmoved := by
  unfold cancelWatches
  refine (unmoved_foldl (fun u w => ?_) _ _).trans (unmoved_setCore ..)
  exact unmoved_foldl (fun v t => unmoved_recordMark v ..) _ u

theorem unmoved_invalidateContext (s : State) (e ctx : Nat) : (invalidateContext s e ctx).unmoved = s.unmoved := by
  simp only [invalidateContext, unmoved_freeEmptySlots, unmoved_setCluster, unmoved_setCore, unmoved_cancelWatches]

theorem unmoved_givePriority (s : State) (pri : Nat) (cs : List (Nat × Nat)) : (givePriority s pri cs).unmoved = s.unmoved := by
  unfold givePriority
  exact unmoved_foldl (fun u _ => unmoved_setCore u ..) cs s

theorem coreRetired_places (s : State) (core old : Nat) (w : W64) : (coreRetired s core old w).places = s.places := by
  have h : (coreRetired s core old w).unmoved = s.unmoved :=
    (unmoved_givePriority ..).trans (unmoved_foldl (fun u (y : Nat × Nat) => unmoved_invalidateContext u y.1 y.2) _ s)
  exact (congrArg State.places h :)

/-- The cores on which a region is placed. -/
def placedCores (s : State) (image : Nat) : List Nat := (Tab.get [] s.places image).map fun k => k / 32

theorem placedCores_coreRetired (s : State) (core old image : Nat) (w : W64) :
    placedCores (coreRetired s core old w) image = placedCores s image := by
  rw [placedCores, coreRetired_places, placedCores]

section
variable {s : State} {core cl n old : Nat} {w : W64} (hcore : s.event.unit = core) (hcl : clusterOf core = cl)
  (hn : s.event.index % 64 = n) (hw : wtaOf s cl n = w) (hold : bits (wtaOf s cl (bits w 59 54)) 47 32 = old)
  (hvalid : bitOf w 63 = true) (hsplice : bitOf w 60 = true) (hresident : entryState s cl (bits w 59 54) = some 2)
  (hpred : ctxsOn s old core ≠ []) (hnew : regionCtxs s (bits w 47 32) ≠ [])
include hcore hcl hn hw hold hvalid hsplice hresident hpred hnew

/-- A spliced entry, with a RESIDENT predecessor on the core and a placed successor: all contexts of the predecessor there retire, or none
does. -/
theorem contextRetire_of_splice : exec .contextRetire s = .next (
    if !(ctxsOn s old core).all fun y => eosEverywhere s y.1 y.2 && mayRetire s y.1 y.2 then s
    else if (regionCtxs (coreRetired s core old w) old).isEmpty then spliced (coreRetired s core old w) cl n w (placedCores s old)
    else coreRetired s core old w) := by
  rw [← placedCores_coreRetired s core old old w]
  subst hcore hcl hn hw hold
  change execContextRetire s = _
  unfold execContextRetire
  dsimp only
  rw [if_neg (by simp [hvalid, hsplice, hresident, hpred, hnew])] <;> rfl

theorem contextRetire_of_kept (hno : ((ctxsOn s old core).all fun y => eosEverywhere s y.1 y.2 && mayRetire s y.1 y.2) = false) :
    exec .contextRetire s = .next s := by
  rw [contextRetire_of_splice hcore hcl hn hw hold hvalid hsplice hresident hpred hnew, if_pos (by simp [hno])]

theorem contextRetire_of_left (hall : ((ctxsOn s old core).all fun y => eosEverywhere s y.1 y.2 && mayRetire s y.1 y.2) = true)
    (hleft : regionCtxs (coreRetired s core old w) old ≠ []) : exec .contextRetire s = .next (coreRetired s core old w) := by
  rw [contextRetire_of_splice hcore hcl hn hw hold hvalid hsplice hresident hpred hnew, if_neg (by simp [hall]), if_neg (by simpa using hleft)]

theorem contextRetire_of_last (hall : ((ctxsOn s old core).all fun y => eosEverywhere s y.1 y.2 && mayRetire s y.1 y.2) = true)
    (hlast : regionCtxs (coreRetired s core old w) old = []) :
    exec .contextRetire s = .next (spliced (coreRetired s core old w) cl n w (placedCores s old)) := by
  rw [contextRetire_of_splice hcore hcl hn hw hold hvalid hsplice hresident hpred hnew, if_neg (by simp [hall]), if_pos (by simpa using hlast)]
end

/-! ## Eviction (R323) -/

/-- The frames of a region on a core are spilled, what its contexts have consumed with EOS is kept, and they are invalid. -/
def coreEvicted (s : State) (image core : Nat) : State :=
  let cs := (regionCtxs s image).filter fun y => coreOf y.1 == core
  let u := (cs.map Prod.fst).eraseDups.foldl (fun u e => spillElem u image e) s
  cs.foldl (fun u y => invalidateContext u y.1 y.2) (keepEos u image core cs)

/-- A core is no longer among those, `left`, that a region which is being evicted waits for. -/
def evictionLeft (s : State) (cl n image : Nat) (left : List Nat) : State :=
  let c := s.cluster cl
  s.setCluster cl { c with evicting := (c.evicting.filter fun y => y.1 != n) ++ [(n, image, left)] }

/-- The entry of a region that has been drained is EVICTED, and the steward of its cluster learns it. -/
def evictionEnded (s : State) (cl n : Nat) : State :=
  let c := s.cluster cl
  let u := s.setCluster cl { c with
    evicting := c.evicting.filter fun y => y.1 != n, wta := Tab.set 0 c.wta n (setBits (Tab.get 0 c.wta n) 62 61 3), placed := none }
  u.setStew cl { u.stew cl with evDrained := true }

section
variable {s : State} {core cl n image : Nat} {cores : List Nat} (hcore : s.event.unit = core) (hcl : clusterOf core = cl)
  (hfind : (s.cluster cl).evicting.find? (fun y => y.2.2.contains core) = some (n, image, cores))
include hcore hcl hfind

/-- A core that a region which is being evicted still waits for. -/
theorem drainMarker_of_evicting : exec .drainMarker s = .next (
    if !markersIn s image core then s
    else if (cores.filter fun y => y != core).isEmpty then evictionEnded (coreEvicted s image core) cl n
    else evictionLeft (coreEvicted s image core) cl n image (cores.filter fun y => y != core)) := by
  subst hcore hcl
  change execDrainMarker s = _
  unfold execDrainMarker
  dsimp only
  rw [hfind] <;> rfl

theorem drainMarker_of_missing (hno : markersIn s image core = false) : exec .drainMarker s = .next s := by
  rw [drainMarker_of_evicting hcore hcl hfind, if_pos (by simp [hno])]

theorem drainMarker_of_left (hall : markersIn s image core = true) (hleft : (cores.filter fun y => y != core) ≠ []) :
    exec .drainMarker s = .next (evictionLeft (coreEvicted s image core) cl n image (cores.filter fun y => y != core)) := by
  rw [drainMarker_of_evicting hcore hcl hfind, if_neg (by simp [hall]), if_neg (mt List.isEmpty_iff.mp hleft)]

theorem drainMarker_of_last (hall : markersIn s image core = true) (hlast : (cores.filter fun y => y != core) = []) :
    exec .drainMarker s = .next (evictionEnded (coreEvicted s image core) cl n) := by
  rw [drainMarker_of_evicting hcore hcl hfind, if_neg (by simp [hall]), if_pos (List.isEmpty_iff.mpr hlast)]
end

/-! ## Reload (R324) -/

/-- A reload ends: what was kept of the region in its cluster is gone, and its milestones are released. -/
def reloaded (s : State) (cl image : Nat) : State :=
  let c := s.cluster cl
  let u := s.setCluster cl { c with
    reloading := c.reloading.filter fun i => i != image, keptEos := c.keptEos.filter fun k => k.1 != image }
  u.setHome image { u.home image with hold := false }

theorem reload_of_idle {s : State} (h : (s.cluster s.event.unit).reloading.contains s.event.index = false) :
    exec .reload s = .next s := by
  change execReload s = _
  unfold execReload
  dsimp only
  rw [h, Bool.not_false, Bool.true_or, if_pos rfl]

/-- A region without an element has no spill record that could return. -/
theorem reload_of_unplaced {s : State} (h : (s.cluster s.event.unit).reloading.contains s.event.index = true)
    (helems : regionElems s s.event.index = []) (hplaces : Tab.get [] s.places s.event.index = []) :
    exec .reload s = .next (reloaded s s.event.unit s.event.index) := by
  change execReload s = _
  unfold execReload
  dsimp only
  rw [h, hplaces, if_neg (by simp), helems] <;> rfl

theorem hold_reloaded (s : State) (cl image : Nat) : ((reloaded s cl image).home image).hold = false := by
  rw [reloaded, State.home_setHome]

section
variable {s : State} {cl : Nat} (h : cl < s.clusters.length) (image : Nat)
include h

theorem cluster_reloaded : (reloaded s cl image).cluster cl = { s.cluster cl with
    reloading := (s.cluster cl).reloading.filter fun i => i != image,
    keptEos := (s.cluster cl).keptEos.filter fun k => k.1 != image } := State.cluster_setCluster h

theorem reloading_reloaded : ((reloaded s cl image).cluster cl).reloading.contains image = false := by
  rw [cluster_reloaded h]
  simp

theorem keptEos_reloaded : (((reloaded s cl image).cluster cl).keptEos.any fun k => k.1 == image) = false := by
  rw [cluster_reloaded h]
  simp
end

/-! ## The events -/

/-- Settles O52: each event by what it answers, and what it leaves in the cluster and its steward. -/
theorem regionEvents : Obligations.RegionEvents := by
  intro s
  refine ⟨fun n hlt hlen hlive htop => ⟨fun hplaced => schedulerDecision_of_asked htop hplaced, fun hplaced => ⟨fun hplace hroom => ?load,
      fun hplace hroom => ⟨schedulerDecision_of_fullHome rfl hlt hlive htop hplaced hplace hroom, wtaOf_setEntry hlen n 0⟩,
      fun hplace => schedulerDecision_of_noPlace rfl hlt hlive htop hplaced hplace⟩⟩,
    schedulerDecision_of_notLive, ?retire, fun n image cores hfind => ?evict,
    fun hreload hlen helems hplaces => ?reload, reload_of_idle⟩
  case load =>
    exact ⟨_, schedulerDecision_of_place rfl hlt hlive htop hplaced hplace hroom, pc_loading .., fun hstew => evLoad_loading hstew n,
      placed_setEntry hlen n 1, rfl, wtaOf_setEntry hlen n 1⟩
  case retire =>
    intro core cl n w old cs hvalid hsplice hresident hpred hnew
    exact ⟨contextRetire_of_kept rfl rfl rfl rfl rfl hvalid hsplice hresident hpred hnew,
      fun hall => ⟨contextRetire_of_left rfl rfl rfl rfl rfl hvalid hsplice hresident hpred hnew hall,
        contextRetire_of_last rfl rfl rfl rfl rfl hvalid hsplice hresident hpred hnew hall⟩⟩
  case evict =>
    exact ⟨drainMarker_of_missing rfl rfl hfind, fun hall => ⟨drainMarker_of_left rfl rfl hfind hall, drainMarker_of_last rfl rfl hfind hall⟩⟩
  case reload =>
    exact ⟨_, reload_of_unplaced hreload helems hplaces, hold_reloaded .., reloading_reloaded hlen _, keptEos_reloaded hlen _, rfl⟩

end Sys2Proof.Machine
end

section
/-! Control of steward-mode cores: branches, calls, waits and the injection of a token (R345 to R349). -/

namespace Sys2Proof.Machine

/-! ## The agent that moves -/

section
variable {s : State} {n : Nat} {st : Stew} (h : s.agent = some (.stew n st))
include h

/-- An instruction of steward mode does what it says for the steward-mode core that moves. -/
theorem withStew_of_agent (k : Nat → Stew → State) : withStew s k = .next (k n st) := by
  rw [withStew, h]

/-- The core that moves stands in the state as the agent has it. -/
theorem stew_of_agent : s.stew n = st := by
  unfold State.agent at h
  split at h
  · obtain ⟨f, -, hf⟩ := Option.map_eq_some_iff.mp h
    cases hf
  all_goals
    cases h
    rfl
end

/-! ## Branches (R345) -/

/-- The signed reading of a number is the value of its two's complement. -/
theorem signed_toNat {w : Nat} (hw : 0 < w) (v : BitVec w) : signed w v.toNat = v.toInt := by
  obtain ⟨w, rfl⟩ : ∃ k, w = k + 1 := ⟨w - 1, by omega⟩
  have hlt := v.isLt
  simp only [signed, low, Nat.mod_eq_of_lt hlt, BitVec.toInt, Nat.add_sub_cancel]
  rw [Nat.pow_succ] at hlt ⊢
  push_cast
  split <;> split <;> omega

theorem sword_eq_toInt (v : W64) : sword v = v.toInt := signed_toNat (by decide) v

/-- The word that a number wraps to is the two's complement of the number. -/
theorem word_wrapInt (i : Int) : word (wrapInt 64 i) = BitVec.ofInt 64 i := by
  apply BitVec.eq_of_toNat_eq
  simp only [word, wrapInt, BitVec.toNat_ofNat, BitVec.toNat_ofInt]
  omega

/-- The address that X words on is X times eight bytes on. -/
theorem wordsOn_eq (pc : W64) (x : BitVec 29) : wordsOn pc x = pc + x.signExtend 64 <<< 3 := by
  have hshift : x.signExtend 64 <<< 3 = BitVec.ofInt 64 (8 * x.toInt) := by
    rw [BitVec.shiftLeft_eq_mul_twoPow, BitVec.signExtend, Int.mul_comm, BitVec.ofInt_mul]
    rfl
  rw [wordsOn, signX, signed_toNat (by decide), word_wrapInt, BitVec.ofInt_add, hshift, BitVec.ofInt_natCast, BitVec.ofNat_toNat,
    BitVec.setWidth_eq]

section
variable {s : State} {n : Nat} {st : Stew} (h : s.agent = some (.stew n st)) (o : Ops)
include h

/-- A branch goes to its target where its test holds, else to the next word. -/
theorem branch_of_agent (test : W64 → W64 → Bool) {taken : Prop}
    (htest : test (word (src s (.stew n st) o .whole o.a false 0)) (word (src s (.stew n st) o .whole o.b false 0)) = true ↔ taken) :
    (taken → branch o s test = .next (s.setStew n { st with pc := st.pc + o.x.signExtend 64 <<< 3 })) ∧
    (¬taken → branch o s test = .next (s.setStew n { st with pc := st.pc + 8 })) := by
  rw [branch, withStew_of_agent h]
  constructor
  · intro ht
    simp only [srcWord, htest.mpr ht, if_true, wordsOn_eq]
  · intro ht
    simp only [srcWord, Bool.eq_false_iff.mpr (mt htest.mp ht), Bool.false_eq_true, if_false]
end

/-- Settles O29: each branch by its test. -/
theorem branchesMoveThePc : Obligations.BranchesMoveThePc := by
  intro o s n st h
  dsimp only
  refine ⟨?br, ?bz, ?bnz, ?beq, ?bne, ?blt, ?bge, ?bltu, ?bgeu⟩
  case br => exact branch_of_agent h o (fun _ _ => true) (by simp)
  case bz => exact branch_of_agent h o (fun a _ => a == 0) (by simp)
  case bnz => exact branch_of_agent h o (fun a _ => a != 0) (by simp)
  case beq => exact branch_of_agent h o (fun a b => a == b) (by simp)
  case bne => exact branch_of_agent h o (fun a b => a != b) (by simp)
  case blt => exact branch_of_agent h o (fun a b => decide (sword a < sword b)) (by simp [sword_eq_toInt])
  case bge => exact branch_of_agent h o (fun a b => decide (sword b ≤ sword a)) (by simp [sword_eq_toInt])
  case bltu => exact branch_of_agent h o (fun a b => decide (a.toNat < b.toNat)) (by simp)
  case bgeu => exact branch_of_agent h o (fun a b => decide (b.toNat ≤ a.toNat)) (by simp)

/-! ## Calls (R346) -/

/-- What a call leaves in its core: PC at the target, and the address of the next word in D. -/
theorem goTo_eq (s : State) (n : Nat) (st : Stew) (d : Spec) (t : W64) : goTo s n st d t = s.setStew n (match d with
    | .g i => { st with pc := t, g := setAt st.g i.val (st.pc + 8) }
    | _ => { st with pc := t }) := by
  cases d with
  | g i => simp only [goTo, Agent.setScalar, Agent.store, word, BitVec.ofNat_toNat, BitVec.setWidth_eq]
  | _ => rfl

section
variable {s : State} {n : Nat} {st : Stew} (h : s.agent = some (.stew n st)) (o : Ops)
include h

/-- A jump goes to its computed target where that is 8-aligned, else it traps (R346). -/
theorem jump_of_agent (target : W64 → W64) {t : W64} (ht : target (word (src s (.stew n st) o .whole o.a false 0)) = t) :
    (t.toNat % 8 = 0 → jump o s target = .next (goTo s n st o.d t)) ∧
    (t.toNat % 8 ≠ 0 → jump o s target = .next (raise s Cause.misalign t)) := by
  subst ht
  rw [jump, withStew_of_agent h]
  constructor <;> intro ha <;> simp [srcWord, ha]
end

/-- Settles O30: CALL goes on, RET and JMPR are jumps. -/
theorem callsAndJumps : Obligations.CallsAndJumps := by
  intro o s n st h
  dsimp only
  have hgo := goTo_eq s n st o.d
  obtain ⟨hret, hretBad⟩ := jump_of_agent h o (fun a => a) rfl
  obtain ⟨hjmpr, hjmprBad⟩ := jump_of_agent h o (fun a => wordsOn a o.x) (wordsOn_eq ..)
  refine ⟨?call, fun ha => (hret ha).trans (congrArg _ (hgo _)), hretBad, fun ha => (hjmpr ha).trans (congrArg _ (hgo _)), hjmprBad⟩
  case call =>
    rw [← wordsOn_eq]
    exact (withStew_of_agent h _).trans (congrArg _ (hgo _))

/-! ## Waits (R347) -/

section
variable {s : State} {n : Nat} {st : Stew} {o : Ops} {w : Wait}

/-- A wait whose event or deadline has come is over at once. -/
theorem waitFor_of_ends {v : Nat} (hw : waitEnds s n w = some v) :
    waitFor o s n st w = finish s o ((Agent.stew n st).setScalar o.d v) := by
  rw [waitFor, hw]

/-- Another wait stalls its core. -/
theorem waitFor_of_goesOn (hw : waitEnds s n w = none) :
    waitFor o s n st w = s.setStew n { st with waiting := some (w, Spec.code o.d) } := by
  rw [waitFor, hw]

theorem waitEnds_cycle (s : State) (n t : Nat) : waitEnds s n (.cycle t) =
    if t ≤ cycleOf s (stewCluster n) then some (cycleOf s (stewCluster n)) else none := rfl

/-- A wait for events ends with the events that have come, or at its deadline. -/
theorem waitEnds_event (s : State) (n mask : Nat) (deadline : Option Nat) : waitEnds s n (.event mask deadline) =
    if eventBits s n &&& mask ≠ 0 ∨ ∃ t, deadline = some t ∧ t ≤ cycleOf s (stewCluster n) then some (eventBits s n &&& mask) else none := by
  cases deadline <;> simp [waitEnds]

end

/-- Settles O31: each wait by whether it ends now. -/
theorem waitsStallUntilTheirEvent : Obligations.WaitsStallUntilTheirEvent := by
  intro o s n st h
  dsimp only
  refine ⟨?past, ?stalls, ?met, ?unmet, fun w d v hn hw hv => ⟨_, ?ends, rfl⟩, fun w d hn hw hv => ?waits⟩
  case past =>
    intro ht
    exact (withStew_of_agent h _).trans (congrArg _ (waitFor_of_ends (by simp [waitEnds_cycle, srcWord, ht])))
  case stalls =>
    intro ht
    exact (withStew_of_agent h _).trans (congrArg _ (waitFor_of_goesOn (by simpa [waitEnds_cycle, srcWord] using ht)))
  case met =>
    intro hmet
    exact (withStew_of_agent h _).trans (congrArg _ (waitFor_of_ends (by simpa [waitEnds_event, srcWord, low, or_iff_not_imp_left] using hmet)))
  case unmet =>
    intro hmet hb
    exact (withStew_of_agent h _).trans (congrArg _ (waitFor_of_goesOn (by
      simpa [waitEnds_event, srcWord, low, or_iff_not_imp_left] using And.intro hmet hb)))
  case ends =>
    subst hn
    change execStewardWaitEnd s = _
    simp [execStewardWaitEnd, hw, hv, stewDone]
  case waits =>
    subst hn
    change execStewardWaitEnd s = _
    simp [execStewardWaitEnd, hw, hv]

/-! ## Injection (R348, R349) -/

theorem injectRefused_of_unfit {s : State} {n : Nat} {rw ts : W64} (h : tsDepth ts ≠ 0 ∨ routeKind rw ≠ 1 ∨ routeNet rw ≠ 2) :
    injectRefused s n rw ts = true := by
  rcases h with h | h | h <;> simp [injectRefused, h]

section
variable {s : State} {n : Nat} {st : Stew} (h : s.agent = some (.stew n st)) (o : Ops)
include h

theorem inj_of_refused (hr : injectRefused s n (word (src s (.stew n st) o .whole o.a false 0)) (word (src s (.stew n st) o .whole o.b false 0)) = true) :
    exec (.inj o) s = .next (raise s Cause.injref (word (src s (.stew n st) o .whole o.a false 0))) := by
  refine (withStew_of_agent h _).trans (congrArg _ ?_)
  simp only [srcWord, hr, if_true]
end

/-- Settles O32: INJ is refused, or its token is counted and leaves. -/
theorem injSendsOneCountedToken : Obligations.InjSendsOneCountedToken := by
  intro o s n st h
  dsimp only
  refine ⟨inj_of_refused h o, fun hr hroom => ?_, fun hunfit => inj_of_refused h o (injectRefused_of_unfit hunfit)⟩
  refine (withStew_of_agent h _).trans (congrArg _ ?_)
  simp only [srcWord, hr, hroom, Bool.false_eq_true, Bool.not_true, if_false]

end Sys2Proof.Machine
end

section
/-! Exceptions of steward-mode cores: the entry of a trap, a trap in a handler, TRAP and ERET (R338, R342, R350). -/

namespace Sys2Proof.Machine

/-! ## Records of a device whose number does not fit (R338, R341) -/

/-- After reset, a package whose device id does not fit the twelve bits of DEV in a record: it runs over into the bits above. -/
def wideDevice (id : Nat) : State := { State.reset with devId := id }

/-- Bit 46 of the ETRAP0 of a precise trap, where the device id reaches that bit. -/
theorem pre_of_wideDevice : bitOf ((stewTrap (wideDevice (2 ^ 16)) 0 0 0 0 0).stew 0).etrap0 46 = false := by decide +kernel

/-- Refutes O33 by its clause on ETRAP0, which speaks of every device id: one of 2^16 adds to the bit that says that the trap is precise, and
that bit is then 0. -/
theorem not_preciseTrapEntry : ¬ Obligations.PreciseTrapEntry := by
  intro h
  obtain ⟨hentry, -⟩ := h
  obtain ⟨-, -, -, -, -, -, hpre, -⟩ := hentry (wideDevice (2 ^ 16)) 0 0 0 0 0 (by decide +kernel) (by decide +kernel) (by decide) (by decide)
  exact absurd hpre (by rw [pre_of_wideDevice]; decide)

/-- Core 0 of a device of that number, in a trap handler. -/
def wideHandler : State := (wideDevice (2 ^ 26)).setStew 0 { (wideDevice (2 ^ 26)).stew 0 with td := true }

/-- Its second trap leaves one fatal record, whose cause field is not that of a double trap. -/
theorem cause_of_wideHandler : ((((stewTrap wideHandler 0 0 0 0 0).cluster 0).fatalOut).map fun r => bits r.w0 63 56) = [Cause.dbltrap + 1] := by
  decide +kernel

theorem fatalOut_wideHandler : (wideHandler.cluster 0).fatalOut = [] := by decide +kernel

/-- Refutes O34 by its clause on the record's cause, which speaks of every device id: one of 2^26 adds to that field. -/
theorem not_secondTrapsAndFatalRecords : ¬ Obligations.SecondTrapsAndFatalRecords := by
  intro h
  obtain ⟨hsecond, -⟩ := h
  obtain ⟨-, -, -, r, hrecord, -, hcause, -⟩ := hsecond wideHandler 0 0 0 0 0 (by decide) (by decide +kernel) (by decide +kernel) (by decide +kernel)
  have hout := cause_of_wideHandler
  rw [(hrecord (by decide)).1, fatalOut_wideHandler, List.nil_append, List.map_singleton, hcause] at hout
  exact absurd hout (by decide)

/-! ## TRAP and ERET (R350) -/

/-- Settles O35: TRAP raises its cause for any agent; ERET returns to EPC inside a handler. -/
theorem trapAndReturn : Obligations.TrapAndReturn := by
  intro o s x hx
  refine ⟨?trap, fun n st hst => ?eret⟩
  case trap =>
    change withAgent s _ = _
    rw [withAgent, hx]
    rfl
  case eret =>
    subst hst
    have hreturn : stewReturn s n = s.setStew n { st with td := false, pc := st.epc } := by rw [stewReturn, stew_of_agent hx]
    constructor <;> intro htd
    · exact (withStew_of_agent hx _).trans (congrArg _ (by rw [htd, if_pos rfl, hreturn]))
    · exact (withStew_of_agent hx _).trans (congrArg _ (by rw [htd, if_neg (by decide)]))

end Sys2Proof.Machine
end

section
/-! What MTS writes, and what it refuses (R341, R344, R351, R410). -/

namespace Sys2Proof.Machine

/-! ## Zero bits of a register -/

/-- Clearing the three lowest bits of a word. -/
theorem setBits_low3 (v : W64) : setBits v 2 0 0 = v &&& ~~~7#64 := by
  apply BitVec.eq_of_getLsbD_eq
  intro i hi
  have hset := testBit_setBits (hi := 2) (lo := 0) (i := i) v 0 (by omega) hi
  have h7 : (7#64).getLsbD i = decide (i < 3) := by
    rw [BitVec.getLsbD_ofNat, show (7 : Nat) = 2 ^ 3 - 1 by rfl, Nat.testBit_two_pow_sub_one]
    simp [hi]
  rw [← BitVec.getLsbD] at hset
  rw [hset, BitVec.getLsbD_and, BitVec.getLsbD_not, h7]
  by_cases h3 : i < 3
  · simp [h3, show i ≤ 2 by omega]
  · simp [h3, hi, show ¬ i ≤ 2 by omega, BitVec.getLsbD]

/-- Keeping the twelve lowest bits of a word. -/
theorem word_bits_low12 (v : W64) : word (bits v 11 0) = v &&& 0xFFF#64 := by
  apply BitVec.eq_of_toNat_eq
  rw [word, BitVec.toNat_ofNat, BitVec.toNat_and, bits, Nat.shiftRight_zero, show (0xFFF#64).toNat = 2 ^ 12 - 1 by rfl,
    Nat.and_two_pow_sub_one_eq_mod]
  omega

theorem bits_low5 (v : W64) : bits v 4 0 = v.toNat % 32 := rfl

/-! ## A write as MTS performs it -/

section
variable {s : State} {n : Nat} {st : Stew} (h : s.agent = some (.stew n st)) {o : Ops} {num : Nat} (hnum : o.x.toNat % 2 ^ 12 = num)
include h hnum

/-- MTS completes with the write of its register. -/
theorem mts_of_ok {t : State} (hw : writeRegister s pkgrst n num (encodeFields 0xF3 o) (word (src s (.stew n st) o .whole o.a false 0)) = .ok t) :
    exec (.mts o) s = .next (finish t o (.stew n (t.stew n))) := by
  subst hnum
  refine (withStew_of_agent h _).trans (congrArg _ ?_)
  change writeRegister s pkgrst n (srNumber o.x) (encodeFields 0xF3 o) (word (srcWord s (.stew n st) o o.a)) = .ok t at hw
  simp only [Bool.false_and, Bool.false_eq_true, if_false, hw]

/-- MTS traps where its register is not written. -/
theorem mts_of_error {w : Why} (hw : writeRegister s pkgrst n num (encodeFields 0xF3 o) (word (src s (.stew n st) o .whole o.a false 0)) = .error w) :
    exec (.mts o) s = .next (raise s w.1 w.2) := by
  subst hnum
  refine (withStew_of_agent h _).trans (congrArg _ ?_)
  change writeRegister s pkgrst n (srNumber o.x) (encodeFields 0xF3 o) (word (srcWord s (.stew n st) o o.a)) = .error w at hw
  simp only [Bool.false_and, Bool.false_eq_true, if_false, hw]
end

/-- A breakpoint whose zero bits are 0 is written in the cluster (R351). -/
theorem writeRegister_bpt {s : State} {n num : Nat} {insn v : W64} (hlo : 0x138 ≤ num) (hhi : num < 0x140) (h54 : bits v 54 52 = 0)
    (h23 : bits v 23 0 = 0) : writeRegister s pkgrst n num insn v = .ok (s.setCluster (stewCluster n)
      { s.cluster (stewCluster n) with bpt := setAt (s.cluster (stewCluster n)).bpt (num - 0x138) v }) := by
  unfold writeRegister
  dsimp only
  rw [if_neg (by omega), if_neg (by omega), if_neg (by omega), if_neg (by omega), if_neg (by omega), if_neg (by omega), if_neg (by omega),
    if_neg (by omega), if_pos ⟨hlo, hhi⟩, if_pos ⟨h54, h23⟩]

/-! ## Completion -/

/-- An instruction of a steward-mode core completes in the registers of that core. -/
theorem finish_stew (s : State) (o : Ops) (n : Nat) (st : Stew) : finish s o (.stew n st) = s.setStew n { st with pc := st.pc + 8 } := rfl

theorem cluster_finish_stew (s : State) (o : Ops) (n : Nat) (st : Stew) (cl : Nat) : (finish s o (.stew n st)).cluster cl = s.cluster cl := rfl

/-! ## TQPOP (R341) -/

theorem tqpop_one (s : State) (n : Nat) : tqpop s n 1 = popOrdinary s n := by
  rw [tqpop, show bitOf 1 0 = true from rfl, show bitOf 1 1 = false from rfl]
  rfl

theorem tqpop_two (s : State) (n : Nat) : tqpop s n 2 = popFatal s n := by
  rw [tqpop, show bitOf 2 0 = false from rfl, show bitOf 2 1 = true from rfl]
  rfl

section
variable {s : State} {n : Nat} (hn : n < 16) (hlen : n < s.clusters.length)
include hn hlen

theorem cluster_popOrdinary : (popOrdinary s n).cluster n = { s.cluster n with tq := (s.cluster n).tq.drop 1 } := by
  simp only [popOrdinary, stewCluster, if_neg (show n ≠ 20 by omega), if_pos hn, State.cluster_setCluster hlen]

theorem cluster_popFatal : (popFatal s n).cluster n = { s.cluster n with tf := (s.cluster n).tf.drop 1 } := by
  simp only [popFatal, stewCluster, if_neg (show n ≠ 20 by omega), if_pos hn, State.cluster_setCluster hlen]
end

/-- Settles O38: each register by its number, and MTS as the write that its register makes. -/
theorem mtsWritesSpecialRegisters : Obligations.MtsWritesSpecialRegisters := by
  intro o s n st h hstew hcluster
  dsimp only
  have hst := stew_of_agent h
  have htqpop {v : W64} (w : W64) : writeRegister s pkgrst n 0x018 w v = .ok (tqpop s n v) := by simp [writeRegister]
  refine ⟨?epc, ?tvec, ?scratch, ?csel, ?tqpop, ?ordinary, ?fatal, ?bootvec, ?priv, ?pkgrst, ?ccycle, ?bpt, ?chsel, ?none⟩
  case epc => exact fun hnum => mts_of_ok h hnum (by simp [writeRegister, hst, setBits_low3])
  case tvec => exact fun hnum => mts_of_ok h hnum (by simp [writeRegister, hst, setBits_low3])
  case scratch => exact fun hnum => mts_of_ok h hnum (by simp [writeRegister, hst])
  case csel => exact fun hnum => mts_of_ok h hnum (by simp [writeRegister, hst, word_bits_low12])
  case tqpop => exact fun hnum => mts_of_ok h hnum (htqpop _)
  case ordinary =>
    intro hnum hn hv
    refine ⟨_, mts_of_ok h hnum (htqpop _), ?_⟩
    have hlen : n < s.clusters.length := by simpa [stewCluster, hn] using hcluster
    rw [hv, tqpop_one, cluster_finish_stew, cluster_popOrdinary hn hlen]
    exact ⟨rfl, rfl⟩
  case fatal =>
    intro hnum hn hv
    refine ⟨_, mts_of_ok h hnum (htqpop _), ?_⟩
    have hlen : n < s.clusters.length := by simpa [stewCluster, hn] using hcluster
    rw [hv, tqpop_two, cluster_finish_stew, cluster_popFatal hn hlen]
    exact ⟨rfl, rfl⟩
  case bootvec => exact fun hnum hn => mts_of_ok h hnum (by simp [writeRegister, hn, setBits_low3])
  case priv => 
    rintro (hnum | hnum) hn <;> exact mts_of_error (w := (Cause.priv, encodeFields 0xF3 o)) h hnum (by simp [writeRegister, hn])
  case pkgrst =>
    rintro hnum rfl
    exact ⟨fun t ht => mts_of_ok h hnum (by simp [writeRegister, ht]), fun c hc => mts_of_error h hnum (by simp [writeRegister, hc])⟩
  case ccycle => exact fun hnum hfused => mts_of_ok h hnum (by simp [writeRegister, hst, hfused])
  case bpt =>
    intro hlo hhi hzero hzero'
    exact mts_of_ok h rfl (writeRegister_bpt hlo hhi hzero hzero')
  case chsel => exact fun hnum => mts_of_ok h hnum (by simp [writeRegister, hst, bits_low5])
  case none =>
    rintro (hnum | hnum | hnum | hnum) <;> rw [hnum] <;>
      exact mts_of_error (w := (Cause.sprnum, word _)) h hnum (by simp [writeRegister])

end Sys2Proof.Machine
end

section
/-! Configuration: what CFGW, CFGR and the configuration space answer (R352 to R354), and transactions (R355, R356). -/

namespace Sys2Proof.Machine

/-! ## Addresses (R352) -/

theorem bits_two_lt (w : W64) (lo : Nat) : bits w (lo + 1) lo < 4 := by
  have := bits_lt w (lo + 1) lo
  rwa [show lo + 1 - lo + 1 = 2 by omega] at this

theorem cls_cfgFields_lt (q : W64) : (cfgFields q).cls < 4 := bits_two_lt q 26
theorem el_cfgFields_lt (q : W64) : (cfgFields q).el < 4 := bits_two_lt q 17

theorem coreOf_elem_cfgFields (q : W64) : coreOf (cfgFields q).elem = (cfgFields q).pkgCore := by
  have := el_cfgFields_lt q
  simp only [CfgAddr.elem, coreOf]
  omega

theorem elem_mod_cfgFields (q : W64) : (cfgFields q).elem % 4 = (cfgFields q).el := by
  have := el_cfgFields_lt q
  simp only [CfgAddr.elem]
  omega

/-- Every bit plays a part where none is ignored. -/
theorem and_not_zero (q : W64) : q &&& ~~~(0 : W64) = q := by
  rw [BitVec.ofNat_eq_ofNat, BitVec.not_zero, BitVec.and_allOnes]

section
variable {s : State} {n : Nat} {q ignored : W64} {insn : W64} {classes : List Nat} {k : CfgAddr → State}

theorem withCfgAddr_of_malformed (h : cfgMalformed (q &&& ~~~ignored) = true) :
    withCfgAddr s n q insn classes k ignored = raise s Cause.cfgaddr q := by simp only [withCfgAddr, h, if_true]

variable (hwhole : cfgMalformed (q &&& ~~~ignored) = false)
include hwhole

theorem withCfgAddr_of_forbidden (h : cfgForbidden n (cfgFields (q &&& ~~~ignored)) = true) :
    withCfgAddr s n q insn classes k ignored = raise s Cause.priv insn := by
  simp only [withCfgAddr, hwhole, h, Bool.false_eq_true, if_true, if_false]

/-- An address in the core's reach is acted on. -/
theorem withCfgAddr_of_reached (h : cfgForbidden n (cfgFields (q &&& ~~~ignored)) = false)
    (hfused : cfgFused s (cfgFields (q &&& ~~~ignored)) = false) (hclass : classes.contains (cfgFields (q &&& ~~~ignored)).cls = true) :
    withCfgAddr s n q insn classes k ignored = k (cfgFields (q &&& ~~~ignored)) := by
  simp only [withCfgAddr, hwhole, h, hfused, hclass, Bool.not_true, Bool.or_false, Bool.false_eq_true, if_false]
end

/-- CFGW and CFGR take every class. -/
theorem contains_cls_cfgFields (q : W64) : [0, 1, 2, 3].contains (cfgFields q).cls = true := by
  have := cls_cfgFields_lt q
  rw [List.contains_iff_mem]
  simp only [List.mem_cons, List.not_mem_nil, or_false]
  omega

/-! ## CFGW and CFGR (R353) -/

/-- What CFGW makes of a write of the word that an address names. -/
def cfgWritten (s : State) (o : Ops) (n : Nat) (q : W64) : CfgWritten → State
  | .refused c sub => cfgDone s o n (cfgStatus c sub q)
  | .wait => s
  | .ok t => cfgDone t o n 0

section
variable {s : State} {n : Nat} {st : Stew} (h : s.agent = some (.stew n st)) {o : Ops} {q v : W64}
  (hq : word (src s (.stew n st) o .whole o.a false 0) = q) (hv : word (src s (.stew n st) o .whole o.b false 0) = v)
include h hq

theorem cfgw_of_malformed (hbad : cfgMalformed q = true) : exec (.cfgw o) s = .next (raise s Cause.cfgaddr q) := by
  subst hq
  exact (withStew_of_agent h _).trans (congrArg _ (withCfgAddr_of_malformed (by rwa [and_not_zero])))

theorem cfgr_of_malformed (hbad : cfgMalformed q = true) : exec (.cfgr o) s = .next (raise s Cause.cfgaddr q) := by
  subst hq
  exact (withStew_of_agent h _).trans (congrArg _ (withCfgAddr_of_malformed (by rwa [and_not_zero])))

variable (hwhole : cfgMalformed q = false)
include hwhole

theorem cfgw_of_forbidden (hpriv : cfgForbidden n (cfgFields q) = true) :
    exec (.cfgw o) s = .next (raise s Cause.priv (encodeFields 0xF4 o)) := by
  subst hq
  exact (withStew_of_agent h _).trans (congrArg _ (withCfgAddr_of_forbidden (by rwa [and_not_zero]) (by rwa [and_not_zero])))

theorem cfgr_of_forbidden (hpriv : cfgForbidden n (cfgFields q) = true) :
    exec (.cfgr o) s = .next (raise s Cause.priv (encodeFields 0xF5 o)) := by
  subst hq
  exact (withStew_of_agent h _).trans (congrArg _ (withCfgAddr_of_forbidden (by rwa [and_not_zero]) (by rwa [and_not_zero])))

variable (hreach : cfgForbidden n (cfgFields q) = false) (hfused : cfgFused s (cfgFields q) = false)
include hreach hfused

theorem cfgr_of_reached : exec (.cfgr o) s = .next (cfgDone s o n (cfgRead s (cfgFields q) (xBit o.x 0))) := by
  subst hq
  refine (withStew_of_agent h _).trans (congrArg _ ?_)
  refine (withCfgAddr_of_reached (by rwa [and_not_zero]) (by rwa [and_not_zero]) (by rwa [and_not_zero])
    (contains_cls_cfgFields _)).trans ?_
  rw [and_not_zero]
  rfl

include hv
theorem cfgw_of_reached : exec (.cfgw o) s = .next (cfgWritten s o n q (cfgWrite s n (xBit o.x 0) (cfgFields q) v)) := by
  subst hq hv
  refine (withStew_of_agent h _).trans (congrArg _ ?_)
  refine (withCfgAddr_of_reached (by rwa [and_not_zero]) (by rwa [and_not_zero]) (by rwa [and_not_zero])
    (contains_cls_cfgFields _)).trans ?_
  rw [and_not_zero]
  change _ = cfgWritten s o n _ (cfgWrite s n (xBit o.x 0) (cfgFields (word (srcWord s (.stew n st) o o.a))) (word (srcWord s (.stew n st) o o.b)))
  cases cfgWrite s n (xBit o.x 0) (cfgFields (word (srcWord s (.stew n st) o o.a))) (word (srcWord s (.stew n st) o o.b)) <;> rfl
end

/-! ### Route words -/

section
variable {c : Core} {el ctx off : Nat} (hoff : off < 0x58)
include hoff

theorem ctxWord_of_lt : c.ctxWord el ctx off = Tab.get 0 c.cfg0 ((el * 8 + ctx) * 128 + off) := by
  simp only [Core.ctxWord, if_neg (show off ≠ 0x58 by omega), if_neg (show off ≠ 0x59 by omega), if_neg (show off ≠ 0x5A by omega),
    if_neg (show off ≠ 0x5B by omega), if_neg (show off ≠ 0x5F by omega)]

theorem setCtxWord_of_lt (v : W64) : c.setCtxWord el ctx off v = { c with cfg0 := Tab.set 0 c.cfg0 ((el * 8 + ctx) * 128 + off) v } := by
  simp only [Core.setCtxWord, if_neg (show off ≠ 0x58 by omega), if_neg (show off ≠ 0x59 by omega), if_neg (show off ≠ 0x5A by omega),
    if_neg (show off ≠ 0x5B by omega), if_neg (show off ≠ 0x5F by omega)]

theorem ctxWord_setCtxWord_self (v : W64) : (c.setCtxWord el ctx off v).ctxWord el ctx off = v := by
  rw [setCtxWord_of_lt hoff, ctxWord_of_lt hoff, Tab.get_set_self]
end

section
variable {s : State} {n : Nat} {stage : Bool} {a : CfgAddr} {v : W64} (hcls : a.cls = 0) (hlo : 0x30 ≤ a.off) (hhi : a.off < 0x40)
  (hgood : routeWordBad v = false)
include hcls hlo hhi hgood

/-- A well-formed route word breaks no rule (R57, R354). -/
theorem wordRule_of_route : wordRule s n stage a v = none := by
  simp only [wordRule, hcls, if_true, class0Rule]
  rw [if_neg (by omega), if_neg (by omega), if_neg (by omega), if_neg (by omega), if_pos (by omega), hgood]
  rfl

variable {q : W64} (ha : a = cfgFields q)
include ha

/-- A live write of a route word of a valid context that does not fire (R353). -/
theorem cfgWrite_route_live (hvalid : ctxValid s a.elem a.ctx = true) (hidle : (s.elem a.elem).firing = none) :
    cfgWrite s n false a v = .ok (mendSlots (s.setCore a.pkgCore ((s.core a.pkgCore).setCtxWord a.el a.ctx a.off v))
      (keySlots a.pkgCore [cfgKey a])) := by
  have hctx : bitOf ((s.core a.pkgCore).ctxWord a.el a.ctx 0) 63 = true := by
    subst ha
    rw [ctxValid, ctxWord, coreOf_elem_cfgFields, elem_mod_cfgFields] at hvalid
    exact hvalid
  have hlive : (decide (0x10 ≤ a.off) && decide (a.off < 0x48)) = true := by simp; omega
  rw [cfgWrite, wordRule_of_route hcls hlo hhi hgood]
  simp [liveWord, hcls, hctx, hlive, hidle]

/-- The core after the first staged write of a transaction (R353). -/
def opened (c : Core) (n : Nat) (key : Nat) (v : W64) : Core :=
  { c with txn := { Txn.init with state := .opened, owner := n, staged := [(key, v)] } }

/-- A staged write of a route word of a context that is not valid, where no transaction is open, opens one. -/
theorem cfgWrite_route_staged (hvalid : ctxValid s a.elem a.ctx = false) (htxn : (s.core a.pkgCore).txn = Txn.init) :
    cfgWrite s n true a v = .ok (s.setCore a.pkgCore (opened (s.core a.pkgCore) n (cfgKey a) v)) := by
  have hctx : bitOf ((s.core a.pkgCore).ctxWord a.el a.ctx 0) 63 = false := by
    subst ha
    rw [ctxValid, ctxWord, coreOf_elem_cfgFields, elem_mod_cfgFields] at hvalid
    exact hvalid
  have hkey : stageKey (s.core a.pkgCore) a = cfgKey a := by rw [stageKey, if_neg (by omega)]
  rw [cfgWrite, wordRule_of_route hcls hlo hhi hgood]
  simp [stageWord, hcls, hctx, hkey, htxn, Txn.init, stagedAt, opened]
end

/-- The word that a first staged write has staged reads as written. -/
theorem cfgRead_of_opened {s : State} {a : CfgAddr} {n : Nat} {v : W64} {c : Core} (hcls : a.cls < 2) (hoff : a.off < 0x58)
    (hcore : s.core a.pkgCore = opened c n (cfgKey a) v) : cfgRead s a true = v := by
  have hkey : stageKey (s.core a.pkgCore) a = cfgKey a := by rw [stageKey, if_neg (by omega)]
  simp [cfgRead, hkey, hcls]
  simp [hcore, opened, stagedAt]

/-! ### What CFGW leaves -/

/-- The result of an instruction of a steward-mode core goes to one of its registers, or nowhere. -/
theorem setScalar_stew (n : Nat) (st : Stew) (d : Spec) (v : Nat) : ∃ g, (Agent.stew n st).setScalar d v = .stew n { st with g := g } := by
  cases d <;> exact ⟨_, rfl⟩

/-- A configuration instruction ends in the registers of its core. -/
theorem cfgDone_eq (s : State) (o : Ops) (n : Nat) (v : W64) : ∃ x, cfgDone s o n v = s.setStew n x := by
  obtain ⟨g, hg⟩ := setScalar_stew n (s.stew n) o.d v.toNat
  exact ⟨_, by rw [cfgDone, hg, finish_stew]⟩

@[simp] theorem core_cfgDone (s : State) (o : Ops) (n : Nat) (v : W64) (c : Nat) : (cfgDone s o n v).core c = s.core c := by
  obtain ⟨x, hx⟩ := cfgDone_eq s o n v
  rw [hx]
  rfl

@[simp] theorem mem_cfgDone (s : State) (o : Ops) (n : Nat) (v : W64) : (cfgDone s o n v).mem = s.mem := by
  obtain ⟨x, hx⟩ := cfgDone_eq s o n v
  rw [hx, State.setStew_mem]

@[simp] theorem elems_cfgDone (s : State) (o : Ops) (n : Nat) (v : W64) : (cfgDone s o n v).elems = s.elems := by
  obtain ⟨x, hx⟩ := cfgDone_eq s o n v
  rw [hx, State.setStew_elems]

@[simp] theorem clusters_cfgDone (s : State) (o : Ops) (n : Nat) (v : W64) : (cfgDone s o n v).clusters = s.clusters := by
  obtain ⟨x, hx⟩ := cfgDone_eq s o n v
  rw [hx, State.setStew_clusters]

/-! ### LD and ST in the configuration space (R352) -/

section
variable {s : State} {n : Nat} {st : Stew} (h : s.agent = some (.stew n st)) {o : Ops} (hspace : memSpace o = 5)
include h hspace

theorem ld_of_configuration : exec (.ld o) s = .next (
    let ea := memEa s (.stew n st) o
    if ea % 8 != 0 then raise s Cause.misalign (word ea)
    else withCfgAddr s n (word (ea / 8)) (encodeFields 0xA0 o) [0, 1, 2, 3] fun a => cfgDone s o n (cfgRead s a false)) := by
  change execLd o s = _
  simp only [execLd, withAgent, h, hspace, if_true]

theorem st_of_configuration : exec (.st o) s = .next (
    let ea := memEa s (.stew n st) o
    if ea % 8 != 0 then raise s Cause.misalign (word ea)
    else withCfgAddr s n (word (ea / 8)) (encodeFields 0xA1 o) [0, 1, 2, 3] fun a =>
      match cfgWrite s n false a (word (src s (.stew n st) o .whole o.b false 0)) with
      | .refused c sub => stewTrap s n c sub (word (ea / 8)) st.pc
      | .wait => s
      | .ok s => finish s o (.stew n (s.stew n))) := by
  change execSt o s = _
  simp only [execSt, withAgent, h, hspace, if_true]
  rfl
end

/-- Settles O40: each instruction by what its address and its write come to, and the route words by their rule. -/
theorem configurationAccess : Obligations.ConfigurationAccess := by
  intro o s n st h
  dsimp only
  generalize hq : word (src s (.stew n st) o .whole o.a false 0) = q
  generalize hv : word (src s (.stew n st) o .whole o.b false 0) = v
  have hbit : xBit o.x 0 = decide (o.x.toNat % 2 = 1) := Nat.testBit_zero _
  refine ⟨fun hbad => ⟨cfgw_of_malformed h hq hbad, cfgr_of_malformed h hq hbad⟩,
    fun hwhole hpriv => ⟨cfgw_of_forbidden h hq hwhole hpriv, cfgr_of_forbidden h hq hwhole hpriv⟩, ?word, ?space⟩
  case word =>
    intro hwhole hreach hfused
    have hcfgr := cfgr_of_reached h hq hwhole hreach hfused
    have hcfgw := cfgw_of_reached h hq hv hwhole hreach hfused
    rw [hbit] at hcfgr hcfgw
    refine ⟨fun c sub hw => ?refused, fun hw => ?wait, fun t hw => ?ok, hcfgr, ?live, ?staged⟩
    case refused => rw [hcfgw, hw, cfgWritten]
    case wait => rw [hcfgw, hw, cfgWritten]
    case ok => rw [hcfgw, hw, cfgWritten]
    case live =>
      intro hstage hcls hlo hhi hgood hvalid hidle
      rw [decide_eq_false hstage, cfgWrite_route_live hcls hlo hhi hgood rfl hvalid hidle] at hcfgw
      refine ⟨_, hcfgw, ?_, mem_cfgDone .., clusters_cfgDone .., fun k hk => (core_cfgDone ..).trans (State.core_setCore_ne hk)⟩
      rw [cfgWritten, core_cfgDone]
      exact (congrArg (Core.ctxWord · _ _ _) State.core_setCore).trans (ctxWord_setCtxWord_self (by omega) _)
    case staged =>
      intro hstage hcls hlo hhi hgood hvalid htxn
      rw [decide_eq_true hstage, cfgWrite_route_staged hcls hlo hhi hgood rfl hvalid htxn] at hcfgw
      rw [cfgWritten] at hcfgw
      have hcore : (cfgDone (s.setCore (cfgFields q).pkgCore (opened (s.core (cfgFields q).pkgCore) n (cfgKey (cfgFields q)) v)) o n 0).core
          (cfgFields q).pkgCore = opened (s.core (cfgFields q).pkgCore) n (cfgKey (cfgFields q)) v :=
        (core_cfgDone ..).trans State.core_setCore
      exact ⟨_, hcfgw, (congrArg Core.cfg0 hcore :), congrArg (fun c => c.txn.state) hcore, congrArg (fun c => c.txn.owner) hcore,
        cfgRead_of_opened (by omega) (by omega) hcore⟩
  case space =>
    intro hspace halign hwhole hreach hfused
    generalize hqa : word (memEa s (.stew n st) o / 8) = qa at hwhole hreach hfused ⊢
    have hacts {insn : W64} {k : CfgAddr → State} : withCfgAddr s n qa insn [0, 1, 2, 3] k = k (cfgFields qa) := by
      rw [withCfgAddr_of_reached (by rwa [and_not_zero]) (by rwa [and_not_zero]) (by rwa [and_not_zero]) (contains_cls_cfgFields _),
        and_not_zero]
    have hld := ld_of_configuration h hspace
    have hst := st_of_configuration h hspace
    simp only [halign, bne_self_eq_false, Bool.false_eq_true, if_false, hqa, hv, hacts] at hld hst
    refine ⟨hld, fun t hw => ?_, fun c sub hw => ?_⟩ <;> rw [hst, hw]

/-! ## Transactions (R355, R356) -/

/-- The transaction instructions take classes 0 and 1. -/
theorem contains_of_lt_two {n : Nat} (h : n < 2) : [0, 1].contains n = true := by
  rw [List.contains_iff_mem]
  simp only [List.mem_cons, List.not_mem_nil, or_false]
  omega

/-- Clearing bits below a field leaves the field. -/
theorem bits_and_not {q m : W64} {hi lo : Nat} (hm : m.toNat < 2 ^ lo) : bits (q &&& ~~~m) hi lo = bits q hi lo := by
  apply Nat.eq_of_testBit_eq
  intro i
  have hlow : m.getLsbD (lo + i) = false := Nat.testBit_lt_two_pow (lt_of_lt_of_le hm (Nat.pow_le_pow_right (by decide) (by omega)))
  rw [testBit_bits, testBit_bits, ← BitVec.getLsbD, ← BitVec.getLsbD, BitVec.getLsbD_and, BitVec.getLsbD_not, hlow, Bool.not_false, Bool.and_true]
  by_cases h64 : lo + i < 64
  · rw [decide_eq_true h64, Bool.and_true]
  · rw [BitVec.getLsbD_of_ge _ _ (by omega), Bool.false_and]

/-- OFF, EL and CTX name no core (R352): without them an address is of the same class and core. -/
theorem cfgFields_without_place (q : W64) : (cfgFields (q &&& ~~~cfgPlace)).cls = (cfgFields q).cls ∧
    (cfgFields (q &&& ~~~cfgPlace)).pkgCore = (cfgFields q).pkgCore := by
  simp only [cfgFields, CfgAddr.pkgCore, CfgAddr.cluster]
  refine ⟨bits_and_not (by decide), ?_⟩
  rw [bits_and_not (by decide), bits_and_not (by decide), bits_and_not (by decide)]

section
variable {s : State} {n : Nat} {st : Stew} (h : s.agent = some (.stew n st)) {o : Ops} {q : W64}
  (hq : word (src s (.stew n st) o .whole o.a false 0) = q)
include h hq

/-- What CFGCOM, with or without SEAL, does to the transaction of a core in reach. -/
theorem cfgCommit_of_reached {op : Nat} {doSeal : Bool} (hwhole : cfgMalformed (q &&& ~~~cfgPlace) = false)
    (hreach : cfgForbidden n (cfgFields (q &&& ~~~cfgPlace)) = false) (hfused : cfgFused s (cfgFields (q &&& ~~~cfgPlace)) = false)
    (hcls : (cfgFields (q &&& ~~~cfgPlace)).cls < 2) {c : Nat} (hc : (cfgFields (q &&& ~~~cfgPlace)).pkgCore = c) :
    cfgCommit o s op doSeal = .next (
      if (s.core c).txn.state = .idle ∨ ((s.core c).txn.state = .committed ∧ !doSeal) then cfgDone s o n (cfgStatus Cause.cfgstate 0 0)
      else if (s.core c).txn.owner ≠ n then cfgDone s o n (cfgStatus Cause.cfgstate 0 q)
      else match (if (s.core c).txn.state = .opened then commitCheck s c else none) with
        | some w => cfgDone s o n w
        | none => match (if (s.core c).txn.state = .opened then applyCommit s c else some s) with
          | none => s
          | some u => cfgDone (if doSeal then sealTxn u c else u) o n 0) := by
  subst hq hc
  refine (withStew_of_agent h _).trans (congrArg _ ?_)
  exact (withCfgAddr_of_reached hwhole hreach hfused (contains_of_lt_two hcls)).trans rfl

/-- What CFGABT does to the transaction of a core in reach. -/
theorem cfgabt_of_reached (hwhole : cfgMalformed q = false) (hreach : cfgForbidden n (cfgFields q) = false)
    (hfused : cfgFused s (cfgFields q) = false) (hcls : (cfgFields q).cls < 2) {c : Nat} (hc : (cfgFields q).pkgCore = c) :
    exec (.cfgabt o) s = .next (
      if (s.core c).txn.state = .idle then cfgDone s o n (cfgStatus Cause.cfgstate 0 0)
      else if (s.core c).txn.owner ≠ n then cfgDone s o n (cfgStatus Cause.cfgstate 0 q)
      else if (s.core c).txn.state = .opened then cfgDone (s.setCore c { s.core c with txn := Txn.init }) o n 0
      else if (s.core c).txn.made.any fun k => otherThanInitial s (c * 4 + k / 8) (k % 8) then
        cfgDone s o n (cfgStatus Cause.cfgstate 0 q)
      else cfgDone (abortCommit s c) o n 0) := by
  subst hq hc
  refine (withStew_of_agent h _).trans (congrArg _ ?_)
  refine (withCfgAddr_of_reached (by rwa [and_not_zero]) (by rwa [and_not_zero]) (by rwa [and_not_zero])
    (contains_of_lt_two (by rwa [and_not_zero]))).trans ?_
  rw [and_not_zero]
  rfl

theorem cfgabt_of_malformed (hbad : cfgMalformed q = true) : exec (.cfgabt o) s = .next (raise s Cause.cfgaddr q) := by
  subst hq
  exact (withStew_of_agent h _).trans (congrArg _ (withCfgAddr_of_malformed (by rwa [and_not_zero])))
end

/-- Settles O41: each state of the transaction by what its instructions answer. -/
theorem transactionsCommitAndAbort : Obligations.TransactionsCommitAndAbort := by
  intro o s n st h
  dsimp only
  generalize hq : word (src s (.stew n st) o .whole o.a false 0) = q
  intro hwhole hreach hfused hcls
  obtain ⟨hcls', hcore'⟩ := cfgFields_without_place q
  have hcom : exec (.cfgcom o) s = _ := cfgCommit_of_reached h hq hwhole hreach hfused hcls rfl
  have hseal : exec (.cfgcomSeal o) s = _ := cfgCommit_of_reached h hq hwhole hreach hfused hcls rfl
  have habt (hw : cfgMalformed q = false ∧ cfgForbidden n (cfgFields q) = false) :=
    cfgabt_of_reached h hq hw.1 hw.2 (by rwa [cfgFused, hcls', hcore'] at hfused) (by rwa [← hcls']) hcore'.symm
  generalize (cfgFields (q &&& ~~~cfgPlace)).pkgCore = c at *
  simp only [List.forall_mem_cons, List.not_mem_nil, false_implies, implies_true, and_true]
  refine ⟨cfgabt_of_malformed h hq, fun hidle => ?idle, fun hopen howner => ?others, fun hopen howner => ?opened,
    fun hcommitted howner => ?committed⟩
  case idle =>
    refine ⟨?_, fun hw => ?_⟩
    · simp [hcom, hseal, hidle]
    · simp [habt hw, hidle]
  case others =>
    refine ⟨?_, fun hw => ?_⟩
    · simp [hcom, hseal, hopen, howner]
    · simp [habt hw, hopen, howner]
  case opened =>
    refine ⟨fun w hw => ?_, fun hpass => ⟨fun u hu => ?_, fun hwait => ?_⟩, fun hw => ⟨_, habt hw, ?_⟩⟩
    · simp [hcom, hseal, hopen, howner, hw]
    · simp [hcom, hseal, hopen, howner, hpass, hu]
    · simp [hcom, hseal, hopen, howner, hpass, hwait]
    · simp [hopen, howner]
  case committed =>
    have hsealed : exec (.cfgcomSeal o) s = .next (cfgDone (sealTxn s c) o n 0) := by simp [hseal, hcommitted, howner]
    refine ⟨by simp [hcom, hcommitted], hsealed, ⟨_, hsealed, ?_⟩, fun hno hw => ?_, fun hother hw => ?_⟩
    · simp [sealTxn]
    · simp [habt hw, hcommitted, howner, hno]
    · simp [habt hw, hcommitted, howner, hother]

end Sys2Proof.Machine
end

section
/-! Observation: the registers of R470 to R477, the dump of the trace ring, the stall walker, and SIGCHK (R363). -/

namespace Sys2Proof.Machine

/-! ## Writes of registers that have rows of their own -/

section
variable {s : State} {n : Nat} {st : Stew} (h : s.agent = some (.stew n st)) {o : Ops} {k : Nat → W64 → Except Why (Option State)}
include h

/-- A write that is accepted completes with its effect. -/
theorem mtsOp_of_ok {t : State} (hk : k n (word (src s (.stew n st) o .whole o.a false 0)) = .ok (some t)) :
    mtsOp o s false k = .next (finish t o (.stew n (t.stew n))) := by
  refine (withStew_of_agent h _).trans (congrArg _ ?_)
  change k n (word (srcWord s (.stew n st) o o.a)) = _ at hk
  simp only [Bool.false_and, Bool.false_eq_true, if_false, hk]

/-- The same for a register of the core that CSEL names, where no fuse switches it off. -/
theorem mtsCore_of_ok {k : Nat → W64 → Option State} {t : State} (hfused : isFused s (cselCore n st) = false)
    (hk : k (cselCore n st) (word (src s (.stew n st) o .whole o.a false 0)) = some t) :
    mtsCore o s k = .next (finish t o (.stew n (t.stew n))) :=
  mtsOp_of_ok h (by simp only [stew_of_agent h, hfused, Bool.false_eq_true, if_false, hk])
end

/-! ## Releases of stopped elements (R473) -/

/-- Releases the elements of a core that are listed and whose bits are 1. -/
def released (s : State) (core : Nat) (v : W64) (l : List Nat) : State :=
  l.foldl (fun s i => if bitOf v i then s.setElem (core * 4 + i) { s.elem (core * 4 + i) with stopped := false } else s) s

theorem mem_released (s : State) (core : Nat) (v : W64) (l : List Nat) : (released s core v l).mem = s.mem :=
  foldl_keeps State.mem (fun s i => by split <;> rfl) l s

theorem elem_released (s : State) (core : Nat) (v : W64) (l : List Nat) (i : Nat) : (released s core v l).elem (core * 4 + i) =
    if i ∈ l ∧ bitOf v i = true then { s.elem (core * 4 + i) with stopped := false } else s.elem (core * 4 + i) := by
  induction l generalizing s with
  | nil => rfl
  | cons j rest ih =>
    have hrest := ih (if bitOf v j then s.setElem (core * 4 + j) { s.elem (core * 4 + j) with stopped := false } else s)
    change (released s core v (j :: rest)).elem (core * 4 + i) = _ at hrest
    rw [hrest]
    by_cases hj : i = j
    · subst hj
      by_cases hb : bitOf v i = true <;> simp [hb]
    · have hother : (if bitOf v j then s.setElem (core * 4 + j) { s.elem (core * 4 + j) with stopped := false } else s).elem (core * 4 + i) =
          s.elem (core * 4 + i) := by
        split
        · exact State.elem_setElem_ne (by omega)
        · rfl
      rw [hother]
      simp [hj]

/-! ## Tracing (R470 to R472) -/

/-- A write of OBCTL: TEN stays 0 while another cluster of the die traces, and setting it empties the ring. -/
def obctlWritten (s : State) (cl : Nat) (v : W64) : State :=
  if bitOf v 63 && !otherTraces s cl then s.setCluster cl { s.cluster cl with
    obctl := v, frozen := false, dumped := false, trigger := none, ring := [], trhead := 0, wrapped := false }
  else s.setCluster cl { s.cluster cl with obctl := setBits v 63 63 0 }

section
variable {s : State} {cl : Nat} (h : cl < s.clusters.length) {v : W64}
include h

theorem cluster_obctlWritten_of_traces (hten : bitOf v 63 = true) (hothers : otherTraces s cl = false) :
    (obctlWritten s cl v).cluster cl = { s.cluster cl with
      obctl := v, frozen := false, dumped := false, trigger := none, ring := [], trhead := 0, wrapped := false } := by
  rw [obctlWritten, if_pos (by simp [hten, hothers]), State.cluster_setCluster h]

theorem cluster_obctlWritten_of_not (hnot : bitOf v 63 = false ∨ otherTraces s cl = true) :
    (obctlWritten s cl v).cluster cl = { s.cluster cl with obctl := setBits v 63 63 0 } := by
  rw [obctlWritten, if_neg (by rcases hnot with hnot | hnot <;> simp [hnot]), State.cluster_setCluster h]

/-- The fields of OBCTL below TEN read as written. -/
theorem bits_obctl_obctlWritten {hi lo : Nat} (hle : lo ≤ hi) (hhi : hi < 63) : bits ((obctlWritten s cl v).cluster cl).obctl hi lo = bits v hi lo := by
  by_cases hon : bitOf v 63 = true ∧ otherTraces s cl = false
  · rw [cluster_obctlWritten_of_traces h hon.1 hon.2]
  · rw [cluster_obctlWritten_of_not h (by simpa [or_iff_not_imp_left] using hon)]
    exact bits_setBits_of_disjoint v 0 (by omega) hle (by omega) (.inl hhi)
end

theorem obctlWrite_of_agent {s : State} {n : Nat} {st : Stew} (h : s.agent = some (.stew n st)) {o : Ops} {v : W64}
    (hv : word (src s (.stew n st) o .whole o.a false 0) = v) : exec (.obctlWrite o) s =
      .next (finish (obctlWritten s (stewCluster n) (setBits v 61 32 0)) o
        (.stew n ((obctlWritten s (stewCluster n) (setBits v 61 32 0)).stew n))) := by
  have hexec : execObctlWrite o s = .next _ := mtsOp_of_ok h (t := obctlWritten s (stewCluster n) (setBits v 61 32 0)) (by rw [hv]; rfl)
  exact hexec

theorem homeHolds_setCluster (s : State) (cl : Nat) (x : Cluster) (pa n : Nat) (w : Bool) (die : Option Nat) :
    homeHolds (s.setCluster cl x) pa n w (die := die) = homeHolds s pa n w (die := die) := rfl

theorem length_bytesOfNum (n v : Nat) : (bytesOfNum n v).length = n := by
  induction n generalizing v with
  | zero => rfl
  | succ n ih => rw [bytesOfNum, List.length_cons, ih]

/-- A record takes 32 bytes. -/
theorem length_bytes (r : TrapRec) : r.bytes.length = 32 := by simp [TrapRec.bytes, length_bytesOfNum]

theorem length_flatten_records (l : List TrapRec) : (l.map TrapRec.bytes).flatten.length = 32 * l.length := by
  induction l with
  | nil => rfl
  | cons r rest ih =>
    rw [List.map_cons, List.flatten_cons, List.length_append, length_bytes, ih, List.length_cons]
    omega

/-- Records are written where HBM has room for them. -/
theorem writeRecords_ok (n : Nat) (l : List TrapRec) {a : Nat} (s : State) (hroom : a + 32 * l.length ≤ 2 ^ 39) (ha : a % 16 = 0) :
    ∃ t, writeBlocks n a (l.map TrapRec.bytes) s = .ok t := by
  refine writeBlocks_ok n _ a s (by rwa [length_flatten_records]) ha fun b hb => ?_
  obtain ⟨r, -, rfl⟩ := List.mem_map.mp hb
  rw [length_bytes]

theorem pageAt_eq (v : W64) : pageAt v = bits v 51 12 * 4096 := rfl

theorem length_ringOrder (c : Cluster) : (ringOrder c).length = 524288 := by rw [ringOrder, List.length_map, List.length_range]

/-- The ring of a cluster that traces no longer, oldest record first, is written where HBM has room for it. -/
theorem writeRing_ok (n : Nat) (c : Cluster) {v : W64} (s : State) (hroom : bits v 51 12 * 4096 + 2 ^ 24 ≤ 2 ^ 39) :
    ∃ t, writeBlocks n (bits v 51 12 * 4096) ((ringOrder c).map fun i => (Tab.get (default : TrapRec) c.ring i).bytes) s = .ok t := by
  have hring : ((ringOrder c).map (Tab.get (default : TrapRec) c.ring)).length = 524288 := by rw [List.length_map, length_ringOrder]
  obtain ⟨t, ht⟩ := writeRecords_ok n ((ringOrder c).map (Tab.get (default : TrapRec) c.ring)) (a := bits v 51 12 * 4096) s
    (by rw [hring]; omega) (by omega)
  exact ⟨t, by rwa [List.map_map] at ht⟩

section
variable {s : State} {n : Nat} {st : Stew} (h : s.agent = some (.stew n st)) {o : Ops} {v : W64}
  (hv : word (src s (.stew n st) o .whole o.a false 0) = v)
include h hv

/-- TRDUMP completes once the ring is written. -/
theorem trdump_of_written {t : State} (hfree : homeHolds s (bits v 51 12 * 4096) (2 ^ 24) true (die := some (stewDie n)) = false)
    (hw : writeBlocks n (bits v 51 12 * 4096)
      ((ringOrder (s.cluster (stewCluster n))).map fun i => (Tab.get (default : TrapRec) (s.cluster (stewCluster n)).ring i).bytes)
      (s.setCluster (stewCluster n) { s.cluster (stewCluster n) with obctl := setBits (s.cluster (stewCluster n)).obctl 63 63 0 }) = .ok t) :
    exec (.trdump o) s = .next (finish (t.setCluster (stewCluster n) { t.cluster (stewCluster n) with dumped := true }) o
      (.stew n ((t.setCluster (stewCluster n) { t.cluster (stewCluster n) with dumped := true }).stew n))) := by
  have hexec : execTrdump o s = .next _ := mtsOp_of_ok h
    (t := t.setCluster (stewCluster n) { t.cluster (stewCluster n) with dumped := true }) (by
      simp only [hv, pageAt_eq, homeHolds_setCluster, hfree, hw, Bool.false_eq_true, if_false])
  exact hexec

/-- WALKGO begins a walk of a page that can be written. -/
theorem walkgo_of_room (hroom : bits v 51 12 * 4096 + 4096 ≤ 2 ^ 39) {u : State}
    (hu : s.setCluster (stewCluster n) { s.cluster (stewCluster n) with
      walk := some { pa := bits v 51 12 * 4096, records := [] }, walked := (s.cluster (stewCluster n)).walked && (s.cluster (stewCluster n)).walk.isNone } = u) :
    exec (.walkgo o) s = .next (finish u o (.stew n (u.stew n))) := by
  obtain ⟨t, ht⟩ := writeRecords_ok n (List.replicate 128 default) (a := bits v 51 12 * 4096) s (by rw [List.length_replicate]; omega) (by omega)
  rw [List.map_replicate] at ht
  have hexec : execWalkgo o s = .next _ := mtsOp_of_ok h (t := u) (by simp only [hv, pageAt_eq, ht, hu])
  exact hexec
end

/-! ## Counts of locations (R475) -/

/-- HEN as it is written, with HOVF cleared. -/
def hctlWritten (s : State) (cl : Nat) (v : W64) : State := s.setCluster cl { s.cluster cl with hen := bitOf v 63, hovf := 0 }

section
variable {s : State} {n : Nat} {st : Stew} (h : s.agent = some (.stew n st)) {o : Ops} {v : W64}
  (hv : word (src s (.stew n st) o .whole o.a false 0) = v)
include h hv

/-- Without FLUSH, HCTL is written. -/
theorem hctlEnable_of_no_flush (hflush : bitOf v 62 = false) : exec (.hctlEnable o) s =
    .next (finish (hctlWritten s (stewCluster n) v) o (.stew n ((hctlWritten s (stewCluster n) v).stew n))) := by
  have hexec : execHctlEnable o s = .next _ := mtsOp_of_ok h (by rw [hv, hflush]; rfl)
  exact hexec

/-- With FLUSH, the counts are written once their homes do not hold them. -/
theorem hctlEnable_of_flush (hflush : bitOf v 62 = true) (hfree : spillHeld (hctlWritten s (stewCluster n) v) (stewCluster n) 0
      (spillLength ((hctlWritten s (stewCluster n) v).cluster (stewCluster n))) = false) {t : State}
    (ht : flushCounts (hctlWritten s (stewCluster n) v) (stewCluster n) = t) :
    exec (.hctlEnable o) s = .next (finish t o (.stew n (t.stew n))) := by
  have hexec : execHctlEnable o s = .next _ := mtsOp_of_ok h (t := t) (by
    change (if bitOf _ 62 && spillHeld (hctlWritten s _ _) _ 0 (spillLength ((hctlWritten s _ _).cluster _)) then Except.ok none
      else Except.ok (some (if bitOf _ 62 then flushCounts (hctlWritten s _ _) _ else hctlWritten s _ _))) = _
    rw [hv, hflush, hfree, Bool.and_false, if_neg (by decide), if_pos rfl, ht])
  exact hexec
end

/-! ## The stall walker (R477) -/

/-- The records of a walk after some more core clocks. -/
def walkRecords (s : State) (cl : Nat) (w : Walk) (k : Nat) : List TrapRec :=
  w.records ++ (List.range (min k (128 - w.records.length))).map fun i =>
    walkRecord { s with clock := s.clock + i } (cl * 128 + w.records.length + i)

theorem sampleCores_eq (s : State) (cl : Nat) (w : Walk) (k : Nat) : sampleCores s cl w k = { w with records := walkRecords s cl w k } := rfl

section
variable {s : State} {cl k : Nat} {w : Walk} (hwalk : (s.cluster cl).walk = some w)
include hwalk

/-- A walk that has sampled too few cores, or whose page is held, goes on. -/
theorem walkClocks_of_going (h : (walkRecords s cl w k).length < 128 ∨ homeHolds s w.pa 4096 true (die := some (cl / 4)) = true) :
    walkClocks s cl k = s.setCluster cl { s.cluster cl with walk := some { w with records := walkRecords s cl w k } } := by
  simp only [walkClocks, hwalk, sampleCores_eq, h, if_true]

/-- A walk that has sampled its cores writes its page and ends. -/
theorem walkClocks_of_done {t : State} (hlen : (walkRecords s cl w k).length = 128)
    (hfree : homeHolds s w.pa 4096 true (die := some (cl / 4)) = false)
    (hw : writeBlocks cl w.pa ((walkRecords s cl w k).map TrapRec.bytes) s = .ok t) :
    walkClocks s cl k = t.setCluster cl { t.cluster cl with walk := none, walked := true } := by
  simp only [walkClocks, hwalk, sampleCores_eq, hlen, hfree, hw, Nat.lt_irrefl, Bool.false_eq_true, or_self, if_false]
end

/-! ## SIGCHK (R363) -/

section
variable {s : State} {n : Nat} {st : Stew} (h : s.agent = some (.stew n st)) {o : Ops} {a : Nat} (ha : src s (.stew n st) o .whole o.a false 0 = a)
include h ha

theorem sigchk_of_misaligned (halign : a % 8 ≠ 0) : exec (.sigchk o) s = .next (raise s Cause.misalign (word a)) := by
  subst ha
  refine (withStew_of_agent h _).trans (congrArg _ (if_pos ?_))
  rwa [srcWord, bne_iff_ne]

variable (halign : a % 8 = 0)
include halign

theorem sigchk_of_held (hheld : physHolds s n a 32 = true) : exec (.sigchk o) s = .next s := by
  subst ha
  refine (withStew_of_agent h _).trans (congrArg _ ?_)
  simp only [srcWord, halign, hheld, bne_self_eq_false, Bool.false_eq_true, if_false, if_true]

variable {t : State} {desc : List Byte} (hfree : physHolds s n a 32 = false) (hdesc : physRead s n a 32 = (t, .ok desc))
include hfree hdesc

/-- Word i of a descriptor. -/
def descWord (desc : List Byte) (i : Nat) : Nat := numOfBytes ((desc.drop (8 * i)).take 8)

/-- What SIGCHK does with the descriptor that it has read. -/
theorem sigchk_of_descriptor : exec (.sigchk o) s = .next (
    if decide (2 ^ 32 < descWord desc 1) || decide (8 ≤ descWord desc 3) then cfgDone t o n (cfgStatus Cause.sigfail 0 3)
    else match (t.die (stewDie n)).keys.getD (descWord desc 3) none with
      | none => cfgDone t o n (cfgStatus Cause.sigfail 0 2)
      | some key => if physHolds t n (descWord desc 0) (descWord desc 1) || physHolds t n (descWord desc 2) 114 then t
        else match physRead t n (descWord desc 0) (descWord desc 1) with
        | (s, .error e) => raise s e.1 e.2
        | (s, .ok msg) => match physRead s n (descWord desc 2) 114 with
          | (s, .error e) => raise s e.1 e.2
          | (s, .ok sig) => cfgDone s o n (sigStatus (Ed448.verify key (shake256 msg 64) sig))) := by
  subst ha
  refine (withStew_of_agent h _).trans (congrArg _ ?_)
  simp only [srcWord, halign, hfree, hdesc, bne_self_eq_false, Bool.false_eq_true, if_false]
  rfl
end

theorem sigStatus_eq (ok : Bool) : sigStatus ok = if ok then 0 else cfgStatus Cause.sigfail 0 1 := rfl

/-! ## Counts of a channel (R476) -/

/-- A count that was cleared just now is 0. -/
theorem channelCount_now (s : State) (core which : Nat) : channelCount s core which s.clock = 0 := by
  simp [channelCount]

/-- Clears a count of the selected channel of a core: CHFULL, CHEMPTY or CHMOVE. -/
def channelCleared (s : State) (core num : Nat) : State :=
  let c := s.core core
  if num = 0x141 then s.setCore core { c with chfull := Tab.set 0 c.chfull c.chsel s.clock }
  else if num = 0x142 then s.setCore core { c with chempty := Tab.set 0 c.chempty c.chsel s.clock }
  else s.setCore core { c with chmove := Tab.set 0 c.chmove c.chsel s.clock }

theorem channelCleared_full (s : State) (core : Nat) : channelCount (channelCleared s core 0x141) core 0
    (Tab.get 0 ((channelCleared s core 0x141).core core).chfull ((channelCleared s core 0x141).core core).chsel) = 0 := by
  rw [channelCleared, if_pos rfl, State.core_setCore, Tab.get_set_self]
  exact channelCount_now ..

theorem channelCleared_empty (s : State) (core : Nat) : channelCount (channelCleared s core 0x142) core 1
    (Tab.get 0 ((channelCleared s core 0x142).core core).chempty ((channelCleared s core 0x142).core core).chsel) = 0 := by
  rw [channelCleared, if_neg (by decide), if_pos rfl, State.core_setCore, Tab.get_set_self]
  exact channelCount_now ..

theorem channelCleared_move (s : State) (core : Nat) : channelCount (channelCleared s core 0x143) core 2
    (Tab.get 0 ((channelCleared s core 0x143).core core).chmove ((channelCleared s core 0x143).core core).chsel) = 0 := by
  rw [channelCleared, if_neg (by decide), if_neg (by decide), State.core_setCore, Tab.get_set_self]
  exact channelCount_now ..

section
variable {s : State} {n : Nat} {st : Stew} (h : s.agent = some (.stew n st)) {o : Ops} 
include h

theorem channelCountClear_of_zero (hv : word (src s (.stew n st) o .whole o.a false 0) = 0) : exec (.channelCountClear o) s =
    .next (finish (channelCleared s (cselCore n st) (o.x.toNat % 2 ^ 12)) o
      (.stew n ((channelCleared s (cselCore n st) (o.x.toNat % 2 ^ 12)).stew n))) := by
  have hexec : execChannelCountClear o s = .next _ := mtsOp_of_ok h
    (t := channelCleared s (cselCore n st) (o.x.toNat % 2 ^ 12)) (by rw [hv, ← stew_of_agent h]; rfl)
  exact hexec

theorem channelCountClear_of_other (hv : word (src s (.stew n st) o .whole o.a false 0) ≠ 0) : exec (.channelCountClear o) s =
    .next (finish s o (.stew n (s.stew n))) := by
  have hexec : execChannelCountClear o s = .next _ := mtsOp_of_ok h (t := s)
    (congrArg (Except.ok ∘ some) (if_pos (bne_iff_ne.mpr hv)))
  exact hexec
end

/-- Settles O43: each register by its write, TRDUMP and WALKGO by the blocks that they write, and SIGCHK by its descriptor. -/
theorem observationRegistersAndSigchk : Obligations.ObservationRegistersAndSigchk := by
  intro o s n st h hlen
  have hst := stew_of_agent h
  dsimp only
  refine ⟨fun hfused => ?release, ?obctl, ?hspill, fun hflush => ?hctl, fun t hflush hfree ht => ?flush, fun hroom hfree => ?trdump,
    fun hroom => ?walkgo, fun w k hwalk => ?walk, fun hv => ?ignored, fun hv => ?clear, sigchk_of_misaligned h rfl,
    sigchk_of_held h rfl, fun halign hfree t desc hdesc => ?sigchk⟩
  case release =>
    have hexec : execObcoreRelease o s = .next _ := mtsCore_of_ok h hfused rfl
    refine ⟨_, hexec, mem_released .., fun i hi => ?_⟩
    have helem := elem_released s (cselCore n st) (word (src s (.stew n st) o .whole o.a false 0)) (List.range 4) i
    change ((released s _ _ _).elem _).stopped = (_ && !bitOf _ _) ∧ ((released s _ _ _).elem _).firing = _
    rw [helem]
    by_cases hb : bitOf (word (src s (.stew n st) o .whole o.a false 0)) i = true <;> simp [hb, hi]
  case obctl =>
    generalize hv : word (src s (.stew n st) o .whole o.a false 0) = v
    have hten : bitOf (setBits v 61 32 0) 63 = v.getLsbD 63 := (testBit_setBits v 0 (by decide) (by decide)).trans (if_neg (by decide))
    refine ⟨_, obctlWrite_of_agent h hv, ?_⟩
    rw [cluster_finish_stew]
    refine ⟨?_, ?_, fun htraces hothers => ?_, fun hnot => ?_⟩
    · rw [bits_obctl_obctlWritten hlen (by decide) (by decide)]
      exact bits_setBits_of_disjoint v 0 (by decide) (by decide) (by decide) (.inl (by decide))
    · rw [bits_obctl_obctlWritten hlen (by decide) (by decide), bits_setBits_self v 0 (by decide) (by decide), Nat.zero_mod]
    · rw [cluster_obctlWritten_of_traces hlen (hten.trans htraces) hothers]
      exact ⟨hten.trans htraces, rfl, rfl, rfl, rfl⟩
    · rw [cluster_obctlWritten_of_not hlen (by rwa [hten])]
      exact ⟨(testBit_setBits _ 0 (by decide) (by decide)).trans ((if_pos (by decide)).trans (Nat.zero_testBit _)), rfl⟩
  case hspill =>
    have hexec : execHspillWrite o s = .next _ := mtsOp_of_ok h rfl
    refine ⟨_, hexec, ?_⟩
    simp only [cluster_finish_stew, State.cluster_setCluster hlen, and_self]
  case hctl =>
    refine ⟨_, hctlEnable_of_no_flush h rfl hflush, ?_⟩
    rw [cluster_finish_stew, hctlWritten, State.cluster_setCluster hlen]
    exact ⟨rfl, rfl, rfl, rfl⟩
  case flush => exact hctlEnable_of_flush h rfl hflush hfree ht
  case trdump =>
    obtain ⟨t, ht⟩ := writeRing_ok n (s.cluster (stewCluster n)) (s.setCluster (stewCluster n)
      { s.cluster (stewCluster n) with obctl := setBits (s.cluster (stewCluster n)).obctl 63 63 0 }) hroom
    exact ⟨t, ht, trdump_of_written h rfl hfree ht⟩
  case walkgo => exact walkgo_of_room h rfl hroom rfl
  case walk =>
    refine ⟨walkClocks_of_going hwalk, fun halign hroom hrecords hfree => ?_⟩
    have hrecords : (walkRecords s (stewCluster n) w k).length = 128 := hrecords
    obtain ⟨t, ht⟩ := writeRecords_ok (stewCluster n) (walkRecords s (stewCluster n) w k) s (a := w.pa) (by omega) (by omega)
    exact ⟨t, ht, walkClocks_of_done hwalk hrecords hfree ht⟩
  case ignored => exact channelCountClear_of_other h hv
  case clear =>
    refine ⟨_, channelCountClear_of_zero h hv, fun hnum => ?_, fun hnum => ?_, fun hnum => ?_⟩ <;> rw [hnum]
    · exact channelCleared_full s _
    · exact channelCleared_empty s _
    · exact channelCleared_move s _
  case sigchk =>
    have hdescriptor := sigchk_of_descriptor h rfl halign hfree hdesc
    simp only [Bool.or_eq_true, decide_eq_true_eq, sigStatus_eq] at hdescriptor
    refine ⟨fun hbad => hdescriptor.trans (congrArg _ (if_pos hbad)), fun hlen hslot hkey => ?nokey,
      fun hlen hslot key hkey hmsg hsig t1 msg t2 sig hreadMsg hreadSig => ?checked⟩
    case nokey =>
      have hkey : (t.die (stewDie n)).keys.getD (descWord desc 3) none = none := hkey
      rw [hdescriptor, if_neg (by simp only [descWord]; omega), hkey]
    case checked =>
      have hkey : (t.die (stewDie n)).keys.getD (descWord desc 3) none = some key := hkey
      have hreadMsg : physRead t n (descWord desc 0) (descWord desc 1) = (t1, .ok msg) := hreadMsg
      have hreadSig : physRead t1 n (descWord desc 2) 114 = (t2, .ok sig) := hreadSig
      have hfree : ¬ (physHolds t n (descWord desc 0) (descWord desc 1) = true ∨ physHolds t n (descWord desc 2) 114 = true) := by
        simp only [descWord, hmsg, hsig, Bool.false_eq_true, or_self, not_false_eq_true]
      rw [hdescriptor, if_neg (by simp only [descWord]; omega), hkey]
      simp only [hfree, if_false, hreadMsg, hreadSig]

end Sys2Proof.Machine
end

section
/-! The events of energy, scrubbing and observation (R376, R377, R390, R415, R418, R471, R475). -/

namespace Sys2Proof.Machine

/-! ## Bits of a word -/

/-- The bit of a word that a one-bit field writes, and the others. -/
theorem bitOf_setBits_bit {i j : Nat} (w : W64) (b : Bool) (hj : j < 64) : bitOf (setBits w i i (ofBool b)) j = if j = i then b else bitOf w j := by
  rw [bitOf, testBit_setBits w _ (Nat.le_refl i) hj]
  by_cases hji : j = i
  · subst hji
    cases b <;> simp [ofBool]
  · rw [if_neg (by omega), if_neg hji, bitOf]

/-- The throttles of GOVSTAT after a tick of a die (R418). -/
theorem bitOf_setThrottle {d j : Nat} (v : W64) (slow fast : Bool) (hj : j < 8) : bitOf (setThrottle v d slow fast) j =
    if j = 4 + d then slow else if j = d then fast else bitOf v j := by
  rw [setThrottle, bitOf_setBits_bit _ _ (by omega), bitOf_setBits_bit _ _ (by omega)]

/-- A die is read beside the package's registers. -/
theorem die_setDie_pkg {s : State} {n : Nat} {x : Die} {p : Package} (h : n < s.dies.length) :
    ({ s.setDie n x with pkg := p } : State).die n = x := State.die_setDie h

/-! ## Spilled counts (R475) -/

theorem spillHeld_of_full {s : State} {cl n : Nat} (h : spillLength (s.cluster cl) < (s.cluster cl).hspillAt + n) :
    spillHeld s cl (s.cluster cl).hspillAt n = false := by
  rw [spillHeld, decide_eq_false (by omega), Bool.false_and]

theorem spillEntry_of_full {s : State} {cl : Nat} (x : CountEntry) (h : spillLength (s.cluster cl) < (s.cluster cl).hspillAt + 16) :
    spillEntry s cl x = loseCounts s cl x.count := if_pos h

/-- What an eviction does with the entry that was evicted first. -/
theorem countSpill_of_evicted {s : State} {x : CountEntry} {rest : List CountEntry} {n : Nat} (hn : s.event.unit = n)
    (h : (s.cluster n).evicted = x :: rest) : exec .countSpill s = .next (
      if spillHeld s n (s.cluster n).hspillAt 16 then s
      else spillEntry (s.setCluster n { s.cluster n with evicted := rest }) n x) := by
  subst hn
  change execCountSpill s = _
  simp only [execCountSpill, h]

/-! ## The edge of a window (R377, R390, R418, R419) -/

/-- A die as a new window finds it. -/
def windowDie (d : Die) : Die :=
  { d with eused := [], lean := [], leanNow := [], ewin := d.ewin + 1, ewindow := 0, freq := d.freq.mapVals 0 fun _ v => v / 2 }

/-- A change of every die changes each. -/
theorem die_map {s t : State} {f : Die → Die} (ht : t.dies = s.dies.map f) {d : Nat} (hd : d < s.dies.length) : t.die d = f (s.die d) := by
  simp [State.die, ht, List.getD, hd]

/-- Settles O53: each event by what it leaves in its die, its cluster and the package. -/
theorem energyAndObservationEvents : Obligations.EnergyAndObservationEvents := by
  intro s
  dsimp only
  generalize hn : s.event.unit = n
  refine ⟨fun hlen => ?energyTick, fun hlt hlen => ?governorTick, ?windowEdge, fun hlen => ?celhot, fun hlen => ?scrub,
    fun hlen k htrigger hpost => ?freeze, fun hlen x rest hevicted => ?spill⟩
  case energyTick =>
    refine ⟨_, rfl, ?_⟩
    rw [hn, State.die_setDie hlen]
    exact ⟨rfl, fun i => by simp, rfl⟩
  case governorTick =>
    have hexec : execGovernorTick s = .next _ := rfl
    rw [hn, if_pos hlt] at hexec
    refine ⟨_, hexec, ?_⟩
    rw [die_setDie_pkg hlen]
    refine ⟨rfl, rfl, ?_, ?_, ?_⟩
    · rw [bitOf_setThrottle _ _ _ (by omega), if_pos rfl, Bool.or_eq_true, decide_eq_true_eq]
    · intro hfast
      rw [bitOf_setThrottle _ _ _ (by omega), if_neg (by omega), if_pos rfl, List.take_succ_cons, decide_eq_true hfast, Bool.true_or]
    · intro d hd hne
      rw [bitOf_setThrottle _ _ _ (by omega), bitOf_setThrottle _ _ _ (by omega), if_neg (by omega), if_neg (by omega),
        if_neg (by omega), if_neg (by omega)]
      exact ⟨rfl, rfl⟩
  case windowEdge =>
    refine ⟨_, rfl, rfl, ?_, rfl, rfl, fun d hd => ?_⟩
    · exact (bits_setBits_self _ 0 (by decide) (by decide)).trans (Nat.zero_mod _)
    · rw [die_map (f := windowDie) rfl hd]
      exact ⟨rfl, rfl, rfl, rfl, rfl, fun k => Tab.get_mapVals rfl⟩
  case celhot =>
    refine ⟨_, rfl, ?_⟩
    rw [hn, State.die_setDie hlen]
    exact ⟨rfl, rfl, rfl⟩
  case scrub =>
    have hexec : execPatrolScrub s = .next _ := rfl
    rw [hn] at hexec
    refine ⟨_, hexec, ?_⟩
    rw [State.die_setDie (by exact hlen)]
    refine ⟨rfl, ?_, rfl, rfl⟩
    rw [List.any_eq_false]
    simp
  case freeze =>
    have hexec : execTraceFreeze s = .next _ := rfl
    rw [hn, htrigger, if_pos (by simpa using hpost)] at hexec
    refine ⟨_, hexec, ?_⟩
    rw [State.cluster_setCluster hlen]
    exact ⟨rfl, rfl, rfl⟩
  case spill =>
    have hspill := countSpill_of_evicted hn hevicted
    refine ⟨fun hheld => ?_, fun hfree => ?_, fun hfull => ?_⟩
    · rw [hspill, if_pos hheld]
    · rw [hspill, if_neg (by simp [hfree])]
    · have hcluster := State.cluster_setCluster (x := { s.cluster n with evicted := rest }) hlen
      rw [spillHeld_of_full hfull, if_neg (by decide), spillEntry_of_full _ (by rw [hcluster]; exact hfull), loseCounts] at hspill
      refine ⟨_, hspill, ?_⟩
      rw [hcluster, State.cluster_setCluster (by simpa using hlen)]
      exact ⟨rfl, rfl, rfl, rfl, rfl⟩

end Sys2Proof.Machine
end

section
/-! The engine, muster, remote and ownership instructions of a firing (R401 to R404, R437, R438, R442, R446, R463). -/

namespace Sys2Proof.Machine

open Safety (Issues CompletesAs BuffersRequest permitted)

/-! ## Fields of an instruction word -/

/-- A field of X by division. -/
theorem xField_eq_div (x : BitVec 29) (hi lo : Nat) : xField x hi lo = x.toNat / 2 ^ lo % 2 ^ (hi - lo + 1) := by
  rw [xField, Nat.shiftRight_eq_div_pow]

theorem memReply_eq (o : Ops) : memReply o = o.x.toNat / 2 ^ 18 % 32 := xField_eq_div o.x 22 18

/-- The twelve lowest bits of a word of a number. -/
theorem bits_word_low12 (b : Nat) : bits (word b) 11 0 = b % 4096 := by
  rw [bits, word, BitVec.toNat_ofNat, Nat.shiftRight_zero]
  omega

/-- A device by the twelve bits of a target descriptor. -/
theorem deviceNamed_word (s : State) (b : Nat) : deviceNamed s (bits (word b) 11 0) = if b % 4096 = 0xFFF then s.devId else b % 4096 := by
  rw [bits_word_low12, deviceNamed]

/-! ## Requests of a firing -/

/-- A request carries the firing that issues it. -/
def IssuedBy (e : Nat) (f : Firing) (r : Req) : Prop :=
  r.elem = e ∧ r.ctx = f.frame.ctx ∧ r.ent = f.frame.ent ∧ r.slot = f.slot ∧ r.ts = f.frame.ts

/-- Completion with one more request is what the statements ask for. -/
theorem buffersRequest_of_addReq {i : Instr} {o : Ops} {s : State} {e : Nat} {f : Firing} {P : Req → Prop} (r : Req)
    (hexec : exec i s = .next (finish s o (.firing e (f.addReq r (routeWord s e f.frame.ctx r.route))))) (hby : IssuedBy e f r) (hP : P r) :
    BuffersRequest i o s e f P := by
  obtain ⟨helem, hctx, hent, hslot, hts⟩ := hby
  exact ⟨r, hP, helem, hctx, hent, hslot, hts, hexec⟩

/-- The request of COPY or ISTRM of a firing. -/
def firingEngineReq (s : State) (e : Nat) (f : Firing) (o : Ops) (kind : ReqKind) : Req :=
  { engineReq s (.firing e f) o (newReq s e f kind (memReply o)) with ranges := ctxRanges s e f.frame.ctx }

/-- The request of JOIN or LEAVE: the set and its keeper by the route, the member by its location and side. -/
def memberReq (s : State) (e : Nat) (f : Firing) (o : Ops) (kind : ReqKind) : Req :=
  let rt := routeWord s e f.frame.ctx (xField o.x 28 24)
  let loc := locOf s.devId (coreOf e) (e % 4) f.frame.ctx (xField o.x 22 20)
  { newReq s e f kind (xField o.x 17 13) with
    op := routeMid rt, dev := routeDev s rt, aux := word (loc * 4 + xField o.x 19 18), cmp := word (ctxImage s e f.frame.ctx) }

section
variable {s : State} {e : Nat} {f : Firing} (h : Issues s e f) {o : Ops}
include h

/-- An instruction of either mode does what it says for the firing that moves. -/
theorem withAgent_of_issues (k : Agent → State) : withAgent s k = .next (k (.firing e f)) := by
  rw [withAgent, h.1]

/-- COPY and ISTRM with a well-formed descriptor and permitted runs (R401, R402). -/
theorem engineInstr_of_permitted {kind : ReqKind} (hdesc : engineDescBad (firingEngineReq s e f o kind) = false)
    (hchecks : issueChecks s e f.frame.ctx (engineParts (firingEngineReq s e f o kind)) = none) :
    engineInstr o s kind = .next (finish s o (.firing e (f.addReq (firingEngineReq s e f o kind)
      (routeWord s e f.frame.ctx (memReply o))))) := by
  refine (withAgent_of_issues h _).trans (congrArg _ ?_)
  change (if bufferBusy s e f then s else if engineDescBad (firingEngineReq s e f o kind) then _
    else match issueReq s e f (engineParts (firingEngineReq s e f o kind)) (firingEngineReq s e f o kind) with
      | .error w => raise s w.1 w.2
      | .ok f => finish s o (.firing e f)) = _
  rw [h.2, if_neg (by decide), hdesc, if_neg (by decide), issueReq, hchecks]
  rfl

/-- JOIN and LEAVE to a keeper in reach (R442). -/
theorem memberInstr_of_alive {kind : ReqKind} (halive : deadPeer s (memberReq s e f o kind).dev = false) : memberInstr o s kind =
    .next (finish s o (.firing e (f.addReq (memberReq s e f o kind) (routeWord s e f.frame.ctx (xField o.x 17 13))))) := by
  refine buffered_ok h ?_
  change (if deadPeer s (memberReq s e f o kind).dev then _
    else Except.ok (f.addReq (memberReq s e f o kind) (routeWord s e f.frame.ctx (xField o.x 17 13)))) = _
  rw [halive, if_neg (by decide)]

/-! ## Remote accesses (R437, R438) -/

variable {kind : ReqKind} {form : State → Agent → Ops → Req → Req} {r : Req} (hr : form s (.firing e f) o (newReq s e f kind (memReply o)) = r)
include hr

/-- A remote access but RST that names a muster (R440). -/
theorem remoteInstr_of_muster (hkind : r.kind = kind) (hne : kind ≠ .rst) (hmuster : targetMuster r.aux = true) :
    remoteInstr o s kind form = .next (raise s Cause.badtarget r.aux) := by
  refine (withAgent_of_issues h _).trans (congrArg _ ?_)
  simp [h.2, hr, withRemoteData, hkind, hne, hmuster]

/-- A remote access whose container and run are checked. -/
theorem remoteInstr_of_permitted (hkind : r.kind = kind) (hdata : kind = .rst → containerBad (.bits r.ty) (low (Ty.width r.ty) r.data.toNat) = false)
    (hmuster : kind = .rst ∨ targetMuster r.aux = false)
    (hchecks : permitted s e f.frame.ctx 3 r.ea r.size (kind != .rst) (kind != .rld)) :
    remoteInstr o s kind form = .next (if deadPeer s r.dev then raise s Cause.deadpeer (word r.dev)
      else finish s o (.firing e (f.addReq r (routeWord s e f.frame.ctx r.route)))) := by
  refine (withAgent_of_issues h _).trans (congrArg _ ?_)
  rw [permitted] at hchecks
  have hnone : (targetMuster r.aux && kind != .rst) = false := by rcases hmuster with hm | hm <;> simp [hm]
  simp only [h.2, Bool.false_eq_true, if_false, hr, hnone, issueReq, onePart, hchecks, withRemoteData, withContainer]
  by_cases hrst : kind = .rst
  · rw [if_pos (hkind.trans hrst), hdata hrst, if_neg (by decide)]
  · rw [if_neg (by rwa [hkind])]

/-- An RST of a malformed container (R72). -/
theorem remoteInstr_of_malformed (hkind : r.kind = .rst) (hbad : containerBad (.bits r.ty) (low (Ty.width r.ty) r.data.toNat) = true) :
    remoteInstr o s kind form = .next (raise s Cause.aifrange (word (low (Ty.width r.ty) r.data.toNat))) := by
  refine (withAgent_of_issues h _).trans (congrArg _ ?_)
  simp only [h.2, Bool.false_eq_true, if_false, hr, withRemoteData, withContainer, hkind, if_true, hbad]
end

/-- An access moves at most 256 bytes, which a request's data holds. -/
theorem toNat_data (n v : Nat) : (BitVec.ofNat 2048 (low (8 * sizeBytes n) v)).toNat = low (8 * sizeBytes n) v := by
  have hsize : 8 * sizeBytes n ≤ 2048 := by
    unfold sizeBytes
    split <;> decide
  have hlt : v % 2 ^ (8 * sizeBytes n) < 2 ^ (8 * sizeBytes n) := Nat.mod_lt _ (Nat.two_pow_pos _)
  rw [BitVec.toNat_ofNat, low, Nat.mod_eq_of_lt (lt_of_lt_of_le hlt (Nat.pow_le_pow_right (by decide) hsize))]

/-- The request of COLL: the collective in the fields of X, the set and its keeper by the route. -/
def collReq (s : State) (e : Nat) (f : Firing) (o : Ops) : Req :=
  let rt := routeWord s e f.frame.ctx (xField o.x 17 13)
  { newReq s e f .coll (memReply o) with
    ea := srcWord s (.firing e f) o o.a, aux := word (srcWord s (.firing e f) o o.b), cmp := word (srcWord s (.firing e f) o (thirdSpec o)),
    ty := o.ty, m := o.m, op := xField o.x 12 9 + 16 * xField o.x 8 6 + 128 * xField o.x 5 3, size := routeMid rt, dev := routeDev s rt,
    scope := fabricScope }

/-- The request of OWNQ. -/
def ownqReq (s : State) (e : Nat) (f : Firing) (o : Ops) : Req :=
  { newReq s e f .ownq (memReply o) with
    ea := srcWord s (.firing e f) o o.a, dev := homeDevice s (pageOfVa (srcWord s (.firing e f) o o.a)) }

/-- The request of TLWAIT or TLRD. -/
def timelineReq (s : State) (e : Nat) (f : Firing) (o : Ops) (kind : ReqKind) : Req :=
  { newReq s e f kind (memReply o) with
    aux := word (srcWord s (.firing e f) o o.a),
    data := BitVec.ofNat 2048 (if kind = .tlwait then srcWord s (.firing e f) o o.b else 0),
    op := if kind = .tlwait then 0 else xField o.x 1 0 }

section
variable {s : State} {e : Nat} {f : Firing} (h : Issues s e f) {o : Ops}
include h

/-- COLL with a well-formed descriptor to a keeper in reach (R446). -/
theorem coll_of_alive (hdesc : collDescBad (collReq s e f o).cmp = false) (halive : deadPeer s (collReq s e f o).dev = false) :
    exec (.coll o) s = .next (finish s o (.firing e (f.addReq (collReq s e f o) (routeWord s e f.frame.ctx (memReply o))))) := by
  refine (withAgent_of_issues h _).trans (congrArg _ ?_)
  change (if bufferBusy s e f then s else if collDescBad (collReq s e f o).cmp then raise s Cause.engdesc (collReq s e f o).cmp
    else if deadPeer s (collReq s e f o).dev then raise s Cause.deadpeer (word (collReq s e f o).dev)
    else finish s o (.firing e (f.addReq (collReq s e f o) (routeWord s e f.frame.ctx (memReply o))))) = _
  rw [h.2, hdesc, halive]
  rfl

/-- OWNQ of an address in range whose home is in reach (R463). -/
theorem ownq_of_permitted (hchecks : permitted s e f.frame.ctx 3 (ownqReq s e f o).ea 1 true false)
    (halive : fabricGlobal (ownqReq s e f o).ea = true → deadPeer s (ownqReq s e f o).dev = false) :
    exec (.ownq o) s = .next (finish s o (.firing e (f.addReq (ownqReq s e f o) (routeWord s e f.frame.ctx (memReply o))))) := by
  refine (withAgent_of_issues h _).trans (congrArg _ ?_)
  change (if bufferBusy s e f then s
    else match issueChecks s e f.frame.ctx [{ space := 3, ea := (ownqReq s e f o).ea, len := 1, align := 1, rd := true, wr := false }] with
      | some w => raise s w.1 w.2
      | none => if fabricGlobal (ownqReq s e f o).ea && deadPeer s (ownqReq s e f o).dev then
          raise s Cause.deadpeer (word (ownqReq s e f o).dev)
        else finish s o (.firing e (f.addReq (ownqReq s e f o) (routeWord s e f.frame.ctx (memReply o))))) = _
  rw [permitted] at hchecks
  rw [h.2, if_neg (by decide), hchecks]
  exact if_neg (by simpa using halive)

/-- TLWAIT and TLRD (R403, R404). -/
theorem timelineInstr_of_issues {kind : ReqKind} (perform : State → Req → State × Perf) : timelineInstr o s kind perform =
    .next (finish s o (.firing e (f.addReq (timelineReq s e f o kind) (routeWord s e f.frame.ctx (memReply o))))) := by
  refine (withAgent_of_issues h _).trans (congrArg _ ?_)
  change (if bufferBusy s e f then s else _) = _
  rw [h.2, if_neg (by decide)]
  rfl
end

/-- Settles O27: each instruction by the request that it places, or by the check that it fails. -/
theorem firingFabricInstructions : Obligations.FiringFabricInstructions := by
  intro o s e f h
  dsimp only
  have hroute : o.x.toNat / 2 ^ 13 % 32 = xField o.x 17 13 := (xField_eq_div o.x 17 13).symm
  have hkeeper : o.x.toNat / 2 ^ 24 % 32 = xField o.x 28 24 := (xField_eq_div o.x 28 24).symm
  have hsize : o.x.toNat / 2 ^ 15 % 8 = xField o.x 17 15 := (xField_eq_div o.x 17 15).symm
  have hoffset : o.x.toNat % 2 ^ 15 = xField o.x 14 0 := rfl
  rw [← memReply_eq, hroute, hkeeper, hsize, hoffset, ← deviceNamed_word]
  refine ⟨?engine, ?tlwait, ?tlrd, fun hdesc halive => ?coll, fun halive => ?member, ⟨fun hchecks hmuster => ?rld, fun hdata hchecks => ?rst⟩,
    fun hmuster halive hchecks => ?ratom, fun hchecks halive => ?ownq, fun hbad => ?malformed, fun hmuster => ?muster,
    fun hmuster hdead hchecks => ?ratomDead⟩
  case engine =>
    simp only [List.forall_mem_cons, List.not_mem_nil, false_implies, implies_true, and_true]
    refine ⟨fun hdesc hchecks => ?_, fun hdesc hchecks => ?_⟩
    · exact buffersRequest_of_addReq (firingEngineReq s e f o .copy) (engineInstr_of_permitted h hdesc hchecks) ⟨rfl, rfl, rfl, rfl, rfl⟩
        ⟨rfl, rfl, rfl, rfl, rfl⟩
    · exact buffersRequest_of_addReq (firingEngineReq s e f o .istrm) (engineInstr_of_permitted h hdesc hchecks) ⟨rfl, rfl, rfl, rfl, rfl⟩
        ⟨rfl, rfl, rfl, rfl, rfl⟩
  case tlwait =>
    exact buffersRequest_of_addReq (timelineReq s e f o .tlwait) (timelineInstr_of_issues h waitOp) ⟨rfl, rfl, rfl, rfl, rfl⟩
      ⟨rfl, rfl, rfl, rfl⟩
  case tlrd =>
    exact buffersRequest_of_addReq (timelineReq s e f o .tlrd) (timelineInstr_of_issues h readTimeline) ⟨rfl, rfl, rfl, rfl, rfl⟩
      ⟨rfl, rfl, rfl, rfl⟩
  case coll =>
    exact buffersRequest_of_addReq (collReq s e f o) (coll_of_alive h hdesc halive) ⟨rfl, rfl, rfl, rfl, rfl⟩
      ⟨rfl, rfl, rfl, rfl, rfl, rfl, rfl, rfl, rfl⟩
  case member =>
    have hside : o.x.toNat / 2 ^ 18 % 4 = xField o.x 19 18 := (xField_eq_div o.x 19 18).symm
    have hentry : o.x.toNat / 2 ^ 20 % 8 = xField o.x 22 20 := (xField_eq_div o.x 22 20).symm
    simp only [List.forall_mem_cons, List.not_mem_nil, false_implies, implies_true, and_true, hside, hentry]
    refine ⟨?_, ?_⟩
    · exact buffersRequest_of_addReq (memberReq s e f o .join) (memberInstr_of_alive h halive) ⟨rfl, rfl, rfl, rfl, rfl⟩
        ⟨rfl, rfl, rfl, rfl, rfl, rfl⟩
    · exact buffersRequest_of_addReq (memberReq s e f o .leave) (memberInstr_of_alive h halive) ⟨rfl, rfl, rfl, rfl, rfl⟩
        ⟨rfl, rfl, rfl, rfl, rfl, rfl⟩
  case rld =>
    have hexec : execRld o s = _ := remoteInstr_of_permitted h rfl rfl (fun hrst => nomatch hrst) (.inr hmuster) hchecks
    refine ⟨fun halive => ?_, fun hdead => hexec.trans (congrArg _ (if_pos hdead))⟩
    exact buffersRequest_of_addReq (remoteReq s (.firing e f) o (newReq s e f .rld (memReply o)))
      (hexec.trans (congrArg _ (if_neg (Bool.eq_false_iff.mp halive)))) ⟨rfl, rfl, rfl, rfl, rfl⟩ ⟨rfl, rfl, rfl, rfl, rfl⟩
  case rst =>
    have hcontainer : containerBad (.bits o.ty) (low (Ty.width o.ty) (remoteReq s (.firing e f) o (newReq s e f .rst (memReply o))).data.toNat) =
        false := (congrArg (fun d => containerBad (.bits o.ty) (low (Ty.width o.ty) d)) (toNat_data ..)).trans hdata
    have hexec : execRst o s = _ := remoteInstr_of_permitted h rfl rfl (fun _ => hcontainer) (.inl rfl) hchecks
    refine ⟨fun halive => ?_, fun hdead => hexec.trans (congrArg _ (if_pos hdead))⟩
    exact buffersRequest_of_addReq (remoteReq s (.firing e f) o (newReq s e f .rst (memReply o)))
      (hexec.trans (congrArg _ (if_neg (Bool.eq_false_iff.mp halive)))) ⟨rfl, rfl, rfl, rfl, rfl⟩ ⟨rfl, rfl, rfl, rfl, rfl, rfl, rfl⟩
  case ratom =>
    have hexec : execRatom o s = _ := remoteInstr_of_permitted h rfl rfl (fun hrst => nomatch hrst) (.inr hmuster) hchecks
    have hop : o.x.toNat / 2 ^ 14 % 16 = aopOf o.x := (xField_eq_div o.x 17 14).symm
    have hdata : (if Ty.isFloat o.ty then src s (.firing e f) o (.typed o.ty) (thirdSpec o) false 0
        else src s (.firing e f) o .whole (thirdSpec o) false 0) = atomOperand s (.firing e f) o (thirdSpec o) := by
      rw [atomOperand]
      split <;> rfl
    rw [hop, hdata]
    exact buffersRequest_of_addReq (remoteAtomReq s (.firing e f) o (newReq s e f .ratom (memReply o)))
      (hexec.trans (congrArg _ (if_neg (Bool.eq_false_iff.mp halive)))) ⟨rfl, rfl, rfl, rfl, rfl⟩ ⟨rfl, rfl, rfl, rfl, rfl, rfl, rfl⟩
  case ownq =>
    exact buffersRequest_of_addReq (ownqReq s e f o) (ownq_of_permitted h hchecks halive) ⟨rfl, rfl, rfl, rfl, rfl⟩ ⟨rfl, rfl, rfl⟩
  case malformed =>
    have hexec : execRst o s = _ := remoteInstr_of_malformed h (r := remoteReq s (.firing e f) o (newReq s e f .rst (memReply o))) rfl rfl
      ((congrArg (fun d => containerBad (.bits o.ty) (low (Ty.width o.ty) d)) (toNat_data ..)).trans hbad)
    exact hexec.trans (congrArg (fun d => Host.Outcome.next (raise s Cause.aifrange (word (low (Ty.width o.ty) d)))) (toNat_data ..))
  case muster =>
    have hrld : execRld o s = _ := remoteInstr_of_muster h rfl rfl (by decide) hmuster
    have hratom : execRatom o s = _ := remoteInstr_of_muster h rfl rfl (by decide) hmuster
    exact ⟨hrld, hratom⟩
  case ratomDead =>
    have hexec : execRatom o s = _ := remoteInstr_of_permitted h rfl rfl (fun hrst => nomatch hrst) (.inr hmuster) hchecks
    exact hexec.trans (congrArg _ (if_pos hdead))

end Sys2Proof.Machine
end

section
/-! The engine, remote and ownership instructions of steward-mode cores (R337, R398 to R404, R438, R463 to R465). -/

namespace Sys2Proof.Machine

/-- A steward-mode core goes on with an operation's result, traps with its failure, asks again, or waits for its outcome. -/
def stewPerf (o : Ops) (n : Nat) (r : Req) : State × Perf → State
  | (s, .done v _) => finish s o ((Agent.stew n (s.stew n)).setScalar o.d (v.toNat % 2 ^ 64))
  | (s, .fail w) => raise s w.1 w.2
  | (s, .stay) => s
  | (s, .taken) => s.setStew n { s.stew n with waiting := some (.request r, Spec.code o.d) }

/-- The runs of an engine operation stand in their spaces, and are aligned (R401, R402). -/
def PartsAddressed (s : State) (n : Nat) (st : Stew) (parts : List Part) : Prop :=
  ∀ p ∈ parts, (∃ u, stewAddr s n st p.space p.ea = .ok u) ∧ (∃ u, stewAddr s n st p.space (p.ea + p.len - 1) = .ok u) ∧
    (p.space = 1 → ∀ a ∈ coreSteps p.ea p.len, ∃ u, stewAddr s n st 1 a = .ok u) ∧ p.ea % p.align = 0

/-- No address of such a run fails. -/
theorem ok_of_partsAddressed {s : State} {n : Nat} {st : Stew} {parts : List Part} (h : PartsAddressed s n st parts) {p : Part} (hp : p ∈ parts)
    {a : Nat} (ha : a ∈ p.ea :: (if p.space = 1 then coreSteps p.ea p.len else []) ++ [p.ea + p.len - 1]) :
    ∃ u, stewAddr s n st p.space a = .ok u := by
  obtain ⟨hfirst, hlast, hsteps, -⟩ := h p hp
  rw [List.mem_append, List.mem_cons, List.mem_singleton] at ha
  rcases ha with (rfl | ha) | rfl
  · exact hfirst
  · split at ha
    · next hspace => rw [hspace]; exact hsteps hspace a ha
    · cases ha
  · exact hlast

/-- The request of TLWAIT or TLRD of a steward-mode core. -/
def stewTimelineReq (s : State) (n : Nat) (st : Stew) (o : Ops) (kind : ReqKind) : Req :=
  { stewReq n kind with
    aux := word (srcWord s (.stew n st) o o.a),
    data := BitVec.ofNat 2048 (if kind = .tlwait then srcWord s (.stew n st) o o.b else 0),
    op := if kind = .tlwait then 0 else xField o.x 1 0 }

/-- A steward-mode core issues from its die. -/
theorem issueDie_stewTimelineReq (s : State) (n : Nat) (st : Stew) (o : Ops) (kind : ReqKind) :
    (stewTimelineReq s n st o kind).issueDie = stewDie n := by
  have helem : (stewTimelineReq s n st o kind).elem = stewMark + n := rfl
  rw [Req.issueDie, Req.ofStew, helem, if_pos (decide_eq_true (Nat.le_add_right ..)), Nat.add_sub_cancel_left]

section
variable {s : State} {n : Nat} {st : Stew} (h : s.agent = some (.stew n st)) {o : Ops}
include h

/-- An instruction of either mode does what it says for the steward-mode core that moves. -/
theorem withAgent_of_stew (k : Agent → State) : withAgent s k = .next (k (.stew n st)) := by
  rw [withAgent, h]

/-! ## Engines (R401 to R404) -/

theorem engineInstr_of_addressed {kind : ReqKind} (hdesc : engineDescBad (engineReq s (.stew n st) o (stewReq n kind)) = false)
    (hparts : PartsAddressed s n st (engineParts (engineReq s (.stew n st) o (stewReq n kind)))) : engineInstr o s kind =
    .next (stewPerf o n (engineReq s (.stew n st) o (stewReq n kind)) (acceptOp s (engineReq s (.stew n st) o (stewReq n kind)))) := by
  refine (withAgent_of_stew h _).trans (congrArg _ ?_)
  dsimp only
  rw [hdesc, if_neg (by decide)]
  generalize engineReq s (.stew n st) o (stewReq n kind) = r at *
  rw [List.findSome?_eq_none_iff.mpr ?addr]
  case addr =>
    intro p hp
    rw [List.findSome?_eq_none_iff]
    intro a ha
    obtain ⟨u, hu⟩ := ok_of_partsAddressed hparts hp ha
    rw [hu]
  dsimp only
  rw [List.find?_eq_none.mpr fun p hp => by simp [(hparts p hp).2.2.2]]
  rcases acceptOp s r with ⟨t, v | w | _ | _⟩ <;> rfl

theorem timelineInstr_of_stew {kind : ReqKind} (perform : State → Req → State × Perf) : timelineInstr o s kind perform =
    .next (stewPerf o n (stewTimelineReq s n st o kind) (perform s (stewTimelineReq s n st o kind))) := by
  refine (withAgent_of_stew h _).trans (congrArg _ ?_)
  change (match perform s (stewTimelineReq s n st o kind) with
    | (s, .done v _) => finish s o ((Agent.stew n (s.stew n)).setScalar o.d (low 64 v.toNat))
    | (s, .fail w) => raise s w.1 w.2
    | (s, .stay) => s
    | (s, .taken) => s.setStew n { s.stew n with waiting := some (.request (stewTimelineReq s n st o kind), Spec.code o.d) }) = _
  rcases perform s (stewTimelineReq s n st o kind) with ⟨t, v | w | _ | _⟩ <;> rfl

/-- TLRD answers at once from an engine in reach (R404). -/
theorem tlrd_of_reached {g v : Nat} (hg : handleOf (stewTimelineReq s n st o .tlrd).aux = g)
    (hbound : engineRefuses s (stewTimelineReq s n st o .tlrd) g = false) (hreach : bothReach s (stewDie n) (handleDie g) = true)
    (hlt : v < 2 ^ 64)
    (hv : (if o.x.toNat % 4 = 0 then (s.engine g).etl else if o.x.toNat % 4 = 1 then (s.engine g).faillo else (s.engine g).nextOp) = v) :
    exec (.tlrd o) s = .next (finish s o ((Agent.stew n st).setScalar o.d v)) := by
  have hexec : execTlrd o s = _ := timelineInstr_of_stew h readTimeline
  have hread : readTimeline s (stewTimelineReq s n st o .tlrd) = (s, .done (BitVec.ofNat 2048 v) false) := by
    subst hv hg
    rw [readTimeline, issueDie_stewTimelineReq, hreach, hbound]
    rfl
  refine hexec.trans (congrArg _ ?_)
  rw [hread, stewPerf, stew_of_agent h, BitVec.toNat_ofNat,
    Nat.mod_eq_of_lt (hlt.trans_le (Nat.pow_le_pow_right (by decide) (by decide))), Nat.mod_eq_of_lt hlt]

/-! ## Ownership (R463 to R465) -/

theorem ownq_of_other (hnot : fabricGlobal (src s (.stew n st) o .whole o.a false 0) = false) :
    exec (.ownq o) s = .next (finish s o ((Agent.stew n st).setScalar o.d ownqNot)) := by
  refine (withAgent_of_stew h _).trans (congrArg _ ?_)
  simp only [srcWord, hnot, Bool.not_false, if_true]

theorem ownq_of_homed (hglobal : fabricGlobal (src s (.stew n st) o .whole o.a false 0) = true)
    (hhome : homesPage s (pageOfVa (src s (.stew n st) o .whole o.a false 0)) = true) :
    exec (.ownq o) s = .next (finish s o ((Agent.stew n st).setScalar o.d (ownqWord s (pageOfVa (src s (.stew n st) o .whole o.a false 0))))) := by
  refine (withAgent_of_stew h _).trans (congrArg _ ?_)
  simp only [srcWord, hglobal, hhome, Bool.not_true, Bool.false_eq_true, if_false, if_true]

/-- The instructions of the reeve trap elsewhere (R337). -/
theorem reeveOnly_of_other (hn : n ≠ 20) (op : Nat) (k : Stew → State) :
    reeveOnly op o s k = .next (raise s Cause.priv (encodeFields op o)) :=
  (withStew_of_agent h _).trans (congrArg _ (if_neg hn))
end

/-! ### The reeve (R464) -/

section
variable {s : State} {st : Stew} (h : s.agent = some (.stew 20 st)) {o : Ops}
include h

theorem reeveOnly_of_reeve (op : Nat) (k : Stew → State) : reeveOnly op o s k = .next (k st) :=
  (withStew_of_agent h _).trans (congrArg _ (if_pos rfl))
end

/-- What the answer of a page's home makes of a MIGR or SGNRCL. -/
def reeveMoved (s : State) (o : Ops) (r : Req) : Option (State × Option Nat) → State
  | none => s
  | some (t, some k) => finish t o ((Agent.stew 20 (t.stew 20)).setScalar o.d (moveResult (pageEntry t (pageOfVa r.ea)).owner k))
  | some (t, none) => reeveWaits t o r

section
variable {s : State} {st : Stew} {o : Ops} {r : Req} {home : Option (State × Option Nat)}

/-- MIGR and SGNRCL of another page (R464). -/
theorem reeveMove_of_other (hnot : fabricGlobal r.ea = false) : reeveMove o s st r home = finish s o ((Agent.stew 20 st).setScalar o.d 6) := by
  simp only [reeveMove, hnot, Bool.not_false, if_true]

/-- MIGR and SGNRCL of a page whose home is here. -/
theorem reeveMove_of_homed (hglobal : fabricGlobal r.ea = true) (hhome : homesPage s (pageOfVa r.ea) = true) :
    reeveMove o s st r home = reeveMoved s o r home := by
  simp only [reeveMove, hglobal, hhome, Bool.not_true, Bool.false_eq_true, if_false]
  rcases home with _ | ⟨t, _ | k⟩ <;> rfl
end

theorem bits_word_tenant (b : Nat) : bits (word b) 19 12 = b / 2 ^ 12 % 256 := by
  rw [bits, word, BitVec.toNat_ofNat, Nat.shiftRight_eq_div_pow]
  omega

/-- The request by which the reeve waits for the answer of its MIGR. -/
def migrReq (s : State) (st : Stew) (o : Ops) : Req :=
  let ea := src s (.stew 20 st) o .whole o.a false 0
  let b := word (src s (.stew 20 st) o .whole o.b false 0)
  { stewReq 20 .ownq with op := 1, ea := ea, aux := setBits b 11 0 (deviceNamed s (bits b 11 0)), dev := homeDevice s (pageOfVa ea) }

/-- The request by which the reeve waits for the answer of its SGNRCL. -/
def sgnrclReq (s : State) (st : Stew) (o : Ops) : Req :=
  let ea := src s (.stew 20 st) o .whole o.a false 0
  { stewReq 20 .ownq with op := 2, ea := ea, dev := homeDevice s (pageOfVa ea) }

theorem ea_migrReq (s : State) (st : Stew) (o : Ops) : (migrReq s st o).ea = src s (.stew 20 st) o .whole o.a false 0 := rfl

theorem ea_sgnrclReq (s : State) (st : Stew) (o : Ops) : (sgnrclReq s st o).ea = src s (.stew 20 st) o .whole o.a false 0 := rfl

/-- What OWNINV leaves of an entry of an owner cache: a CLOSED one stays until the home answers. -/
def ownerKept (o : Ops) (page : Nat) (y : OwnerEntry) : Option OwnerEntry :=
  if !(o.x.toNat.testBit 0 || y.page == page) then some y else if y.closed then some { y with awaits := true } else none

/-- The owner cache of a die after OWNINV. -/
def ownersDropped (o : Ops) (page : Nat) (s : State) (d : Nat) : State :=
  s.setDie d { s.die d with owner := (s.die d).owner.filterMap (ownerKept o page) }

/-- OWNINV drops the entries of the four dies in turn. -/
theorem owninv_of_reeve {s : State} {st : Stew} (h : s.agent = some (.stew 20 st)) (o : Ops) : exec (.owninv o) s = .next (
    let drop := ownersDropped o (pageOfVa (src s (.stew 20 st) o .whole o.a false 0))
    finish (drop (drop (drop (drop s 0) 1) 2) 3) o (.stew 20 st)) := by
  have hexec : execOwninv o s = _ := reeveOnly_of_reeve h 0xDA _
  have hstew (drop : State) (hsame : drop.stewards = s.stewards) : drop.stew 20 = st := by
    rw [State.stew, hsame]
    exact stew_of_agent h
  refine hexec.trans (congrArg _ ?_)
  dsimp only
  rw [hstew (dropOwners s _) rfl]
  rfl

section
variable {s : State} {st : Stew} (h : s.agent = some (.stew 20 st)) {o : Ops}
include h

theorem migr_of_reeve : exec (.migr o) s = .next (reeveMove o s st (migrReq s st o) (homeMigr s (pageOfVa (migrReq s st o).ea)
    (deviceNamed s (bits (word (src s (.stew 20 st) o .whole o.b false 0)) 11 0)) (bits (word (src s (.stew 20 st) o .whole o.b false 0)) 19 12))) := by
  have hexec : execMigr o s = _ := reeveOnly_of_reeve h 0xD8 _
  exact hexec

theorem sgnrcl_of_reeve : exec (.sgnrcl o) s = .next (reeveMove o s st (sgnrclReq s st o) (homeReclaim s (pageOfVa (sgnrclReq s st o).ea))) := by
  have hexec : execSgnrcl o s = _ := reeveOnly_of_reeve h 0xDB _
  exact hexec

variable (hglobal : fabricGlobal (src s (.stew 20 st) o .whole o.a false 0) = true)
  (hhome : homesPage s (pageOfVa (src s (.stew 20 st) o .whole o.a false 0)) = true) {answer : Option (State × Option Nat)}
include hglobal hhome

theorem migr_of_homed (hanswer : homeMigr s (pageOfVa (src s (.stew 20 st) o .whole o.a false 0))
      (deviceNamed s (src s (.stew 20 st) o .whole o.b false 0 % 4096)) (src s (.stew 20 st) o .whole o.b false 0 / 2 ^ 12 % 256) = answer) :
    exec (.migr o) s = .next (reeveMoved s o (migrReq s st o) answer) := by
  rw [migr_of_reeve h, bits_word_low12, bits_word_tenant, ea_migrReq, hanswer]
  exact congrArg _ (reeveMove_of_homed hglobal hhome)

theorem sgnrcl_of_homed (hanswer : homeReclaim s (pageOfVa (src s (.stew 20 st) o .whole o.a false 0)) = answer) :
    exec (.sgnrcl o) s = .next (reeveMoved s o (sgnrclReq s st o) answer) := by
  rw [sgnrcl_of_reeve h, ea_sgnrclReq, hanswer]
  exact congrArg _ (reeveMove_of_homed hglobal hhome)
end

/-! ## Remote accesses (R437 to R440) -/

/-- The data of a remote access passes its check (R72). -/
theorem withRemoteData_of_wellFormed {s : State} {r : Req} {k : State}
    (hdata : r.kind = .rst → containerBad (.bits r.ty) (low (Ty.width r.ty) r.data.toNat) = false) : withRemoteData s r k = k := by
  by_cases hrst : r.kind = .rst
  · rw [withRemoteData, if_pos hrst, withContainer, hdata hrst, if_neg (by decide)]
  · rw [withRemoteData, if_neg hrst]

theorem stewAddr_global {s : State} {n : Nat} {st : Stew} {ea : Nat} (h : ea < 2 ^ 56) : stewAddr s n st 3 ea = .ok ea := by
  rw [stewAddr, if_neg (by decide), if_neg (by decide), if_neg (by decide), if_pos rfl, if_pos h]

section
variable {s : State} {n : Nat} {st : Stew} (h : s.agent = some (.stew n st)) {o : Ops} {kind : ReqKind} {form : State → Agent → Ops → Req → Req}
  {r : Req} (hr : form s (.stew n st) o (stewReq n kind) = r)
  (hdata : r.kind = .rst → containerBad (.bits r.ty) (low (Ty.width r.ty) r.data.toNat) = false)
include h hr hdata

/-- A remote access of a well-formed container that names a muster. -/
theorem remoteInstr_stew_of_muster (hmuster : targetMuster r.aux = true) : remoteInstr o s kind form = .next (raise s Cause.badtarget r.aux) := by
  refine (withAgent_of_stew h _).trans (congrArg _ ?_)
  subst hr
  dsimp only
  rw [withRemoteData_of_wellFormed hdata, if_pos hmuster]

variable (hmuster : targetMuster r.aux = false) (hea : r.ea < 2 ^ 56) (halign : r.ea % r.size = 0)
include hmuster hea halign

/-- A remote access that passes its checks. -/
theorem remoteInstr_stew_of_aligned : remoteInstr o s kind form = .next (
    if deadPeer s r.dev then raise s Cause.deadpeer (word r.dev)
    else if r.dev = s.devId then match remoteAt s (.stew n) (stewDie n) 0 r with
      | (s, .error w) => raise s w.1 w.2
      | (s, .ok none) => s
      | (s, .ok (some v)) => finish s o ((Agent.stew n (s.stew n)).setScalar o.d v)
    else sendAway (s.setStew n { st with waiting := some (.request r, Spec.code o.d) }) r) := by
  refine (withAgent_of_stew h _).trans (congrArg _ ?_)
  subst hr
  dsimp only
  rw [withRemoteData_of_wellFormed hdata, hmuster, if_neg (by decide), stewAddr_global hea, halign]
  rfl
end

section
variable {s : State} {n : Nat} {st : Stew} (h : s.agent = some (.stew n st)) {o : Ops} {kind : ReqKind} {form : State → Agent → Ops → Req → Req}
  {r : Req} (hr : form s (.stew n st) o (stewReq n kind) = r)
  (hdata : r.kind = .rst → containerBad (.bits r.ty) (low (Ty.width r.ty) r.data.toNat) = false)
  {i : Instr} (hi : exec i s = remoteInstr o s kind form)
include h hr hdata hi

/-- What a remote access of a steward-mode core comes to: its checks, and then this device or the fabric. -/
theorem remote_stew :
    (targetMuster r.aux = true → exec i s = .next (raise s Cause.badtarget r.aux)) ∧
    (targetMuster r.aux = false → r.ea < 2 ^ 56 → r.ea % r.size = 0 → deadPeer s r.dev = true →
      exec i s = .next (raise s Cause.deadpeer (word r.dev))) ∧
    (targetMuster r.aux = false → r.ea < 2 ^ 56 → r.ea % r.size = 0 → deadPeer s r.dev = false →
      (r.dev = s.devId → ∀ t v, remoteAt s (.stew n) (stewDie n) 0 r = (t, .ok (some v)) →
        exec i s = .next (finish t o ((Agent.stew n (t.stew n)).setScalar o.d v))) ∧
      (r.dev ≠ s.devId → exec i s = .next (sendAway (s.setStew n { st with waiting := some (.request r, Spec.code o.d) }) r))) := by
  rw [hi]
  refine ⟨remoteInstr_stew_of_muster h hr hdata, fun hmuster hea halign hdead => ?dead,
    fun hmuster hea halign halive => ⟨fun hdev t v hat => ?here, fun hdev => ?away⟩⟩
  case dead => rw [remoteInstr_stew_of_aligned h hr hdata hmuster hea halign, if_pos hdead]
  case here => rw [remoteInstr_stew_of_aligned h hr hdata hmuster hea halign, if_neg (Bool.eq_false_iff.mp halive), if_pos hdev, hat]
  case away => rw [remoteInstr_stew_of_aligned h hr hdata hmuster hea halign, if_neg (Bool.eq_false_iff.mp halive), if_neg hdev]
end

theorem ratom_ne_rst : ReqKind.ratom ≠ .rst := nofun

/-- Settles O28: each instruction by what its operation answers. -/
theorem stewardFabricInstructions : Obligations.StewardFabricInstructions := by
  intro o s n st h
  have hst := stew_of_agent h
  dsimp only
  refine ⟨?engine, ⟨fun t v u hw => ?waitDone, fun t hw => ?waits⟩, fun hbound hreach hlt => ?read, ownq_of_other h, fun hglobal hhome => ?ownq,
    fun hn => ⟨reeveOnly_of_other h hn _ _, reeveOnly_of_other h hn _ _, reeveOnly_of_other h hn _ _⟩, ?reeve, ?remote⟩
  case engine =>
    simp only [List.forall_mem_cons, List.not_mem_nil, false_implies, implies_true, and_true]
    refine ⟨fun hdesc hparts => ?_, fun hdesc hparts => ?_⟩
    · have hexec : execCopy o s = _ := engineInstr_of_addressed h hdesc hparts
      exact ⟨fun t v u hw => hexec.trans (by rw [hw, stewPerf]), fun t hw => hexec.trans (by rw [hw, stewPerf])⟩
    · have hexec : execIstrm o s = _ := engineInstr_of_addressed h hdesc hparts
      exact ⟨fun t v u hw => hexec.trans (by rw [hw, stewPerf]), fun t hw => hexec.trans (by rw [hw, stewPerf])⟩
  case waitDone =>
    have hw : waitOp s (stewTimelineReq s n st o .tlwait) = (t, .done v u) := hw
    have hexec : execTlwait o s = _ := timelineInstr_of_stew h waitOp
    exact hexec.trans (by rw [hw, stewPerf])
  case waits =>
    have hw : waitOp s (stewTimelineReq s n st o .tlwait) = (t, .taken) := hw
    have hexec : execTlwait o s = _ := timelineInstr_of_stew h waitOp
    exact hexec.trans (by rw [hw, stewPerf]; rfl)
  case read => exact tlrd_of_reached h rfl hbound hreach hlt rfl
  case ownq =>
    exact (ownq_of_homed h hglobal hhome).trans (congrArg (fun w => Host.Outcome.next (finish s o ((Agent.stew n st).setScalar o.d w))) rfl)
  case reeve =>
    rintro rfl
    refine ⟨owninv_of_reeve h o, fun hnot => ⟨(migr_of_reeve h).trans (congrArg _ (reeveMove_of_other hnot)),
      (sgnrcl_of_reeve h).trans (congrArg _ (reeveMove_of_other hnot))⟩, fun hglobal hhome t => ⟨fun k hk => ?migrDone,
      fun k hk => ?sgnrclDone, fun hk => ⟨migrReq s st o, rfl, rfl, migr_of_homed h hglobal hhome hk⟩,
      fun hk => ⟨sgnrclReq s st o, rfl, rfl, sgnrcl_of_homed h hglobal hhome hk⟩⟩⟩
    case migrDone => rw [migr_of_homed h hglobal hhome hk, reeveMoved, ea_migrReq]
    case sgnrclDone => rw [sgnrcl_of_homed h hglobal hhome hk, reeveMoved, ea_sgnrclReq]
  case remote =>
    simp only [List.forall_mem_cons, List.not_mem_nil, false_implies, implies_true, and_true]
    refine ⟨fun hdata => ?_, fun hdata => ?_, fun hdata => ?_⟩
    · exact remote_stew h rfl hdata (i := .rld o) (form := remoteReq) rfl
    · exact remote_stew h rfl hdata (i := .rst o) (form := remoteReq) rfl
    · exact remote_stew h rfl (fun hrst => absurd hrst ratom_ne_rst) (i := .ratom o) (kind := .ratom) (form := remoteAtomReq) rfl

end Sys2Proof.Machine
end

section
/-! The events of the engines (R249, R395, R399, R400, R403). -/

namespace Sys2Proof.Machine

/-! ## Acceptance (R399) -/

/-- The operation that an engine queues. -/
def acceptedOp (s : State) (r : Req) : EngOp :=
  { req := r, num := (s.engine (handleOf r.cmp)).nextOp, done := 0, core := opCore s r, block := none, written := false, failed := none }

/-- An engine that takes an operation gives it the next number and queues it. -/
def accepted (s : State) (r : Req) : State :=
  let e := s.engine (handleOf r.cmp)
  s.setEngine (handleOf r.cmp) { e with nextOp := e.nextOp + 1, queue := e.queue ++ [acceptedOp s r] }

/-- An operation that waits leaves the state (R395). -/
theorem acceptOp_of_unreached {s : State} {r : Req} (hreach : bothReach s r.issueDie (handleDie (handleOf r.cmp)) = false) :
    acceptOp s r = (s, .stay) := by
  rw [acceptOp]
  simp only [hreach, Bool.not_false, if_true]

/-- The kind of an operation and the engine that serves it. -/
theorem refusesOperation_of_matched {s : State} {r : Req} (hkind : r.kind = .istrm ↔ handleEng (handleOf r.cmp) = 3) :
    refusesOperation s r = engineRefuses s r (handleOf r.cmp) := by
  rw [refusesOperation]
  by_cases hr : r.kind = .istrm
  · simp [hr, hkind.mp hr]
  · simp [hr, mt hkind.mpr hr]

section
variable {s : State} {r : Req} (hreach : bothReach s r.issueDie (handleDie (handleOf r.cmp)) = true)
  (hup : resetStage s (handleDie (handleOf r.cmp)) = 0)
include hreach hup

theorem acceptOp_of_reached : acceptOp s r = if refusesOperation s r = true then (s, .fail (Cause.engbind, word (handleOf r.cmp)))
    else if 64 ≤ (s.engine (handleOf r.cmp)).queue.length then (s, .stay)
    else if r.cmpl = true then (accepted s r, .taken)
    else (accepted s r, .done (BitVec.ofNat 2048 (s.engine (handleOf r.cmp)).nextOp) false) := by
  rw [acceptOp]
  simp only [hreach, hup, Bool.not_true, Bool.false_eq_true, if_false, bne_self_eq_false]
  rfl
end

theorem acceptOp_stay {s t : State} {r : Req} (h : acceptOp s r = (t, .stay)) : t = s := by
  by_cases hreach : bothReach s r.issueDie (handleDie (handleOf r.cmp)) = true
  · by_cases hup : resetStage s (handleDie (handleOf r.cmp)) = 0
    · rw [acceptOp_of_reached hreach hup] at h
      split_ifs at h <;> cases h
      rfl
    · rw [acceptOp] at h
      simp [hreach, hup] at h
  · rw [acceptOp_of_unreached (Bool.eq_false_iff.mpr hreach)] at h
    cases h
    rfl

/-- The request that may go to the named engine goes there. -/
theorem engineAccept_of_ready {s : State} {r : Req} (hr : ((s.core s.event.index).port s.event.addr).reqs[s.event.size]? = some r)
    (hkind : r.kind = .copy ∨ r.kind = .istrm) (hunit : handleOf r.cmp = s.event.unit)
    (hgo : mayGo ((s.core s.event.index).port s.event.addr) s.event.size = true)
    (horder : inOrder s s.event.index s.event.addr s.event.size r = true) :
    exec .engineAccept s = .next (match acceptOp s r with
      | (t, .stay) => t
      | (t, .taken) => settle (dropReq (chargeReq t r) s.event.index s.event.addr r) r false
      | (t, .done v u) => completeReq (dropReq (chargeReq t r) s.event.index s.event.addr r) r v u
      | (t, .fail y) => failReq (dropReq (chargeReq t r) s.event.index s.event.addr r) r y) := by
  change execEngineAccept s = _
  have hacks : r.kind.acks = false := by rcases hkind with h | h <;> rw [h] <;> rfl
  rw [execEngineAccept]
  dsimp only
  rw [hr]
  have hready : (!(r.kind == .copy || r.kind == .istrm) || handleOf r.cmp != s.event.unit ||
      !mayGo ((s.core s.event.index).port s.event.addr) s.event.size || !inOrder s s.event.index s.event.addr s.event.size r) = false := by
    rw [hunit, hgo, horder]
    rcases hkind with h | h <;> simp [h]
  dsimp only
  rw [hready, if_neg Bool.false_ne_true]
  rcases acceptOp s r with ⟨t, v | w | _ | _⟩ <;> simp [endReq, hacks]

/-! ## Running (R249, R400, R403) -/

section
variable {s : State} {op : EngOp} (hop : (s.engine s.event.unit).queue.head? = some op) (hstores : storesDone s op.req = true)
  (hgov : bitOf s.pkg.govstat (handleDie s.event.unit) = false)
include hop hstores hgov

theorem engineOperationEnd_of_running (hup : resetStage s (handleDie s.event.unit) = 0) :
    exec .engineOperationEnd s = .next (runBlocks s s.event.unit (opLength op.req.kind op.req.cmp / 16 + 2)) := by
  change execEngineOperationEnd s = _
  simp [execEngineOperationEnd, hop, hstores, hgov, hup]

theorem engineWritePointer_of_running (hdone : op.done ≠ opLength op.req.kind op.req.cmp) :
    exec .engineWritePointer s = .next (serveWaits (runBlocks s s.event.unit 1) s.event.unit) := by
  change execEngineWritePointer s = _
  simp [execEngineWritePointer, hop, hstores, hgov, hdone]
end

theorem runBlocks_of_done {s : State} {h : Nat} {op : EngOp} (hop : (s.engine h).queue.head? = some op)
    (hdone : op.done = opLength op.req.kind op.req.cmp) (n : Nat) : runBlocks s h (n + 1) = endOp s h op none := by
  rw [runBlocks, hop]
  exact if_pos hdone

/-- With no wait, an engine answers none. -/
theorem serveWaits_of_none {s : State} {h : Nat} (hwaits : (s.engine h).waits = []) : serveWaits s h = s.setEngine h (s.engine h) := by
  rw [serveWaits]
  rw [hwaits, List.filter_nil, List.foldl_nil, ← hwaits]

/-- The engine whose running operation has ended. -/
def endedEngine (e : Engine) (op : EngOp) : Engine :=
  { e with etl := op.num, queue := e.queue.drop 1, lens := Tab.set 0 e.lens op.num (opLength op.req.kind op.req.cmp * 2 + ofBool false + 1) }

theorem endOp_of_silent {s : State} {h : Nat} {op : EngOp} (hcmpl : op.req.cmpl = false) :
    endOp s h op none = serveWaits (s.setEngine h (endedEngine (s.engine h) op)) h := by
  rw [endOp]
  dsimp only
  rw [hcmpl, if_neg Bool.false_ne_true]
  rfl

/-- Settles O48, by what `acceptOp` answers and what ends an operation. -/
theorem engineEvents : Obligations.EngineEvents := by
  intro s
  dsimp only
  refine ⟨fun r hr hkind hunit hgo horder => ?accept, fun r hreach hup hbound hkind => ⟨fun hroom => ?accepts, fun hfull => ?full⟩,
    fun r hreach => acceptOp_of_unreached hreach, fun r hreach hup hbound => ?refuses, fun op hop hstores hgov hup => ?running⟩
  case accept =>
    rw [engineAccept_of_ready hr hkind hunit hgo horder]
    refine ⟨fun t v u h => by rw [h], fun t h => by rw [h], fun t y h => by rw [h], fun t h => ?_⟩
    rw [h, acceptOp_stay h]
  case accepts =>
    refine ⟨accepted s r, acceptedOp s r, ?_⟩
    rw [acceptOp_of_reached hreach hup, refusesOperation_of_matched hkind, hbound, if_neg Bool.false_ne_true, if_neg (Nat.not_le.mpr hroom)]
    cases hcmpl : r.cmpl <;> simp [accepted, acceptedOp]
  case full =>
    rw [acceptOp_of_reached hreach hup, refusesOperation_of_matched hkind, hbound, if_neg Bool.false_ne_true, if_pos hfull]
  case refuses =>
    rw [acceptOp_of_reached hreach hup, refusesOperation, hbound, Bool.true_or, if_pos rfl]
  case running =>
    have hend (hdone : op.done = opLength op.req.kind op.req.cmp) : exec .engineOperationEnd s = .next (endOp s s.event.unit op none) := by
      rw [engineOperationEnd_of_running hop hstores hgov hup, runBlocks_of_done hop hdone]
    refine ⟨engineOperationEnd_of_running hop hstores hgov hup, hend, engineWritePointer_of_running hop hstores hgov, fun hdone hwaits hcmpl => ?_⟩
    have hnone : ((s.setEngine s.event.unit (endedEngine (s.engine s.event.unit) op)).engine s.event.unit).waits = [] := by
      rw [State.engine_setEngine]
      exact hwaits
    refine ⟨_, (hend hdone).trans (congrArg _ ((endOp_of_silent hcmpl).trans (serveWaits_of_none hnone))), ?_⟩
    simp only [State.engine_setEngine, endedEngine, true_and]
    rfl

end Sys2Proof.Machine
end

section
/-! The events of other devices, of muster sets and of collectives (R395, R426, R430, R438, R442, R447, R456). -/

namespace Sys2Proof.Machine

/-- Taking away a bit that is set clears it. -/
theorem testBit_sub_two_pow {n m : Nat} (h : n.testBit m = true) (j : Nat) : (n - 2 ^ m).testBit j = (n.testBit j && !(j == m)) := by
  have hodd : n / 2 ^ m % 2 = 1 := by simpa [Nat.testBit_eq_decide_div_mod_eq] using h
  obtain ⟨p, hp⟩ : ∃ p, n / 2 ^ m = 2 * p + 1 := ⟨n / 2 ^ m / 2, by omega⟩
  have hlt : n % 2 ^ m < 2 ^ m := Nat.mod_lt _ (Nat.two_pow_pos m)
  have hn : n = 2 ^ m * (2 * p + 1) + n % 2 ^ m := by rw [← hp, Nat.div_add_mod]
  have hsub : n - 2 ^ m = 2 ^ m * (2 * p) + n % 2 ^ m := by
    rw [Nat.mul_add, Nat.mul_one] at hn
    omega
  rw [hsub, Nat.testBit_two_pow_mul_add _ hlt]
  conv_rhs => rw [hn, Nat.testBit_two_pow_mul_add _ hlt]
  by_cases hj : j < m
  · rw [if_pos hj, if_pos hj, beq_false_of_ne (Nat.ne_of_lt hj), Bool.not_false, Bool.and_true]
  · rw [if_neg hj, if_neg hj]
    rcases hk : j - m with _ | k
    · simp [show j = m by omega]
    · simp [show j ≠ m by omega, Nat.testBit_succ, show (2 * p + 1) / 2 = p by omega]

/-! ## Requests of other devices (R438, R456) -/

/-- An access of a page that this device owns is counted. -/
def arrivalCounted (s t : State) : State :=
  let r := arrival s.event
  if fabricGlobal r.ea = true ∧ ownsPage s (pageOfVa r.ea) = true then countRemote t (pageOfVa r.ea) r.dev r.port else t

section
variable {s : State} (hother : s.event.unit ≠ s.devId) (hunit : s.event.unit < 4096)
include hother hunit

/-- A request of another device that has such a number is served. -/
theorem remoteRequestArrival_here :
    ¬((s.event.unit = s.devId ∧ !(decide (3 ≤ s.event.kind ∧ s.event.kind ≤ 5)) = true) ∨ 4096 ≤ s.event.unit) := by
  rintro (⟨h, -⟩ | h)
  · exact hother h
  · omega

theorem remoteRequestArrival_of_access (hkind : s.event.kind ≤ 2) : exec .remoteRequestArrival s = .next (
    match remoteAt s .engine (arrival s.event).home (arrival s.event).port (arrival s.event) with
    | (t, .error y) => arrivalCounted s (failReq t (arrival s.event) y)
    | (t, .ok (some v)) => arrivalCounted s { t with out := .answer s.event.unit (BitVec.ofNat 2048 v) false :: t.out }
    | (_, .ok none) => s) := by
  change execRemoteRequestArrival s = _
  rw [execRemoteRequestArrival]
  dsimp only
  rw [if_neg (by simpa using remoteRequestArrival_here hother hunit), if_pos hkind]
  rcases remoteAt s .engine (arrival s.event).home (arrival s.event).port (arrival s.event) with ⟨t, y | _ | v⟩
  · simp only [arrivalCounted, Bool.and_eq_true]
  · rfl
  · simp only [arrivalCounted, Bool.and_eq_true]
    rfl

/-- A JOIN or LEAVE joins the queue of its keeper (R442). -/
theorem remoteRequestArrival_of_muster (hkind : s.event.kind = 6 ∨ s.event.kind = 7) : exec .remoteRequestArrival s = .next (
    let m := musterOf s (s.event.op % 256)
    setMuster s (s.event.op % 256) { m with queue := m.queue ++ [{ arrival s.event with op := s.event.op % 256 }] }) := by
  change execRemoteRequestArrival s = _
  rw [execRemoteRequestArrival]
  dsimp only
  rw [if_neg (by simpa using remoteRequestArrival_here hother hunit), if_neg (by omega), if_neg (by omega), if_pos (by omega)]
end

theorem musterOf_setMuster (s : State) (mid : Nat) (m : Muster) : musterOf (setMuster s mid m) mid = m := Tab.get_set_self

/-! ## The keeper (R442) -/

theorem musterOperation_of_next {s : State} {r : Req} {rest : List Req} (hq : (musterOf s s.event.unit).queue = r :: rest) :
    exec .musterOperation s = .next (if (musterOf s s.event.unit).pins ≠ 0 then s else
      let t := chargeReq (setMuster s s.event.unit { musterOf s s.event.unit with queue := rest }) r
      if r.kind = .join then performJoin t r else performLeave t r) := by
  change execMusterOperation s = _
  rw [execMusterOperation]
  dsimp only
  rw [hq]
  simp

/-- The first JOIN names the image of its muster. -/
theorem performJoin_of_empty {s : State} {r : Req} (himage : (musterOf s r.op).image = none) (hslots : (musterOf s r.op).slots = []) :
    performJoin s r = completeReq (setMuster s r.op { musterOf s r.op with
      image := some r.cmp.toNat, members := setAt (musterOf s r.op).members 0 (some (reqMember r)) }) r 0 := by
  rw [performJoin]
  dsimp only
  rw [hslots, List.find?_nil, himage]

/-- A JOIN of another image is refused. -/
theorem performJoin_of_other {s : State} {r : Req} {i : Nat} (himage : (musterOf s r.op).image = some i) (hi : i ≠ r.cmp.toNat)
    (hslot : ((musterOf s r.op).slots.find? fun y => y.2 == reqMember r) = none) : performJoin s r = failReq s r (Cause.mustimg, word i) := by
  rw [performJoin]
  dsimp only
  rw [hslot, himage]
  exact if_pos (by simpa using hi)

/-! ## Collectives (R447) -/

/-- Members of a collective that have not joined. -/
def collAbsent (c : Collective) : List (Nat × Member) := c.pinned.filter fun y => !(c.given.any fun g => g.1 == y.1)

theorem collectiveComplete_of_entry {s : State} {c : Collective} (hc : s.pkg.collectives[s.event.unit]? = some c) :
    exec .collectiveComplete s = .next (
      if (((collAbsent c).any fun y => branchLives s y.2) || !(c.given.all fun g => contributionReady s g.2)) = true then s
      else
        let len := (c.given.head?.map fun g => bits g.2.cmp 63 32).getD 0
        collRun c.mid c.ts len (len / 256 + 2)
          (putCollective s { c with failed := c.failed || c.pinned.any fun y => !branchLives s y.2 })) := by
  change execCollectiveComplete s = _
  rw [execCollectiveComplete, hc]
  rfl

/-! ## Devices that do not answer (R430) -/

/-- The fabric registers that mark one more device as dead. -/
def markDead (s : State) (dev : Nat) : State :=
  setFabric s (0x500 + dev / 64) (Tab.get 0 s.pkg.fabric (0x500 + dev / 64) ||| word (2 ^ (dev % 64)))

theorem isDead_markDead (s : State) (dev d : Nat) : isDead (markDead s dev) d = (decide (d = dev) || isDead s d) := by
  by_cases hword : d / 64 = dev / 64
  · have hmod : d = dev ↔ dev % 64 = d % 64 := by omega
    rw [isDead, markDead, setFabric, hword]
    simp only [Tab.get_set_self]
    rw [isDead, hword, bitOf, bitOf, BitVec.toNat_or, Nat.testBit_or, word, BitVec.toNat_ofNat,
      Nat.mod_eq_of_lt (Nat.pow_lt_pow_right (by decide) (Nat.mod_lt _ (by decide))), Nat.testBit_two_pow, Bool.or_comm, decide_eq_decide.mpr hmod]
  · have hne : d ≠ dev := fun h => hword (by rw [h])
    rw [isDead, markDead, setFabric, isDead, decide_eq_false hne, Bool.false_or]
    simp only
    rw [Tab.get_set_ne (by omega)]

/-- The home of a region that has lost a device. -/
def loseHome (s : State) (i : Nat) : State := s.setHome i { s.home i with lost := true }

theorem pkg_losePeers (s : State) (dev : Nat) : (losePeers s dev).pkg = s.pkg := by
  rw [losePeers]
  exact foldl_keeps (f := loseHome) State.pkg (fun _ _ => rfl) _ s

theorem mem_losePeers (s : State) (dev : Nat) : (losePeers s dev).mem = s.mem := by
  rw [losePeers]
  exact foldl_keeps (f := loseHome) State.mem (fun _ _ => rfl) _ s

theorem dropHeld_zero (s : State) (dev : Nat) : dropHeld s dev 0 = s := by
  rw [dropHeld, List.take_zero]
  rfl

/-- With nothing outstanding and nothing held, the devices behind a dead one are lost. -/
theorem uternTimeout_of_idle {s : State} (hother : s.event.unit ≠ s.devId) (hunit : s.event.unit < 4096) (hidle : s.pkg.outstanding = [])
    (hsize : s.event.size = 0) : exec .uternTimeout s = .next (losePeers (markDead s s.event.unit) s.event.unit) := by
  change execUternTimeout s = _
  rw [execUternTimeout]
  dsimp only
  rw [if_neg (by omega)]
  simp only [setFabric, hidle, hsize, List.filter_nil, List.foldl_nil, dropHeld_zero, markDead]

/-! ## Links (R395, R426) -/

theorem ucieModuleFail_lanes {s : State} {k m : Nat} (hunit : s.event.unit < 4) (hlen : s.pkg.ucie.length = 4) :
    ((setAt s.pkg.ucie (s.event.unit % 4) (if (s.pkg.ucie.getD (s.event.unit % 4) 0).testBit (s.event.index % 8) = true
      then s.pkg.ucie.getD (s.event.unit % 4) 0 - 2 ^ (s.event.index % 8) else s.pkg.ucie.getD (s.event.unit % 4) 0)).getD k 0).testBit m =
      ((s.pkg.ucie.getD k 0).testBit m && !(k == s.event.unit && m == s.event.index % 8)) := by
  rw [Nat.mod_eq_of_lt hunit]
  by_cases hk : k = s.event.unit
  · subst hk
    rw [getD_setAt_self (by omega), beq_self_eq_true, Bool.true_and]
    split
    · next hbit => exact testBit_sub_two_pow hbit m
    · next hbit =>
      by_cases hm : m = s.event.index % 8
      · rw [hm, Bool.eq_false_iff.mpr hbit, Bool.false_and]
      · rw [beq_false_of_ne hm, Bool.not_false, Bool.and_true]
  · rw [getD_setAt_ne hk, beq_false_of_ne hk, Bool.false_and, Bool.not_false, Bool.and_true]

/-- Settles O50: each event by what its unit does with it. -/
theorem fabricEvents : Obligations.FabricEvents := by
  intro s
  dsimp only
  refine ⟨fun hother hunit => ⟨fun hkind => ?access, fun hkind => ?muster⟩, fun r rest hq => ?keeper, fun r => performJoin_of_empty,
    fun r i => performJoin_of_other, fun c hc => ?coll, fun hother hunit hidle hsize => ?timeout, rfl, rfl, fun hunit hlen => ?link⟩
  case access =>
    rw [remoteRequestArrival_of_access hother hunit hkind]
    exact ⟨fun t v h => by rw [h]; rfl, fun t y h => by rw [h]; rfl, fun t h => by rw [h]⟩
  case muster =>
    refine ⟨_, { arrival s.event with op := s.event.op % 256 }, remoteRequestArrival_of_muster hother hunit hkind, ?_⟩
    rw [musterOf_setMuster]
    exact ⟨rfl, rfl, rfl⟩
  case keeper =>
    rw [musterOperation_of_next hq]
    refine ⟨fun hpins => by rw [if_pos hpins], fun hpins => ⟨fun hjoin => ?_, fun hleave => ?_⟩⟩
    · rw [if_neg (not_not.mpr hpins), if_pos hjoin]
    · rw [if_neg (not_not.mpr hpins), if_neg hleave]
  case coll =>
    rw [collectiveComplete_of_entry hc]
    refine ⟨fun hwaits => ?_, fun hjoined hready => ?_⟩
    · rw [collAbsent, hwaits, Bool.true_or, if_pos rfl]
    · rw [collAbsent, hjoined, hready, Bool.not_true, Bool.or_false, if_neg Bool.false_ne_true]
  case timeout =>
    have hdead (d : Nat) : isDead (losePeers (markDead s s.event.unit) s.event.unit) d = (decide (d = s.event.unit) || isDead s d) := by
      rw [isDead, pkg_losePeers]
      exact isDead_markDead s _ d
    refine ⟨_, uternTimeout_of_idle hother hunit hidle hsize, ?_, fun d _ hd => ?_, (mem_losePeers ..).trans rfl⟩
    · rw [hdead, decide_eq_true rfl, Bool.true_or]
    · rw [hdead, decide_eq_false hd, Bool.false_or]
  case link => exact ⟨_, rfl, fun k _ m _ => ucieModuleFail_lanes hunit hlen⟩

end Sys2Proof.Machine
end

section
/-! The owner cache and the counts of fabric-global pages (R455 to R457, R461). -/

namespace Sys2Proof.Machine

/-! ## The owner cache (R455, R461) -/

/-- The entry that the answer of a page's home fills. -/
def lookedUp (ev : Event) : OwnerEntry :=
  { ten := ev.index, page := ev.addr, owner := ev.size % 4096, gen := ev.op % 65536, closed := false, awaits := false }

theorem ownerCacheLookup_of_other {s t : State} (hhome : homesPage s s.event.addr = false)
    (hlook : (s.die s.event.unit).lookups.contains (s.event.addr, s.event.index) = true)
    (henter : enterOwner s s.event.unit (lookedUp s.event) = some t) :
    exec .ownerCacheLookup s = .next (t.setDie s.event.unit { t.die s.event.unit with
      lookups := (t.die s.event.unit).lookups.erase (s.event.addr, s.event.index) }) := by
  change execOwnerCacheLookup s = _
  rw [lookedUp] at henter
  simp only [execOwnerCacheLookup, hhome, hlook, henter, Bool.not_true, Bool.false_eq_true, if_false]

theorem ownerCacheLookup_of_none {s : State} (hlook : (s.die s.event.unit).lookups.contains (s.event.addr, s.event.index) = false) :
    exec .ownerCacheLookup s = .next s := by
  change execOwnerCacheLookup s = _
  simp only [execOwnerCacheLookup, hlook, Bool.not_false, if_true]

theorem redirect_of_told {s : State} (hflag : s.event.flag = false) :
    exec .redirect s = .next (takeRedirect s s.event.unit s.event.index s.event.addr s.event.size) := by
  change execRedirect s = _
  simp only [execRedirect, hflag, Bool.false_eq_true, if_false]

theorem ownerCacheReopen_of_clear {s : State} (hclear : awaited s s.event.unit s.event.index = []) :
    exec .ownerCacheReopen s = .next (s.setDie s.event.unit { s.die s.event.unit with owner := (s.die s.event.unit).owner.map fun y =>
      if y.page = s.event.index ∧ y.closed = true ∧ (!y.awaits) = true then reopenEntry s s.event.unit y else y }) := by
  change execOwnerCacheReopen s = _
  simp only [execOwnerCacheReopen, hclear, List.isEmpty_nil, if_true]

theorem ownerCacheReopen_of_awaited {s : State} (hwaits : awaited s s.event.unit s.event.index ≠ []) : exec .ownerCacheReopen s = .next s := by
  change execOwnerCacheReopen s = _
  rw [execOwnerCacheReopen]
  simp only [List.isEmpty_iff, hwaits, if_false]

/-- What closing an entry keeps in its list: a request that had hit it and whose turn has come. -/
theorem early_closeEntry {s : State} {d core k : Nat} {y : OwnerEntry} {p : Port} {q : Req} (hdie : dieOf core = d)
    (hcore : (core, s.core core) ∈ s.cores) (hten : tenantOf s core = y.ten) (hp : p ∈ (s.core core).ports) (hq : p.reqs[k]? = some q)
    (hgo : mayGo p k = true) (hmapped : ownerMapped s core q y.page = true) (hnew : q.ord ∉ y.early) : q.ord ∈ (closeEntry s d y).early := by
  refine List.mem_append_right _ (List.mem_flatMap.mpr ⟨_, hcore, ?_⟩)
  simp only [hdie, if_true, List.mem_flatMap]
  exact ⟨p, hp, List.mem_filterMap.mpr ⟨(q, k), List.mem_zipIdx_iff_getElem?.mpr hq, by simp [hgo, hmapped, hten, hnew]⟩⟩

theorem reopenEntry_of_clear {s : State} {d : Nat} {y : OwnerEntry} (h : earlyLeft s d y = []) :
    reopenEntry s d y = { y with closed := false, ajar := false, early := [], reopened := s.fresh } := by
  rw [reopenEntry, h]
  rfl

theorem reopenEntry_of_early {s : State} {d : Nat} {y : OwnerEntry} (h : earlyLeft s d y ≠ []) :
    reopenEntry s d y = { y with ajar := true, early := earlyLeft s d y } := by
  rw [reopenEntry]
  exact if_neg (by simpa using h)

/-! ## Signpost invalidations (R462) -/

theorem signpostInvalidation_of_other {s : State} (hother : s.event.unit ≠ s.devId) : exec .signpostInvalidation s = .next (
    mapReclaim s s.event.index fun y => { y with left := y.left.erase s.event.unit }) := by
  change execSignpostInvalidation s = _
  simp only [execSignpostInvalidation, hother, if_false]

/-- What an entry of a page comes to when it is dropped: a CLOSED one stays. -/
def entryLeft (page : Nat) (y : OwnerEntry) : Option OwnerEntry :=
  if y.page ≠ page then some y else if y.closed then some { y with awaits := true } else none

theorem dropOwners_dies (s : State) (gone : OwnerEntry → Bool) : ∃ ds, dropOwners s gone = { s with dies := ds } := ⟨_, rfl⟩

/-- A change of each die in turn. -/
theorem die_foldl_setDie {f : Nat → Die → Die} (l : List Nat) (hl : l.Nodup) {s : State} {d : Nat} (hd : d < s.dies.length) :
    (l.foldl (fun s d => s.setDie d (f d (s.die d))) s).die d = if d ∈ l then f d (s.die d) else s.die d := by
  induction l generalizing s with
  | nil => rfl
  | cons n rest ih =>
    obtain ⟨hn, hrest⟩ := List.nodup_cons.mp hl
    have hlen : d < (s.setDie n (f n (s.die n))).dies.length := by simpa [State.setDie, setAt] using hd
    rw [List.foldl_cons, ih hrest hlen]
    by_cases hdn : d = n
    · subst hdn
      rw [if_neg hn, if_pos List.mem_cons_self, State.die_setDie hd]
    · simp only [State.die_setDie_ne hdn, List.mem_cons, hdn, false_or]

theorem die_dropOwners {s : State} {page d : Nat} (hd : d < 4) (hlen : d < s.dies.length) :
    ((dropOwners s fun y => y.page == page).die d).owner = (s.die d).owner.filterMap (entryLeft page) := by
  have hkept : (fun y : OwnerEntry => if !(y.page == page) then some y else if y.closed then some { y with awaits := true } else none) =
      entryLeft page := by
    funext y
    simp [entryLeft]
  have hfold := die_foldl_setDie (f := fun _ x => { x with owner := x.owner.filterMap (entryLeft page) }) (List.range 4) List.nodup_range hlen
  rw [if_pos (List.mem_range.mpr hd)] at hfold
  rw [dropOwners]
  dsimp only
  rw [hkept, hfold]

theorem signpostInvalidation_of_own {s : State} (hown : s.event.unit = s.devId) (hhome : homesPage s s.event.index = false) :
    exec .signpostInvalidation s = .next (
      let t := dropOwners s fun y => y.page == s.event.index
      if oldAnswered s s.event.index (s.event.addr % 4096) = true then sendMessage t 10 (homeDevice s s.event.index) s.event.index s.devId 0 else t) := by
  change execSignpostInvalidation s = _
  obtain ⟨ds, hds⟩ := dropOwners_dies s fun y => y.page == s.event.index
  rw [execSignpostInvalidation]
  dsimp only
  rw [if_pos hown, hds, hown]
  have hhome' : homesPage ({ s with dies := ds } : State) s.event.index = false := hhome
  rw [hhome, hhome']
  rfl

/-! ## Counts (R456, R457) -/

/-- The entry of a page after a count message of a device, as far as the count goes. -/
def countedEntry (p : PageEntry) (dev : Nat) : PageEntry :=
  { p with cnt := if dev = p.cdev then min (p.cnt + 64) 65535 else p.cnt - 64, cdev := if dev ≠ p.cdev ∧ p.cnt ≤ 64 then dev else p.cdev }

/-- The threshold at which the home tells the reeve. -/
def countThreshold (s : State) : Nat := bits (Tab.get 0 s.pkg.fabric 0x600) 15 0

/-- The notice of a page whose count has reached the threshold. -/
def countNotice (page ten : Nat) (p : PageEntry) : Notice :=
  { va := word (page * 2 ^ 16), w1 := word (p.owner * 2 ^ 52 + p.cdev * 2 ^ 40 + ten * 2 ^ 32 + p.cnt) }

theorem applyCount_of_room {s : State} {page dev ten : Nat} (hroom : homeMapFull s page = false) : applyCount s page dev ten =
    let p := countedEntry (pageEntry s page) dev
    if countThreshold s ≤ p.cnt ∧ countThreshold s ≠ 0 ∧ p.state = .owned then
      let t := setPage s page { p with state := .queued }
      if t.pkg.policy.length < 256 then { t with pkg := { t.pkg with policy := t.pkg.policy ++ [countNotice page ten p] } }
      else { t with pkg := { t.pkg with polOvf := min (t.pkg.polOvf + 1) 65535 } }
    else setPage s page p := by
  have hentry : (if dev = (pageEntry s page).cdev then { pageEntry s page with cnt := min ((pageEntry s page).cnt + 64) 65535 }
      else { pageEntry s page with cnt := (pageEntry s page).cnt - 64,
                                   cdev := if (pageEntry s page).cnt - 64 = 0 then dev else (pageEntry s page).cdev }) =
      countedEntry (pageEntry s page) dev := by
    by_cases hdev : dev = (pageEntry s page).cdev
    · simp [countedEntry, hdev]
    · simp only [countedEntry, hdev, if_false, ne_eq, not_false_eq_true, true_and, Nat.sub_eq_zero_iff_le]
  rw [applyCount, if_neg (Bool.eq_false_iff.mp hroom)]
  dsimp only
  rw [hentry]
  rfl

theorem countMessage_of_home {s : State} (hhome : homesPage s s.event.unit = true) :
    exec .countMessage s = .next (applyCount s s.event.unit s.event.index (s.event.addr % 256)) := by
  change execCountMessage s = _
  rw [execCountMessage, if_pos hhome]

theorem pages_setPage (s : State) (page : Nat) (p : PageEntry) : Tab.get PageEntry.init (setPage s page p).pkg.pages page = p := Tab.get_set_self

/-- What a count leaves in the home map and in the queue of notices. -/
theorem applyCount_leaves {s : State} {page dev ten : Nat} (hroom : homeMapFull s page = false) :
    let p := countedEntry (pageEntry s page) dev
    ∃ q, Tab.get PageEntry.init (applyCount s page dev ten).pkg.pages page = q ∧ q.owner = p.owner ∧ q.cnt = p.cnt ∧ q.cdev = p.cdev ∧
      (applyCount s page dev ten).mem = s.mem ∧
      (countThreshold s = 0 ∨ p.cnt < countThreshold s ∨ p.state ≠ .owned → q.state = p.state ∧
        (applyCount s page dev ten).pkg.policy = s.pkg.policy ∧ (applyCount s page dev ten).pkg.polOvf = s.pkg.polOvf) ∧
      (countThreshold s ≠ 0 → countThreshold s ≤ p.cnt → p.state = .owned → q.state = .queued ∧
        (s.pkg.policy.length < 256 → (applyCount s page dev ten).pkg.polOvf = s.pkg.polOvf ∧
          (applyCount s page dev ten).pkg.policy = s.pkg.policy ++ [countNotice page ten p]) ∧
        (256 ≤ s.pkg.policy.length → (applyCount s page dev ten).pkg.policy = s.pkg.policy ∧
          (applyCount s page dev ten).pkg.polOvf = min (s.pkg.polOvf + 1) 65535)) := by
  intro p
  rw [applyCount_of_room hroom]
  dsimp only
  by_cases hreached : countThreshold s ≤ p.cnt ∧ countThreshold s ≠ 0 ∧ p.state = .owned
  · have hnot : ¬(countThreshold s = 0 ∨ p.cnt < countThreshold s ∨ p.state ≠ .owned) := by
      obtain ⟨hle, hne, howned⟩ := hreached
      rintro (h | h | h)
      · exact hne h
      · omega
      · exact h howned
    rw [if_pos hreached]
    by_cases hfull : (setPage s page { p with state := .queued }).pkg.policy.length < 256
    · rw [if_pos hfull]
      exact ⟨_, pages_setPage s page { p with state := .queued }, rfl, rfl, rfl, rfl, fun h => absurd h hnot,
        fun _ _ _ => ⟨rfl, fun _ => ⟨rfl, rfl⟩, fun h => absurd hfull (Nat.not_lt.mpr h)⟩⟩
    · rw [if_neg hfull]
      exact ⟨_, pages_setPage s page { p with state := .queued }, rfl, rfl, rfl, rfl, fun h => absurd h hnot,
        fun _ _ _ => ⟨rfl, fun h => absurd h hfull, fun _ => ⟨rfl, rfl⟩⟩⟩
  · rw [if_neg hreached]
    exact ⟨_, pages_setPage s page p, rfl, rfl, rfl, rfl, fun _ => ⟨rfl, rfl, rfl⟩, fun hne hle howned => absurd ⟨hle, hne, howned⟩ hreached⟩

end Sys2Proof.Machine
end

section
/-! The moves of fabric-global pages, their relays and the reclamation of signposts (R458 to R460, R462). -/

namespace Sys2Proof.Machine

/-! ## The end of an instruction of the reeve (R464) -/

/-- A fold that only sends leaves the rest of the state. -/
theorem foldl_sends {β : Type} {f : State → β → State} (l : List β)
    (hf : ∀ s, ∀ b ∈ l, ∃ x, f s b = { s with out := x :: s.out }) (s : State) :
    ∃ sent, l.foldl f s = { s with out := sent ++ s.out } := by
  induction l generalizing s with
  | nil => exact ⟨[], rfl⟩
  | cons b rest ih =>
    obtain ⟨x, hx⟩ := hf s b List.mem_cons_self
    obtain ⟨sent, hsent⟩ := ih (fun s c hc => hf s c (List.mem_cons_of_mem b hc)) (f s b)
    refine ⟨sent ++ [x], hsent.trans ?_⟩
    rw [hx, List.append_assoc, List.singleton_append]

theorem stewDone_stewards (s : State) (n v : Nat) : ∃ stews, stewDone s n v = { s with stewards := stews } := by
  rw [stewDone]
  rcases (s.stew n).waiting with _ | ⟨w, d⟩
  · exact ⟨_, rfl⟩
  · dsimp only
    obtain ⟨g, hg⟩ := setScalar_stew n { s.stew n with waiting := none, pc := (s.stew n).pc + 8 } (Spec.ofCode d) v
    exact ⟨_, congrArg (Agent.store s) hg⟩

/-- The end of an instruction of the reeve reaches steward-mode cores, outstanding requests and what leaves the device. -/
theorem reeveDone_leaves (s : State) (op page v : Nat) :
    ∃ stews reqs sent, reeveDone s op page v =
      { s with stewards := stews, out := sent ++ s.out, pkg := { s.pkg with outstanding := reqs } } := by
  obtain ⟨sent, hsent⟩ := foldl_sends (f := fun s r => completeReq s r (BitVec.ofNat 2048 v))
    (s.pkg.outstanding.filter fun r => r.kind == .ownq && r.op == op && pageOfVa r.ea == page && decide (outsideMark ≤ r.elem))
    (fun u r hr => by
      have hout : outsideMark ≤ r.elem := by simpa using (Bool.and_eq_true_iff.mp (List.mem_filter.mp hr).2).2
      exact ⟨_, if_pos hout⟩)
    { s with pkg := { s.pkg with outstanding := s.pkg.outstanding.filter fun r =>
      !(r.kind == .ownq && r.op == op && pageOfVa r.ea == page && decide (outsideMark ≤ r.elem)) } }
  rw [reeveDone]
  dsimp only
  rw [hsent]
  split
  · split
    · obtain ⟨stews, hstews⟩ := stewDone_stewards _ 20 v
      rw [hstews]
      exact ⟨_, _, sent, rfl⟩
    · exact ⟨_, _, sent, rfl⟩
  · exact ⟨_, _, sent, rfl⟩
  · exact ⟨_, _, sent, rfl⟩
  · exact ⟨_, _, sent, rfl⟩

/-! ## The home map -/

/-- An entry with signposts is not the entry of a page that never moved. -/
theorem pageEntry_setPage {s : State} {page : Nat} {p : PageEntry} (hp : p ≠ PageEntry.init) : pageEntry (setPage s page p) page = p := by
  rw [pageEntry, pages_setPage]
  exact if_neg hp

theorem homeMoved_of_relaying {s : State} {page : Nat} (h : (pageEntry s page).relaying = true) : homeMoved s page =
    reeveDone (setPage s page { pageEntry s page with relaying := false }) 1 page (moveResult (pageEntry s page).owner 0) := if_pos h

theorem homeMoved_of_ended {s : State} {page : Nat} (h : (pageEntry s page).relaying = false) : homeMoved s page = s :=
  if_neg (Bool.eq_false_iff.mp h)

/-! ## Signposts (R458, R460) -/

theorem endRelay_of_signpost {s : State} {page : Nat} {x : Signpost} (hx : signpostOf s page = some x) : endRelay s page =
    if x.draining = true ∧ x.owner ≠ s.devId ∧ x.queue = [] then
      let t := mapSignpost s page fun y => { y with draining := false }
      if homesPage s page = true then homeMoved t page else sendMessage t 18 (homeDevice s page) page s.devId 0
    else s := by
  rw [endRelay, hx]
  simp only [Option.any_some, Bool.and_eq_true, bne_iff_ne, ne_eq, List.isEmpty_iff, and_assoc]
  rfl

theorem endRelay_of_kept {s : State} {page : Nat} {x : Signpost} (hx : signpostOf s page = some x) (hkept : x.draining = false ∨ x.queue ≠ []) :
    endRelay s page = s := by
  rw [endRelay_of_signpost hx, if_neg]
  rintro ⟨hd, -, hq⟩
  rcases hkept with h | h
  · rw [h] at hd
    cases hd
  · exact h hq

theorem signpostOf_mapSignpost {s : State} {page : Nat} {f : Signpost → Signpost} (hf : ∀ x, (f x).page = x.page) :
    signpostOf (mapSignpost s page f) page = (signpostOf s page).map f := by
  have hfind (l : List Signpost) : (l.map fun x => if x.page = page then f x else x).find? (fun x => x.page == page) =
      (l.find? fun x => x.page == page).map f := by
    induction l with
    | nil => rfl
    | cons x rest ih =>
      by_cases hx : x.page = page
      · simp [hx, hf]
      · simp [hx, ih]
  exact hfind s.pkg.signposts

/-- The end of a move at its home reaches the home map, steward-mode cores, outstanding requests and what leaves. -/
theorem homeMoved_leaves (s : State) (page : Nat) : ∃ stews reqs pages sent, homeMoved s page =
    { s with stewards := stews, out := sent ++ s.out, pkg := { s.pkg with outstanding := reqs, pages := pages } } := by
  by_cases hrel : (pageEntry s page).relaying = true
  · obtain ⟨stews, reqs, sent, hdone⟩ := reeveDone_leaves (setPage s page { pageEntry s page with relaying := false }) 1 page
      (moveResult (pageEntry s page).owner 0)
    exact ⟨stews, reqs, _, sent, (homeMoved_of_relaying hrel).trans hdone⟩
  · exact ⟨_, _, _, [], homeMoved_of_ended (Bool.eq_false_iff.mpr hrel)⟩

/-- A signpost whose relay has ended. -/
def RelayEnds (s : State) (x : Signpost) : Prop := x.draining = true ∧ x.owner ≠ s.devId ∧ x.queue = []

theorem endRelay_of_ending {s : State} {page : Nat} {x : Signpost} (hx : signpostOf s page = some x) (hends : RelayEnds s x) : endRelay s page =
    if homesPage s page = true then homeMoved (mapSignpost s page fun y => { y with draining := false }) page
    else sendMessage (mapSignpost s page fun y => { y with draining := false }) 18 (homeDevice s page) page s.devId 0 :=
  (endRelay_of_signpost hx).trans (if_pos hends)

theorem endRelay_of_lasting {s : State} {page : Nat} {x : Signpost} (hx : signpostOf s page = some x) (hlasts : ¬RelayEnds s x) :
    endRelay s page = s := (endRelay_of_signpost hx).trans (if_neg hlasts)

/-- The end of a relay reaches a signpost and the home map, steward-mode cores, outstanding requests and what leaves. -/
theorem endRelay_of_ending_leaves {s : State} {page : Nat} {x : Signpost} (hx : signpostOf s page = some x) (hends : RelayEnds s x) :
    ∃ stews reqs pages sent, endRelay s page = { s with
      stewards := stews, out := sent ++ s.out,
      pkg := { (mapSignpost s page fun y => { y with draining := false }).pkg with outstanding := reqs, pages := pages } } := by
  rw [endRelay_of_ending hx hends]
  split
  · obtain ⟨stews, reqs, pages, sent, hmoved⟩ := homeMoved_leaves (mapSignpost s page fun y => { y with draining := false }) page
    exact ⟨stews, reqs, pages, sent, hmoved⟩
  · exact ⟨_, _, _, [_], rfl⟩

/-- What the end of a relay leaves. -/
theorem endRelay_leaves {s : State} {page : Nat} {x : Signpost} (hx : signpostOf s page = some x) :
    (endRelay s page).mem = s.mem ∧ (endRelay s page).dies = s.dies ∧ (endRelay s page).pkg.migrations = s.pkg.migrations ∧
    ∃ sent, (endRelay s page).out = sent ++ s.out := by
  by_cases hends : RelayEnds s x
  · obtain ⟨stews, reqs, pages, sent, h⟩ := endRelay_of_ending_leaves hx hends
    rw [h]
    exact ⟨rfl, rfl, rfl, sent, rfl⟩
  · rw [endRelay_of_lasting hx hends]
    exact ⟨rfl, rfl, rfl, [], rfl⟩

theorem signpostOf_endRelay_of_ending {s : State} {page : Nat} {x : Signpost} (hx : signpostOf s page = some x) (hends : RelayEnds s x) :
    signpostOf (endRelay s page) page = some { x with draining := false } := by
  obtain ⟨stews, reqs, pages, sent, h⟩ := endRelay_of_ending_leaves hx hends
  have hmap := signpostOf_mapSignpost (s := s) (page := page) (f := fun y => { y with draining := false }) fun _ => rfl
  rw [hx] at hmap
  rw [h]
  exact hmap

/-- A signpost after the end of a relay. -/
theorem signpostOf_endRelay {s : State} {page : Nat} {x : Signpost} (hx : signpostOf s page = some x) :
    ∃ draining, signpostOf (endRelay s page) page = some { x with draining := draining } := by
  by_cases hends : RelayEnds s x
  · exact ⟨false, signpostOf_endRelay_of_ending hx hends⟩
  · exact ⟨x.draining, by rw [endRelay_of_lasting hx hends, hx]⟩

/-- The home map after the end of a relay of a page whose move is recorded. -/
theorem pageEntry_endRelay_of_ending {s : State} {page : Nat} {x : Signpost} (hx : signpostOf s page = some x) (hends : RelayEnds s x)
    (hhome : homesPage s page = true) (hposts : (pageEntry s page).posts ≠ []) (hrelays : (pageEntry s page).relaying = true) :
    pageEntry (endRelay s page) page = { pageEntry s page with relaying := false } := by
  have hne : ({ pageEntry s page with relaying := false } : PageEntry) ≠ PageEntry.init := fun h => hposts (congrArg PageEntry.posts h)
  have hmoved := homeMoved_of_relaying (s := mapSignpost s page fun y => { y with draining := false }) (page := page) hrelays
  obtain ⟨stews, reqs, sent, hdone⟩ := reeveDone_leaves (setPage (mapSignpost s page fun y => { y with draining := false }) page
    { pageEntry (mapSignpost s page fun y => { y with draining := false }) page with relaying := false }) 1 page
    (moveResult (pageEntry (mapSignpost s page fun y => { y with draining := false }) page).owner 0)
  rw [endRelay_of_ending hx hends, if_pos hhome, hmoved, hdone]
  exact pageEntry_setPage (s := mapSignpost s page fun y => { y with draining := false }) hne

/-! ## Migrations (R458, R459) -/

section
variable {s : State} {m : Migration} (hm : migrationOf s s.event.unit = some m) (hflag : s.event.flag = false)
include hm hflag

theorem migrationCopyPass_of_open : exec .migrationCopyPass s = .next (match mustAbort s m with
    | some k => abortMove s s.event.unit k
    | none =>
      if (m.phase != .copying || (decide (m.dirty.length ≤ 256) || decide (9 ≤ m.passes))) = true then s
      else mapMigration (copyDirty s m) s.event.unit fun m => { m with passes := m.passes + 1, dirty := [] }) := by
  change execMigrationCopyPass s = _
  simp only [execMigrationCopyPass, hflag, hm, Bool.false_eq_true, if_false]
  rcases mustAbort s m with _ | k <;> simp

theorem migrationAbort_of_open : exec .migrationAbort s = .next (
    if abortHolds s m s.event.index = true then abortMove s s.event.unit s.event.index else s) := by
  change execMigrationAbort s = _
  simp only [execMigrationAbort, hflag, hm, Bool.false_eq_true, if_false]
end

theorem migrationFreeze_of_open {s : State} {m : Migration} (hm : migrationOf s s.event.unit = some m) : exec .migrationFreeze s = .next (
    if m.phase = .copying ∧ ((signpostOf s s.event.unit).all fun x => x.queue.isEmpty) = true ∧ (m.dirty.length ≤ 256 ∨ 9 ≤ m.passes) then
      mapMigration s s.event.unit fun m => { m with phase := .frozen }
    else s) := by
  change execMigrationFreeze s = _
  simp only [execMigrationFreeze, hm, Bool.and_eq_true, decide_eq_true_eq, Bool.or_eq_true, and_assoc]

/-- The generation of a page's next owner (R458 step 4). -/
def moveGen (s : State) (page : Nat) : Nat := if homesPage s page then (pageEntry s page).gen + 1 else s.event.size

/-- The owner entries of a die after a switch: those of the page name the new owner and are CLOSED. -/
def switchedDie (s : State) (page target gen d : Nat) (x : Die) : Die :=
  { x with owner := x.owner.map fun y => if y.page = page then { closeEntry s d y with owner := target, gen := gen } else y }

/-- The old owner as its migration ends: what is left to copy goes, and the page is its own no more. -/
def moveLeft (s : State) (page : Nat) (m : Migration) : State :=
  let u := unmapLanes (copyDirty s m) m
  { u with pkg := { u.pkg with migrations := u.pkg.migrations.filter fun x => x.page != page, owned := u.pkg.owned.erase page } }

/-- The old owner once its owner entries name the new one. -/
def moveRedirected (s : State) (page : Nat) (m : Migration) (gen : Nat) : State :=
  (List.range 4).foldl (fun u d => u.setDie d (switchedDie s page m.target (gen % 65536) d (u.die d)))
    (installSignpost (moveLeft s page m) page m.target (gen % 65536))

/-- The old owner once it has sent GO (R458 step 4). -/
def handedOver (s : State) (page : Nat) (m : Migration) (gen : Nat) : State :=
  sendMessage (moveRedirected s page m gen) 5 m.target page m.target gen

/-- The old owner tells the home of a switch. -/
def toldHome (s : State) (page : Nat) (m : Migration) (gen : Nat) : State :=
  if homesPage s page then homeSwitch s page m.target s.devId else sendMessage s 6 (homeDevice s page) page m.target gen

/-- The old owner once it has told the home. -/
def switchedOver (s : State) (page : Nat) (m : Migration) : State := toldHome (handedOver s page m (moveGen s page)) page m (moveGen s page)

theorem copyDirty_sends (s : State) (m : Migration) : ∃ sent, copyDirty s m = { s with out := sent ++ s.out } :=
  foldl_sends m.dirty (fun _ _ _ => ⟨_, rfl⟩) s

theorem installSignpost_leaves (s : State) (page owner gen : Nat) :
    ∃ posts, installSignpost s page owner gen = { s with pkg := { s.pkg with signposts := posts } } := by
  rw [installSignpost]
  split <;> exact ⟨_, rfl⟩

/-- The signpost that the old owner keeps. -/
def switchedSignpost (s : State) (page owner gen : Nat) : Signpost :=
  { page := page, owner := owner, gen := gen, queue := ((signpostOf s page).map Signpost.queue).getD [],
    relayed := ((signpostOf s page).map Signpost.relayed).getD 0, draining := true }

theorem signpostOf_installSignpost (s : State) (page owner gen : Nat) :
    signpostOf (installSignpost s page owner gen) page = some (switchedSignpost s page owner gen) := by
  rw [installSignpost, switchedSignpost]
  rcases hx : signpostOf s page with _ | x
  · have hnone := hx
    rw [signpostOf] at hnone
    simp [signpostOf, List.find?_append, hnone]
  · have hpage : x.page = page := by simpa using List.find?_some hx
    rw [Option.isSome_some, if_pos rfl,
      signpostOf_mapSignpost (f := fun x => { x with owner := owner, gen := gen, draining := true }) (fun _ => rfl), hx, ← hpage]
    rfl

theorem moveLeft_leaves (s : State) (page : Nat) (m : Migration) : ∃ cores owned sent, moveLeft s page m =
    { s with cores := cores, out := sent ++ s.out,
             pkg := { s.pkg with migrations := s.pkg.migrations.filter fun x => x.page != page, owned := owned } } := by
  obtain ⟨sent, hsent⟩ := copyDirty_sends s m
  rw [moveLeft, hsent]
  exact ⟨_, _, sent, rfl⟩

theorem foldl_setDie_dies {f : State → Nat → Die} (l : List Nat) (s : State) :
    ∃ ds, l.foldl (fun u d => u.setDie d (f u d)) s = { s with dies := ds } := by
  induction l generalizing s with
  | nil => exact ⟨s.dies, rfl⟩
  | cons d rest ih =>
    obtain ⟨ds, hds⟩ := ih (s.setDie d (f s d))
    exact ⟨ds, hds⟩

/-- What handing over reaches: cores, owner entries, migrations, the pages owned, signposts and what leaves. -/
theorem handedOver_leaves (s : State) (page : Nat) (m : Migration) (gen : Nat) : ∃ cores ds owned posts sent, handedOver s page m gen =
    { s with cores := cores, dies := ds, out := .message 5 m.target page m.target gen :: (sent ++ s.out),
             pkg := { s.pkg with migrations := s.pkg.migrations.filter fun x => x.page != page, owned := owned, signposts := posts } } := by
  obtain ⟨cores, owned, sent, hleft⟩ := moveLeft_leaves s page m
  obtain ⟨posts, hposts⟩ := installSignpost_leaves (moveLeft s page m) page m.target (gen % 65536)
  obtain ⟨ds, hds⟩ := foldl_setDie_dies (f := fun u d => switchedDie s page m.target (gen % 65536) d (u.die d)) (List.range 4)
    (installSignpost (moveLeft s page m) page m.target (gen % 65536))
  rw [handedOver, moveRedirected, hds, hposts, hleft]
  exact ⟨cores, ds, owned, posts, sent, rfl⟩

theorem signpostOf_handedOver (s : State) (page : Nat) (m : Migration) (gen : Nat) :
    signpostOf (handedOver s page m gen) page = some (switchedSignpost s page m.target (gen % 65536)) := by
  obtain ⟨cores, owned, sent, hleft⟩ := moveLeft_leaves s page m
  obtain ⟨ds, hds⟩ := foldl_setDie_dies (f := fun u d => switchedDie s page m.target (gen % 65536) d (u.die d)) (List.range 4)
    (installSignpost (moveLeft s page m) page m.target (gen % 65536))
  have hsame : signpostOf (handedOver s page m gen) page =
      signpostOf (installSignpost (moveLeft s page m) page m.target (gen % 65536)) page := by
    rw [handedOver, moveRedirected, hds]
    rfl
  rw [hsame, signpostOf_installSignpost, hleft]
  rfl

/-- A die that is not there holds no owner entry. -/
theorem owner_of_absent {s : State} {d : Nat} (h : s.dies.length ≤ d) : (s.die d).owner = [] := by
  rw [State.die, List.getD_eq_default _ _ h]
  rfl

theorem owner_handedOver {s : State} {page d gen : Nat} {m : Migration} {y : OwnerEntry} (hd : d < 4)
    (hy : y ∈ ((handedOver s page m gen).die d).owner) (hpage : y.page = page) :
    y.owner = m.target ∧ y.gen = gen % 65536 ∧ y.closed = true := by
  have hdies : (installSignpost (moveLeft s page m) page m.target (gen % 65536)).dies = s.dies := by
    obtain ⟨posts, hposts⟩ := installSignpost_leaves (moveLeft s page m) page m.target (gen % 65536)
    obtain ⟨cores, owned, sent, hleft⟩ := moveLeft_leaves s page m
    rw [hposts, hleft]
  change y ∈ ((moveRedirected s page m gen).die d).owner at hy
  by_cases hlen : d < s.dies.length
  · rw [moveRedirected, die_foldl_setDie (List.range 4) List.nodup_range (hdies ▸ hlen), if_pos (List.mem_range.mpr hd), switchedDie] at hy
    obtain ⟨o, -, ho⟩ := List.mem_map.mp hy
    split at ho
    · subst ho
      exact ⟨rfl, rfl, rfl⟩
    · next hne =>
      subst ho
      exact absurd hpage hne
  · have hkeeps : (moveRedirected s page m gen).dies.length = s.dies.length := by
      rw [moveRedirected, foldl_keeps (fun u : State => u.dies.length)
        (f := fun u d => u.setDie d (switchedDie s page m.target (gen % 65536) d (u.die d))) (fun _ _ => List.length_set), hdies]
    rw [owner_of_absent (by omega)] at hy
    cases hy

/-! ### The switch (R458 step 4) -/

theorem migrationGo_of_open {s : State} {m : Migration} (hm : migrationOf s s.event.unit = some m) (hflag : s.event.flag = false) :
    exec .migrationGo s = .next (match mustAbort s m with
    | some k => abortMove s s.event.unit k
    | none =>
      if (m.phase != .frozen || admitted s m) = true then s else endRelay (switchedOver s s.event.unit m) s.event.unit) := by
  change execMigrationGo s = _
  simp only [execMigrationGo, hflag, hm, Bool.false_and, Bool.false_eq_true, if_false]
  rcases mustAbort s m with _ | k
  · dsimp only
    have hgen : moveGen (unmapLanes (copyDirty s m) m) s.event.unit = moveGen s s.event.unit := by
      obtain ⟨sent, hsent⟩ := copyDirty_sends s m
      rw [hsent]
      rfl
    change Host.Outcome.next (if (m.phase != .frozen || admitted s m) = true then s
      else endRelay (toldHome (handedOver s s.event.unit m (moveGen (unmapLanes (copyDirty s m) m) s.event.unit)) s.event.unit m
        (moveGen (unmapLanes (copyDirty s m) m) s.event.unit)) s.event.unit) = _
    rw [hgen]
    rfl
  · rfl

/-- The home's entry of a page after a switch. -/
def switchedEntry (s : State) (page : Nat) (m : Migration) : PageEntry :=
  { pageEntry s page with
    owner := m.target, state := .owned, gen := ((pageEntry s page).gen + 1) % 65536, relaying := true,
    posts := ((pageEntry s page).posts.filter fun d => d != m.target && d != s.devId) ++ [s.devId] }

section
variable (s : State) (page : Nat) (m : Migration)

theorem signpostOf_switchedOver :
    signpostOf (switchedOver s page m) page = some (switchedSignpost s page m.target (moveGen s page % 65536)) := by
  rw [switchedOver, toldHome]
  split <;> exact signpostOf_handedOver s page m (moveGen s page)

theorem toldHome_of_home {s : State} {page : Nat} {m : Migration} {gen : Nat} (hhome : homesPage s page = true) :
    toldHome s page m gen = homeSwitch s page m.target s.devId := if_pos hhome

theorem toldHome_of_other {s : State} {page : Nat} {m : Migration} {gen : Nat} (hhome : homesPage s page = false) :
    toldHome s page m gen = sendMessage s 6 (homeDevice s page) page m.target gen := if_neg (Bool.eq_false_iff.mp hhome)

/-- What a switch leaves, and what it sends. -/
theorem switchedOver_leaves : (switchedOver s page m).mem = s.mem ∧ (switchedOver s page m).devId = s.devId ∧
    (switchedOver s page m).stewards = s.stewards ∧ (switchedOver s page m).dies = (handedOver s page m (moveGen s page)).dies ∧
    (switchedOver s page m).pkg.migrations = s.pkg.migrations.filter (fun x => x.page != page) ∧
    homesPage (switchedOver s page m) page = homesPage s page ∧ homeDevice (switchedOver s page m) page = homeDevice s page ∧
    .message 5 m.target page m.target (moveGen s page) ∈ (switchedOver s page m).out ∧
    (homesPage s page = false → .message 6 (homeDevice s page) page m.target (moveGen s page) ∈ (switchedOver s page m).out) := by
  obtain ⟨cores, ds, owned, posts, sent, hover⟩ := handedOver_leaves s page m (moveGen s page)
  rw [switchedOver, hover]
  by_cases hhome : homesPage s page = true
  · rw [toldHome_of_home (by exact hhome)]
    exact ⟨rfl, rfl, rfl, rfl, rfl, rfl, rfl, List.mem_cons_self, fun h => by rw [hhome] at h; cases h⟩
  · rw [toldHome_of_other (by exact Bool.eq_false_iff.mpr hhome)]
    exact ⟨rfl, rfl, rfl, rfl, rfl, rfl, rfl, List.mem_cons_of_mem _ List.mem_cons_self, fun _ => List.mem_cons_self⟩

theorem pageEntry_switchedOver (hhome : homesPage s page = true) : pageEntry (switchedOver s page m) page = switchedEntry s page m := by
  obtain ⟨cores, ds, owned, posts, sent, hover⟩ := handedOver_leaves s page m (moveGen s page)
  have hne : switchedEntry s page m ≠ PageEntry.init := by
    intro h
    have hposts := congrArg PageEntry.posts h
    exact List.append_ne_nil_of_right_ne_nil _ (List.cons_ne_nil _ _) hposts
  rw [switchedOver, hover, toldHome_of_home (by exact hhome)]
  exact pageEntry_setPage hne
end

theorem migrationOf_filter {s : State} {page : Nat} {ms : List Migration} (h : s.pkg.migrations = ms.filter fun x => x.page != page) :
    migrationOf s page = none := by
  rw [migrationOf, h, List.find?_eq_none]
  intro x hx
  simpa using (List.mem_filter.mp hx).2

end Sys2Proof.Machine
end

section
/-! The events of fabric-global pages: relays, reclamation, and the whole (R455 to R462). -/

namespace Sys2Proof.Machine

/-! ## The switch of a page (R458) -/

section
variable {s : State} {m : Migration} (hm : migrationOf s s.event.unit = some m) (hflag : s.event.flag = false)
include hm hflag

theorem migrationGo_of_abort {k : Nat} (habort : mustAbort s m = some k) : exec .migrationGo s = .next (abortMove s s.event.unit k) := by
  rw [migrationGo_of_open hm hflag, habort]

theorem migrationGo_of_waiting (habort : mustAbort s m = none) (hwaits : m.phase = .copying ∨ admitted s m = true) :
    exec .migrationGo s = .next s := by
  rw [migrationGo_of_open hm hflag, habort]
  rcases hwaits with h | h <;> simp [h]

theorem migrationGo_of_clear (habort : mustAbort s m = none) (hphase : m.phase = .frozen) (hclear : admitted s m = false) :
    exec .migrationGo s = .next (endRelay (switchedOver s s.event.unit m) s.event.unit) := by
  rw [migrationGo_of_open hm hflag, habort, hphase, hclear]
  rfl
end

/-- What the switch leaves of a page at its old owner, and what it sends: the words of the obligation. -/
def SwitchLeaves (s t : State) (x : Signpost) (page : Nat) (m : Migration) (gen : Nat) : Prop :=
  migrationOf t page = none ∧ t.mem = s.mem ∧ Sent.message 5 m.target page m.target gen ∈ t.out ∧
  signpostOf t page = some x ∧ x.owner = m.target ∧ x.gen = gen % 65536 ∧ x.queue = ((signpostOf s page).map Signpost.queue).getD [] ∧
  (∀ d < 4, ∀ y ∈ (t.die d).owner, y.page = page → y.owner = m.target ∧ y.gen = gen % 65536 ∧ y.closed = true) ∧
  (homesPage s page = false → Sent.message 6 (homeDevice s page) page m.target gen ∈ t.out) ∧
  (homesPage s page = true → (pageEntry t page).owner = m.target ∧ (pageEntry t page).state = .owned ∧ (pageEntry t page).gen = gen % 65536) ∧
  (m.target ≠ s.devId → x.queue = [] → x.draining = false ∧
    (homesPage s page = false → t.out.head? = some (.message 18 (homeDevice s page) page s.devId 0)) ∧
    (homesPage s page = true → (pageEntry t page).relaying = false)) ∧
  (x.queue ≠ [] → x.draining = true ∧ t.stew 20 = s.stew 20 ∧ (homesPage s page = true → (pageEntry t page).relaying = true))

theorem switch_leaves (s : State) (page : Nat) (m : Migration) :
    ∃ x, SwitchLeaves s (endRelay (switchedOver s page m) page) x page m (moveGen s page) := by
  obtain ⟨hmem, hdev, hstew, hdies, hmigr, hhomes, hdevice, hgo, htold⟩ := switchedOver_leaves s page m
  have hx := signpostOf_switchedOver s page m
  obtain ⟨hmem', hdies', hmigr', sent, hout⟩ := endRelay_leaves hx
  have hmigrated : migrationOf (endRelay (switchedOver s page m) page) page = none := migrationOf_filter (hmigr'.trans hmigr)
  have howners (d : Nat) (hd : d < 4) (y : OwnerEntry) (hy : y ∈ ((endRelay (switchedOver s page m) page).die d).owner) (hpage : y.page = page) :
      y.owner = m.target ∧ y.gen = moveGen s page % 65536 ∧ y.closed = true := by
    rw [State.die, hdies', hdies] at hy
    exact owner_handedOver hd hy hpage
  have hsends {z : Sent} (hz : z ∈ (switchedOver s page m).out) : z ∈ (endRelay (switchedOver s page m) page).out := by
    rw [hout]
    exact List.mem_append_right _ hz
  have hgen (hhome : homesPage s page = true) : ((pageEntry s page).gen + 1) % 65536 = moveGen s page % 65536 := by rw [moveGen, if_pos hhome]
  by_cases hends : RelayEnds (switchedOver s page m) (switchedSignpost s page m.target (moveGen s page % 65536))
  · have hqueue : (switchedSignpost s page m.target (moveGen s page % 65536)).queue = [] := hends.2.2
    have hentry (hhome : homesPage s page = true) : pageEntry (endRelay (switchedOver s page m) page) page =
        { switchedEntry s page m with relaying := false } := by
      have hp := pageEntry_switchedOver s page m hhome
      rw [pageEntry_endRelay_of_ending hx hends (hhomes.trans hhome) (by rw [hp]; exact List.append_ne_nil_of_right_ne_nil _ (List.cons_ne_nil _ _))
        (by rw [hp]; rfl), hp]
    have hlast (hother : homesPage s page = false) :
        (endRelay (switchedOver s page m) page).out.head? = some (.message 18 (homeDevice s page) page s.devId 0) := by
      rw [endRelay_of_ending hx hends, hhomes, hother, hdevice, hdev]
      rfl
    refine ⟨_, hmigrated, hmem'.trans hmem, hsends hgo, signpostOf_endRelay_of_ending hx hends, rfl, rfl, rfl, howners,
      fun hother => hsends (htold hother),
      fun hhome => ?entry, fun _ _ => ⟨rfl, hlast, fun hhome => ?ended⟩, fun h => absurd hqueue h⟩
    case entry =>
      rw [hentry hhome]
      exact ⟨rfl, rfl, hgen hhome⟩
    case ended => rw [hentry hhome]
  · have hsame := endRelay_of_lasting hx hends
    rw [hsame] at hmigrated howners ⊢
    refine ⟨_, hmigrated, hmem, hgo, hx, rfl, rfl, rfl, howners, htold, fun hhome => ?entry, fun hne hqueue => ?never,
      fun _ => ⟨rfl, ?reeve, fun hhome => ?relays⟩⟩
    case entry =>
      rw [pageEntry_switchedOver s page m hhome]
      exact ⟨rfl, rfl, hgen hhome⟩
    case never => exact absurd ⟨rfl, hdev ▸ hne, hqueue⟩ hends
    case reeve => rw [State.stew, hstew, State.stew]
    case relays =>
      rw [pageEntry_switchedOver s page m hhome]
      rfl

/-! ## Relays (R460) -/

/-- A relayed access of this device is answered, or goes on as any other. -/
def relayOwn (s u gone : State) (page : Nat) (sp : Signpost) (r : Req) : State :=
  if deadPeer s sp.owner then answered gone r (.error (Cause.deadpeer, word sp.owner)) 0 0
  else if r.kind = .pref ∨ r.kind = .clean ∨ r.kind = .inval then answered gone r (.ok 0) 0 0
  else if r.kind = .watch then watchQueued u r (farGranule r)
  else sendAway (takeRedirect (addSharer gone page s.devId) (accessOf s r).1 page sp.owner sp.gen) { r with dev := sp.owner, done := r.done + 1 }

/-- A relayed access of another device goes on with its requester counted as a sharer. -/
def relayOn (u : State) (page : Nat) (sp : Signpost) (r : Req) : State :=
  let t := mapSignpost (addSharer u page r.dev) page fun x => { x with relayed := x.relayed + 1 }
  sendMessage { t with out := .request ((devicePort t sp.owner).getD 0) sp.owner { r with done := r.done + 1 } :: t.out } 1 r.dev page sp.owner sp.gen

/-- What a relay does with the oldest access of a queue. -/
def relayed (s u gone : State) (page : Nat) (sp : Signpost) (r : Req) : State :=
  if r.elem < outsideMark then relayOwn s u gone page sp r
  else if deadPeer s sp.owner then failReq u r (Cause.deadpeer, word sp.owner)
  else if 2 ≤ r.done then sendMessage u 2 r.dev page 0 0
  else relayOn u page sp r

section
variable {s u gone : State} {page : Nat} {sp : Signpost} {r : Req}

theorem relayed_own_dead (hown : r.elem < outsideMark) (hdead : deadPeer s sp.owner = true) :
    relayed s u gone page sp r = answered gone r (.error (Cause.deadpeer, word sp.owner)) 0 0 := by
  rw [relayed, if_pos hown, relayOwn, if_pos hdead]

theorem relayed_own_line (hown : r.elem < outsideMark) (halive : deadPeer s sp.owner = false)
    (hline : r.kind = .pref ∨ r.kind = .clean ∨ r.kind = .inval) : relayed s u gone page sp r = answered gone r (.ok 0) 0 0 := by
  rw [relayed, if_pos hown, relayOwn, if_neg (Bool.eq_false_iff.mp halive), if_pos hline]

theorem relayed_own_watch (hown : r.elem < outsideMark) (halive : deadPeer s sp.owner = false) (hwatch : r.kind = .watch) :
    relayed s u gone page sp r = watchQueued u r (farGranule r) := by
  rw [relayed, if_pos hown, relayOwn, if_neg (Bool.eq_false_iff.mp halive), if_neg (by simp [hwatch]), if_pos hwatch]

theorem relayed_own (hown : r.elem < outsideMark) (halive : deadPeer s sp.owner = false)
    (hline : ¬(r.kind = .pref ∨ r.kind = .clean ∨ r.kind = .inval)) (hwatch : r.kind ≠ .watch) : relayed s u gone page sp r =
      sendAway (takeRedirect (addSharer gone page s.devId) (accessOf s r).1 page sp.owner sp.gen) { r with dev := sp.owner, done := r.done + 1 } := by
  rw [relayed, if_pos hown, relayOwn, if_neg (Bool.eq_false_iff.mp halive), if_neg hline, if_neg hwatch]

theorem relayed_dead (hout : outsideMark ≤ r.elem) (hdead : deadPeer s sp.owner = true) :
    relayed s u gone page sp r = failReq u r (Cause.deadpeer, word sp.owner) := by
  rw [relayed, if_neg (Nat.not_lt.mpr hout), if_pos hdead]

theorem relayed_hops (hout : outsideMark ≤ r.elem) (halive : deadPeer s sp.owner = false) (hhops : 2 ≤ r.done) :
    relayed s u gone page sp r = sendMessage u 2 r.dev page 0 0 := by
  rw [relayed, if_neg (Nat.not_lt.mpr hout), if_neg (Bool.eq_false_iff.mp halive), if_pos hhops]

theorem relayed_on (hout : outsideMark ≤ r.elem) (halive : deadPeer s sp.owner = false) (hhops : r.done < 2) :
    relayed s u gone page sp r = relayOn u page sp r := by
  rw [relayed, if_neg (Nat.not_lt.mpr hout), if_neg (Bool.eq_false_iff.mp halive), if_neg (Nat.not_le.mpr hhops)]
end

theorem addSharer_leaves (s : State) (page dev : Nat) :
    ∃ pages sent, addSharer s page dev = { s with out := sent ++ s.out, pkg := { s.pkg with pages := pages } } := by
  rw [addSharer]
  split
  · dsimp only
    split
    · exact ⟨_, [], rfl⟩
    · split <;> exact ⟨_, [], rfl⟩
  · exact ⟨_, [_], rfl⟩

theorem signpostRelay_of_queued {s : State} {sp : Signpost} {r : Req} {rest : List Req} (hflag : s.event.flag = false)
    (hsp : signpostOf s s.event.unit = some sp) (hqueue : sp.queue = r :: rest) (howner : sp.owner ≠ s.devId) :
    exec .signpostRelay s = .next (
      let u := mapSignpost s s.event.unit fun x => { x with queue := rest }
      let gone := { u with pkg := { u.pkg with outstanding := u.pkg.outstanding.eraseIdx (u.pkg.outstanding.findIdx fun q => q == r) } }
      endRelay (relayed s u gone s.event.unit sp r) s.event.unit) := by
  change execSignpostRelay s = _
  rw [execSignpostRelay]
  dsimp only
  rw [hsp, hflag]
  dsimp only
  rw [if_neg Bool.false_ne_true, hqueue]
  dsimp only
  rw [if_neg howner]
  rfl

/-- What a relay sends on leaves. -/
theorem relayOn_leaves (u : State) (page : Nat) (sp : Signpost) (r : Req) : ∃ pages sent, relayOn u page sp r =
    { u with
      out := .message 1 r.dev page sp.owner sp.gen :: .request ((devicePort u sp.owner).getD 0) sp.owner { r with done := r.done + 1 } :: (sent ++ u.out),
      pkg := { (mapSignpost u page fun x => { x with relayed := x.relayed + 1 }).pkg with pages := pages } } := by
  obtain ⟨pages, sent, h⟩ := addSharer_leaves u page r.dev
  rw [relayOn, h]
  exact ⟨pages, sent, rfl⟩

theorem signpostOf_relayOn {s : State} {page : Nat} {x sp : Signpost} {r : Req} {rest : List Req} (hx : signpostOf s page = some x) :
    signpostOf (relayOn (mapSignpost s page fun x => { x with queue := rest }) page sp r) page =
      some { x with queue := rest, relayed := x.relayed + 1 } := by
  obtain ⟨pages, sent, h⟩ := relayOn_leaves (mapSignpost s page fun x => { x with queue := rest }) page sp r
  have hmap := signpostOf_mapSignpost (s := mapSignpost s page fun x => { x with queue := rest }) (page := page)
    (f := fun x => { x with relayed := x.relayed + 1 }) fun _ => rfl
  rw [signpostOf_mapSignpost (f := fun x => { x with queue := rest }) fun _ => rfl, hx] at hmap
  rw [h]
  exact hmap

/-- An access of another device that goes on: its request, the redirect of its requester, and the signpost (R460). -/
theorem relay_leaves {s : State} {page : Nat} {sp : Signpost} {r : Req} {rest : List Req} (hsp : signpostOf s page = some sp) :
    let t := endRelay (relayOn (mapSignpost s page fun x => { x with queue := rest }) page sp r) page
    Sent.message 1 r.dev page sp.owner sp.gen ∈ t.out ∧
    (rest ≠ [] ∨ sp.draining = false → t.out.head? = some (.message 1 r.dev page sp.owner sp.gen)) ∧
    Sent.request ((devicePort s sp.owner).getD 0) sp.owner { r with done := r.done + 1 } ∈ t.out ∧ t.mem = s.mem ∧
    ∀ x, signpostOf t page = some x → x.relayed = sp.relayed + 1 ∧ x.queue = rest := by
  obtain ⟨pages, sent, hon⟩ := relayOn_leaves (mapSignpost s page fun x => { x with queue := rest }) page sp r
  have hx := signpostOf_relayOn (sp := sp) (r := r) (rest := rest) hsp
  obtain ⟨hmem, -, -, sent', hout⟩ := endRelay_leaves hx
  dsimp only
  rw [hmem, hout]
  refine ⟨List.mem_append_right _ ?_, fun hkept => ?_, List.mem_append_right _ ?_, ?_, fun x hfound => ?_⟩
  · rw [hon]
    exact List.mem_cons_self
  · rw [← hout, endRelay_of_kept hx (hkept.symm), hon]
    rfl
  · rw [hon]
    exact List.mem_cons_of_mem _ List.mem_cons_self
  · rw [hon]
    rfl
  · obtain ⟨draining, hd⟩ := signpostOf_endRelay hx
    rw [hd] at hfound
    cases hfound
    exact ⟨rfl, rfl⟩

/-! ## Reclamation (R462) -/

/-- What a device leaves of a page whose signposts are reclaimed, and its answer. -/
def invalidated (s : State) (page addr : Nat) : State :=
  let t := dropOwners s fun y => y.page == page
  if oldAnswered s page (addr % 4096) = true then sendMessage t 10 (homeDevice s page) page s.devId 0 else t

theorem invalidation_leaves (s : State) (page addr : Nat) : (invalidated s page addr).mem = s.mem ∧
    (∀ d < 4, d < s.dies.length → ((invalidated s page addr).die d).owner = (s.die d).owner.filterMap (entryLeft page)) ∧
    (oldAnswered s page (addr % 4096) = true → (invalidated s page addr).out = .message 10 (homeDevice s page) page s.devId 0 :: s.out) ∧
    (oldAnswered s page (addr % 4096) = false → (invalidated s page addr).out = s.out) := by
  have hdies (d : Nat) (hd : d < 4) (hlen : d < s.dies.length) := die_dropOwners (s := s) (page := page) hd hlen
  obtain ⟨ds, hds⟩ := dropOwners_dies s fun y => y.page == page
  rw [invalidated, hds]
  rw [hds] at hdies
  cases hans : oldAnswered s page (addr % 4096)
  · exact ⟨rfl, hdies, fun h => (Bool.false_ne_true h).elim, fun _ => rfl⟩
  · exact ⟨rfl, hdies, fun _ => rfl, fun h => (Bool.false_ne_true h.symm).elim⟩

theorem reclaim_of_own {s : State} (hflag : s.event.flag = false) :
    exec .reclaim s = .next (endReclaim (freeSignpost (sendReclaim s s.event.unit) s.event.unit) s.event.unit) := by
  change execReclaim s = _
  simp only [execReclaim, hflag, Bool.false_eq_true, if_false]

theorem find?_reclaims_of_all {page : Nat} {l : List Reclaim} (h : (l.all fun y => y.page != page) = true) :
    l.find? (fun y => y.page == page) = none := List.find?_eq_none.mpr fun y hy => by simpa using List.all_eq_true.mp h y hy

/-- A device that is not the home has no reclamation to send or to end. -/
theorem sendReclaim_of_none {s : State} {page : Nat} (h : s.pkg.reclaims.find? (fun y => y.page == page) = none) : sendReclaim s page = s := by
  rw [sendReclaim, h]

theorem endReclaim_of_none {s : State} {page : Nat} (h : s.pkg.reclaims.find? (fun y => y.page == page) = none) : endReclaim s page = s := by
  rw [endReclaim, h]

theorem freeSignpost_of_none {s : State} {page : Nat} (hx : signpostOf s page = none) : freeSignpost s page = s := by
  rw [freeSignpost, hx]

theorem freeSignpost_of_held {s : State} {page : Nat} {x : Signpost} (hx : signpostOf s page = some x)
    (hheld : x.queue ≠ [] ∨ x.relayed ≠ 0 ∨ oldAnswered s page x.owner = false) : freeSignpost s page = s := by
  rw [freeSignpost, hx]
  refine if_pos ?_
  rcases hheld with h | h | h <;> simp [h]

theorem freeSignpost_of_free {s : State} {page : Nat} {x : Signpost} (hx : signpostOf s page = some x) (hother : homesPage s page = false)
    (howner : x.owner ≠ s.devId) (hqueue : x.queue = []) (hrelayed : x.relayed = 0) (hanswered : oldAnswered s page x.owner = true) :
    freeSignpost s page = sendMessage (dropSignpost s page) 17 (homeDevice s page) page s.devId 0 := by
  rw [freeSignpost, hx]
  dsimp only
  rw [hqueue, hrelayed, hanswered, hother, if_neg (by simpa using howner)]
  rfl

theorem signpostOf_dropSignpost (s : State) (page : Nat) : signpostOf (dropSignpost s page) page = none := by
  rw [signpostOf, dropSignpost, List.find?_eq_none]
  intro x hx
  simpa using (List.mem_filter.mp hx).2

section
variable {s : State} {page : Nat} {y : Reclaim} (hy : s.pkg.reclaims.find? (fun y => y.page == page) = some y)
include hy

/-- RECLAIM goes out once the sharers have answered. -/
theorem sendReclaim_of_kept (h : y.posts ≠ none ∨ (y.left.all fun d => isDead s d) = false) : sendReclaim s page = s := by
  rw [sendReclaim, hy]
  refine if_pos ?_
  rcases h with h | h
  · rw [Option.isSome_iff_ne_none.mpr h, Bool.true_or]
  · rw [h, Bool.not_false, Bool.or_true]

theorem endReclaim_of_kept (h : ∀ l, y.posts = some l → (l.all fun d => isDead s d) = false) : endReclaim s page = s := by
  rw [endReclaim, hy]
  refine if_neg ?_
  rcases hposts : y.posts with _ | l
  · exact Bool.false_ne_true
  · rw [Option.any_some, h l hposts]
    exact Bool.false_ne_true

/-- The end of a reclamation clears the signposts of the page at its home. -/
theorem endReclaim_of_freed {l : List Nat} (hposts : y.posts = some l) (hdead : (l.all fun d => isDead s d) = true)
    (howner : (pageEntry s page).owner < 4096) :
    (endReclaim s page).mem = s.mem ∧ ((endReclaim s page).pkg.reclaims.any fun z => z.page == page) = false ∧
    pageEntry (endReclaim s page) page = { pageEntry s page with posts := [] } := by
  have hend : endReclaim s page = reeveDone (setPage
      { s with pkg := { s.pkg with reclaims := s.pkg.reclaims.filter fun y => y.page != page } } page { pageEntry s page with posts := [] })
      2 page (moveResult (pageEntry s page).owner 0) := by
    rw [endReclaim, hy]
    exact if_pos (by rw [hposts, Option.any_some, hdead])
  have hne : ({ pageEntry s page with posts := [] } : PageEntry) ≠ PageEntry.init := by
    intro h
    have h4096 : (pageEntry s page).owner = 4096 := congrArg PageEntry.owner h
    omega
  obtain ⟨stews, reqs, sent, hdone⟩ := reeveDone_leaves (setPage
    { s with pkg := { s.pkg with reclaims := s.pkg.reclaims.filter fun y => y.page != page } } page { pageEntry s page with posts := [] })
    2 page (moveResult (pageEntry s page).owner 0)
  rw [hend, hdone]
  refine ⟨rfl, ?_, pageEntry_setPage (s := { s with pkg := { s.pkg with reclaims := _ } }) hne⟩
  rw [List.any_eq_false]
  intro z hz
  simpa using (List.mem_filter.mp hz).2
end

/-- Settles O51: each event by what it leaves of a page, its signposts and its owner entries. -/
theorem pageEvents : Obligations.PageEvents := by
  intro s
  dsimp only
  refine ⟨fun t => ownerCacheLookup_of_other, ownerCacheLookup_of_none, countMessage_of_home, fun hhome hroom => ?count,
    fun m hm => ⟨fun k hflag habort => ?aborts, fun hflag habort hphase hdirty hpasses => ?pass, fun hphase hfew hempty => ?freeze,
      fun hphase hdirty hpasses => ?notYet, fun hqueued => ?queued, fun hflag habort hwaits => migrationGo_of_waiting hm hflag habort hwaits,
      fun hflag habort hphase hclear => ?go, fun hflag hholds => ?abort, fun hflag hholds => ?noAbort⟩,
    fun hflag hkind hhome => ?told, homeMoved_of_relaying, homeMoved_of_ended,
    fun x hx => ⟨fun hd ho hq hother => ?relayTold, fun hd ho hq hhome => ?relayHome, endRelay_of_kept hx⟩,
    fun sp r rest hflag hsp hqueue howner => ?relay, redirect_of_told, ownerCacheReopen_of_clear,
    fun y => ⟨rfl, rfl, rfl, fun core q k hdie hcore hten p hp hq hgo => early_closeEntry hdie hcore hten hp hq hgo⟩,
    fun y => ⟨reopenEntry_of_clear, reopenEntry_of_early⟩, ownerCacheReopen_of_awaited, signpostInvalidation_of_other,
    fun hown hother => ?invalidated, fun hflag hother hnone x hx howner => ⟨fun hqueue hrelayed hanswered => ?freed, fun hheld => ?held⟩,
    fun y hflag hhome hx hy => ⟨fun hposts hleft => ?sharers, fun l hposts hdead => ?devices, fun l hposts hdead howner => ?reclaimed⟩⟩
  case count =>
    obtain ⟨q, hq⟩ := applyCount_leaves (page := s.event.unit) (dev := s.event.index) (ten := s.event.addr % 256) hroom
    exact ⟨_, q, countMessage_of_home hhome, hq⟩
  case aborts => exact ⟨by rw [migrationCopyPass_of_open hm hflag, habort], migrationGo_of_abort hm hflag habort⟩
  case pass =>
    rw [migrationCopyPass_of_open hm hflag, habort]
    exact congrArg _ (if_neg (by simp [hphase]; omega))
  case freeze => rw [migrationFreeze_of_open hm, if_pos ⟨hphase, hempty, hfew⟩]
  case notYet => rw [migrationFreeze_of_open hm, if_neg (by omega)]
  case queued =>
    rw [migrationFreeze_of_open hm, if_neg]
    rintro ⟨-, hempty, -⟩
    rw [hqueued] at hempty
    cases hempty
  case go =>
    obtain ⟨x, hleaves⟩ := switch_leaves s s.event.unit m
    exact ⟨_, x, migrationGo_of_clear hm hflag habort hphase hclear, hleaves⟩
  case abort =>
    rw [migrationAbort_of_open hm hflag, if_pos hholds, abortMove]
    exact ⟨fun hother => congrArg _ (if_neg (Bool.eq_false_iff.mp hother)), fun hhome => congrArg _ (if_pos hhome)⟩
  case noAbort => rw [migrationAbort_of_open hm hflag, hholds, if_neg Bool.false_ne_true]
  case told =>
    change execMigrationGo s = _
    simp [execMigrationGo, hflag, hkind, hhome]
  case relayTold => rw [endRelay_of_ending hx ⟨hd, ho, hq⟩, hother, if_neg Bool.false_ne_true]
  case relayHome => rw [endRelay_of_ending hx ⟨hd, ho, hq⟩, if_pos hhome]
  case relay =>
    have hrelay := signpostRelay_of_queued hflag hsp hqueue howner
    have hgives {t : State} := fun h => hrelay.trans (congrArg (fun t => Host.Outcome.next (endRelay t s.event.unit)) (h : _ = t))
    exact ⟨fun hown => ⟨fun hdead => hgives (relayed_own_dead hown hdead), fun halive hline => hgives (relayed_own_line hown halive hline),
        fun halive hwatch => hgives (relayed_own_watch hown halive hwatch), fun halive hline hwatch => hgives (relayed_own hown halive hline hwatch)⟩,
      fun hout hdead => hgives (relayed_dead hout hdead), fun hout halive hhops => hgives (relayed_hops hout halive hhops),
      fun halive hout hhops => ⟨_, hgives (relayed_on hout halive hhops), relay_leaves hsp⟩⟩
  case invalidated => exact ⟨_, signpostInvalidation_of_own hown hother, invalidation_leaves s s.event.index s.event.addr⟩
  case freed =>
    have hnone := find?_reclaims_of_all hnone
    refine ⟨_, reclaim_of_own hflag, ?_⟩
    rw [sendReclaim_of_none hnone, freeSignpost_of_free hx hother howner hqueue hrelayed hanswered, endReclaim_of_none (by exact hnone)]
    exact ⟨signpostOf_dropSignpost s _, rfl, rfl⟩
  case held =>
    have hnone := find?_reclaims_of_all hnone
    rw [reclaim_of_own hflag, sendReclaim_of_none hnone, freeSignpost_of_held hx hheld, endReclaim_of_none hnone]
  case sharers =>
    rw [reclaim_of_own hflag, sendReclaim_of_kept hy (.inr hleft), freeSignpost_of_none hx,
      endReclaim_of_kept hy fun l hl => by rw [hposts] at hl; cases hl]
  case devices =>
    rw [reclaim_of_own hflag, sendReclaim_of_kept hy (.inl (by rw [hposts]; exact nofun)), freeSignpost_of_none hx,
      endReclaim_of_kept hy fun k hk => by rw [hposts] at hk; cases hk; exact hdead]
  case reclaimed =>
    obtain ⟨hmem, hgone, hentry⟩ := endReclaim_of_freed hy hposts hdead howner
    refine ⟨_, (reclaim_of_own hflag).trans (congrArg _ ?_), hmem, hgone, by rw [hentry], by rw [hentry]⟩
    rw [sendReclaim_of_kept hy (.inl (by rw [hposts]; exact nofun)), freeSignpost_of_none hx]

end Sys2Proof.Machine
end

section
/-! The array instructions of a firing that claims its array (R264 to R277). -/

namespace Sys2Proof.Machine

/-- What MXLDB stages. -/
def stagedRows (a : Arr) (t : Ty) (sexp : Int) (base : Nat) (rows : List (List Nat)) : Tab (List Nat) :=
  rows.zipIdx.foldl (fun u p => Tab.set [] u (base + p.2) (Ty.code t :: (sexp + 128).toNat :: p.1)) a.staging

/-- A descriptor whose payload and rows are there (R258). -/
theorem fits {n rows base room need : Nat} (hlen : need ≤ n) (hbase : base + rows ≤ room) :
    ¬(decide (n < need) || decide (room < base + rows)) = true := by
  simp only [Bool.or_eq_true, decide_eq_true_eq]
  omega

theorem findSome?_rowChecks {a : Arr} {tag base seq b rows : Nat} {last : Bool}
    (hrows : ∀ r, r < rows → rowChecks a tag (base + r) seq last b = none) :
    (((List.range rows).map fun r => base + r).findSome? fun r => rowChecks a tag r seq last b) = none := by
  rw [List.findSome?_eq_none_iff]
  intro r hr
  obtain ⟨i, hi, rfl⟩ := List.mem_map.mp hr
  exact hrows i (List.mem_range.mp hi)

/-! ## Draining (R271) -/

/-- The array after its complete rows of a tile are drained. -/
def drained (a : Arr) (tag : Nat) (rows : List Nat) : Arr :=
  rows.foldl (fun a r => if (a.tile tag r).state = .complete then a.setTile tag r TileRow.init else a) a

theorem tile_setTile {a : Arr} {tag r g q : Nat} {x : TileRow} (hr : r < 32) (hq : q < 32) :
    (a.setTile tag r x).tile g q = if g = tag ∧ q = r then x else a.tile g q := by
  by_cases hkey : g = tag ∧ q = r
  · obtain ⟨rfl, rfl⟩ := hkey
    rw [if_pos ⟨rfl, rfl⟩]
    exact Tab.get_set_self
  · rw [if_neg hkey]
    exact Tab.get_set_ne (by omega)

theorem drained_tiles (a : Arr) (tag : Nat) (rows : List Nat) : ∃ tiles, drained a tag rows = { a with tiles := tiles } := by
  induction rows generalizing a with
  | nil => exact ⟨a.tiles, rfl⟩
  | cons r rest ih =>
    obtain ⟨tiles, htiles⟩ := ih (if (a.tile tag r).state = .complete then a.setTile tag r TileRow.init else a)
    refine ⟨tiles, htiles.trans ?_⟩
    split <;> rfl

/-- A drain clears the complete rows that it names. -/
theorem tile_drained {a : Arr} {tag g q : Nat} {rows : List Nat} (hrows : ∀ r ∈ rows, r < 32) (hq : q < 32) : (drained a tag rows).tile g q =
    if g = tag ∧ q ∈ rows ∧ (a.tile g q).state = .complete then TileRow.init else a.tile g q := by
  induction rows generalizing a with
  | nil => rw [if_neg (by simp)]; rfl
  | cons r rest ih =>
    have hstep := ih (a := if (a.tile tag r).state = .complete then a.setTile tag r TileRow.init else a) fun x hx => hrows x (List.mem_cons_of_mem r hx)
    have htile : (if (a.tile tag r).state = .complete then a.setTile tag r TileRow.init else a).tile g q =
        if g = tag ∧ q = r ∧ (a.tile g q).state = .complete then TileRow.init else a.tile g q := by
      by_cases hkey : g = tag ∧ q = r
      · obtain ⟨rfl, rfl⟩ := hkey
        by_cases hc : (a.tile g q).state = .complete
        · rw [if_pos hc, tile_setTile hq hq, if_pos ⟨rfl, rfl⟩, if_pos ⟨rfl, rfl, hc⟩]
        · rw [if_neg hc, if_neg (by simp [hc])]
      · have hnot : ¬(g = tag ∧ q = r ∧ (a.tile g q).state = .complete) := fun ⟨hg, hqr, _⟩ => hkey ⟨hg, hqr⟩
        rw [if_neg hnot]
        by_cases hc : (a.tile tag r).state = .complete
        · rw [if_pos hc, tile_setTile (hrows r List.mem_cons_self) hq, if_neg hkey]
        · rw [if_neg hc]
    refine hstep.trans ?_
    by_cases hthis : g = tag ∧ q = r ∧ (a.tile g q).state = .complete
    · obtain ⟨hg, hqr, hc⟩ := hthis
      have hinit : ¬(g = tag ∧ q ∈ rest ∧ TileRow.init.state = .complete) := fun ⟨_, _, h⟩ => absurd h (by decide)
      rw [htile.trans (if_pos ⟨hg, hqr, hc⟩), if_neg hinit, if_pos ⟨hg, hqr ▸ List.mem_cons_self, hc⟩]
    · rw [htile.trans (if_neg hthis)]
      refine if_congr ⟨fun ⟨hg, hmem, hc⟩ => ⟨hg, List.mem_cons_of_mem r hmem, hc⟩, fun ⟨hg, hmem, hc⟩ => ⟨hg, ?_, hc⟩⟩ rfl rfl
      exact (List.mem_cons.mp hmem).resolve_left fun hqr => hthis ⟨hg, hqr, hc⟩

/-- The lanes that MXDRN gives: those of the complete rows, zeros for the others. -/
def drainedLanes (a : Arr) (tag base n : Nat) : List Nat :=
  ((List.range n).map fun i => a.tile tag (base + i)).flatMap fun u =>
    if u.state = .complete then u.acc.map BitVec.toNat else List.replicate 32 0

/-- The array that MXDRN leaves: it keeps what it gives, or drains it. -/
def leftByDrain (a : Arr) (tag base n : Nat) (keeps : Bool) : Arr :=
  if keeps then a else drained a tag ((List.range n).map fun i => base + i)

theorem leftByDrain_leaves {a : Arr} {tag base n : Nat} (hbase : base + n ≤ 32) (keeps : Bool) :
    let a' := leftByDrain a tag base n keeps
    (keeps = true → a' = a) ∧ a'.cells = a.cells ∧ a'.early = a.early ∧ a'.stat = a.stat ∧
    (keeps = false → a' = { a with tiles := a'.tiles } ∧
      (∀ i, i < n → (a.tile tag (base + i)).state = .complete → a'.tile tag (base + i) = TileRow.init) ∧
      (∀ i, i < n → (a.tile tag (base + i)).state ≠ .complete → a'.tile tag (base + i) = a.tile tag (base + i)) ∧
      ∀ g r, r < 32 → g ≠ tag ∨ r < base ∨ base + n ≤ r → a'.tile g r = a.tile g r) := by
  have hmem (r : Nat) : r ∈ (List.range n).map (fun i => base + i) ↔ base ≤ r ∧ r < base + n := by
    simp only [List.mem_map, List.mem_range]
    exact ⟨fun ⟨i, hi, h⟩ => by omega, fun h => ⟨r - base, by omega, by omega⟩⟩
  have hrows (r : Nat) (hr : r ∈ (List.range n).map fun i => base + i) : r < 32 := by
    have := (hmem r).mp hr
    omega
  obtain ⟨tiles, htiles⟩ := drained_tiles a tag ((List.range n).map fun i => base + i)
  cases keeps with
  | true => exact ⟨fun _ => rfl, rfl, rfl, rfl, nofun⟩
  | false =>
    have hleft : leftByDrain a tag base n false = drained a tag ((List.range n).map fun i => base + i) := rfl
    dsimp only
    rw [hleft]
    refine ⟨nofun, by rw [htiles], by rw [htiles], by rw [htiles], fun _ => ⟨by rw [htiles], fun i hi hc => ?_, fun i hi hc => ?_,
      fun g r hr hout => ?_⟩⟩
    · rw [tile_drained hrows (by omega), if_pos ⟨rfl, (hmem _).mpr (by omega), hc⟩]
    · rw [tile_drained hrows (by omega), if_neg fun ⟨_, _, h⟩ => hc h]
    · rw [tile_drained hrows hr, if_neg]
      rintro ⟨hg, hin, -⟩
      have := (hmem r).mp hin
      omega

/-! ## The claim and the owner (R266, R267) -/

theorem ctxImage_claimOne {s t : State} {e c : Nat} (hone : claimOne s e c = some t) (d i : Nat) : ctxImage t d i = ctxImage s d i := by
  rw [claimOne] at hone
  split at hone
  · split at hone
    · cases hone
      rfl
    · cases hone
  · cases hone
    rw [ctxImage, ctxWord, ctxImage, ctxWord]
    by_cases hc : coreOf d = c
    · rw [hc, State.core_setCore]
      rfl
    · rw [State.core_setCore_ne hc]

/-- A claim leaves the images of the contexts. -/
theorem ctxImage_claimArray {s t : State} {e : Nat} (hclaim : claimArray s e = some t) (d i : Nat) : ctxImage t d i = ctxImage s d i := by
  rw [claimArray] at hclaim
  split at hclaim
  · cases hclaim
  · split at hclaim
    · cases hclaim
    · next u hu =>
      split at hclaim
      · cases hclaim
        exact ctxImage_claimOne hu d i
      · exact (ctxImage_claimOne hclaim d i).trans (ctxImage_claimOne hu d i)

section
variable {s t : State} {e : Nat} {f : Firing} (h : s.agent = some (.firing e f)) (hclaim : claimArray s e = some t) {o : Ops} {cfg : Bool}
  {k : State → Nat → Firing → Except Why (State × Option Agent)}
include h hclaim

theorem arrayOp_of_claimed : arrayOp o s cfg k = .next (
    let a := (t.core (coreOf e)).arr
    if (!a.ownv && !cfg || (a.ownv && a.ownimg != ctxImage s e f.frame.ctx)) = true then raise t Cause.arrown (word a.ownimg)
    else match k t e f with
      | .error w => raise t w.1 w.2
      | .ok (t, none) => t
      | .ok (t, some x) => finish t o x) := by
  rw [arrayOp, withFiring, h]
  dsimp only
  rw [hclaim] <;> rfl

/-- On an array that no image owns, only its configuration goes on. -/
theorem arrayOp_of_free (hfree : (t.core (coreOf e)).arr.ownv = false) :
    arrayOp o s false k = .next (raise t Cause.arrown (word (t.core (coreOf e)).arr.ownimg)) := by
  refine (arrayOp_of_claimed h hclaim).trans (congrArg _ (if_pos ?_))
  rw [hfree]
  rfl

/-- On an array that another image owns, no instruction goes on. -/
theorem arrayOp_of_other (hown : (t.core (coreOf e)).arr.ownv = true) (himg : (t.core (coreOf e)).arr.ownimg ≠ ctxImage s e f.frame.ctx) :
    arrayOp o s cfg k = .next (raise t Cause.arrown (word (t.core (coreOf e)).arr.ownimg)) := by
  refine (arrayOp_of_claimed h hclaim).trans (congrArg _ (if_pos ?_))
  simp [hown, himg]

/-- On an array of its image, or on a free one that it configures, an instruction goes on. -/
theorem arrayOp_of_admitted {u : State} {x : Agent} (hfree : (t.core (coreOf e)).arr.ownv = true ∨ cfg = true)
    (himg : (t.core (coreOf e)).arr.ownv = true → (t.core (coreOf e)).arr.ownimg = ctxImage s e f.frame.ctx)
    (hk : k t e f = .ok (u, some x)) : arrayOp o s cfg k = .next (finish u o x) := by
  refine (arrayOp_of_claimed h hclaim).trans (congrArg _ ((if_neg ?_).trans ?_))
  · rcases hown : (t.core (coreOf e)).arr.ownv with _ | _
    · simpa [hown] using hfree
    · simp [himg hown]
  · rw [hk]

theorem mxcfg_of_idle (himg : (t.core (coreOf e)).arr.ownv = true → (t.core (coreOf e)).arr.ownimg = ctxImage s e f.frame.ctx)
    (hchain : xField o.x 1 0 = 1 → coreOf e % 128 < 120 ∧ isFused t (below (coreOf e)) = false) (hidle : arrBusy (arrOf t (coreOf e)) = 0) :
    exec (.mxcfg o) s = .next (finish (setArr t (coreOf e) { (t.core (coreOf e)).arr with
      role := xField o.x 1 0, outf := outfOf o.ty, rm := o.m, ownv := true, ownimg := ctxImage s e f.frame.ctx }) o (.firing e f)) := by
  rw [← ctxImage_claimArray hclaim]
  have hexec : execMxcfg o s = _ := arrayOp_of_admitted h hclaim (.inr rfl) himg (by
    dsimp only
    rw [hidle, if_neg, if_neg (by decide)]
    simp only [Bool.and_eq_true, decide_eq_true_eq, Bool.or_eq_true, not_and, not_or]
    exact fun hrole => ⟨Nat.not_le.mpr (hchain hrole).1, Bool.eq_false_iff.mp (hchain hrole).2⟩)
  exact hexec

/-! ## An array of the firing's image -/

variable (hown : (t.core (coreOf e)).arr.ownv = true) (himg : (t.core (coreOf e)).arr.ownimg = ctxImage s e f.frame.ctx)
include hown himg

theorem arrayOp_of_owned {u : State} {x : Agent} (hk : k t e f = .ok (u, some x)) : arrayOp o s cfg k = .next (finish u o x) :=
  arrayOp_of_admitted h hclaim (.inl hown) (fun _ => himg) hk

theorem mxldb_of_fitting {b rows width : Nat} {vals : List Nat} {sexp : Int} {a : Arr}
    (hwidth : (if (t.core (coreOf e)).arr.role = 1 then 64 else 32) = width) (ha : (t.core (arrData t (coreOf e))).arr = a)
    (hb : src t (.firing e f) o .whole o.b false 0 = b) (hrowsn : descRows b = rows) (hvals : payloadValues t (.firing e f) o = vals)
    (hsexp : operandSexp f o.a = sexp) (hfeeds : feedsHere t (coreOf e) = true) (hchecks : partChecks a o.ty sexp = none)
    (hstaged : ((a.staging.head?.map Prod.snd).getD [Ty.code o.ty, (sexp + 128).toNat]).take 2 = [Ty.code o.ty, (sexp + 128).toNat])
    (hlen : 32 * rows ≤ vals.length) (hbase : descBase b + rows ≤ width)
    (hbad : (((List.range rows).map (payloadRow vals 32)).flatten.find? (containerBad (.typed o.ty))) = none) :
    exec (.mxldb o) s = .next (finish (setArr t (arrData t (coreOf e))
      (let a' := { a with staging := stagedRows a o.ty sexp (descBase b) ((List.range rows).map (payloadRow vals 32)) }
       if b.testBit 11 then makeStationary a' width else a')) o (.firing e f)) := by
  subst ha hrowsn hwidth
  have hexec : execMxldb o s = _ := arrayOp_of_owned h hclaim hown himg (by
    dsimp only
    rw [srcWord, hb, hvals, hsexp, hfeeds, hchecks, hstaged, hbad, Bool.not_true]
    dsimp only
    rw [if_neg Bool.false_ne_true, bne_self_eq_false, if_neg Bool.false_ne_true, if_neg (fits hlen hbase)])
  exact hexec

theorem mxfeed_of_fitting {b rows width : Nat} {vals : List Nat} {sexp : Int} {a : Arr}
    (hwidth : (if (t.core (coreOf e)).arr.role = 1 then 64 else 32) = width) (ha : (t.core (arrData t (coreOf e))).arr = a)
    (hb : src t (.firing e f) o .whole o.b false 0 = b) (hrowsn : descRows b = rows) (hvals : payloadValues t (.firing e f) o = vals)
    (hsexp : operandSexp f o.a = sexp) (hfeeds : feedsHere t (coreOf e) = true) (hstat : a.statv = true) (hchecks : partChecks a o.ty sexp = none)
    (hlen : width * rows ≤ vals.length) (hbase : descBase b + rows ≤ 32)
    (hbad : (vals.take (width * rows)).find? (containerBad (.typed o.ty)) = none)
    (hrows : ∀ r, r < rows → rowChecks a (descTag b) (descBase b + r) (descSeq b) (b.testBit 22) b = none)
    (hplaces : a.places + ((List.range rows).countP fun r => !a.isNext (descTag b) (descBase b + r) (descSeq b)) ≤ 16)
    (hfast : throttled t (dieOf (coreOf e)) = false) (hroom : a.cells.length + rows ≤ cellRoom (t.core (coreOf e)).arr.role) :
    exec (.mxfeed o) s = .next (finish (setArr t (arrData t (coreOf e)) ((List.range rows).foldl (fun u r =>
        admitRow u e (descTag b) (descBase b + r) (descSeq b) (b.testBit 22) o.ty (payloadRow vals width r) sexp) a)) o
      (.firing e { f with fed := some (descTag b, descBase b + rows - 1) })) := by
  subst ha hrowsn hwidth
  have hexec : execMxfeed o s = _ := arrayOp_of_owned h hclaim hown himg (by
    dsimp only
    rw [srcWord, hb, hvals, hsexp, hfeeds, hstat, hchecks, hbad, findSome?_rowChecks hrows, List.countP_map, hfast,
      Bool.not_true]
    dsimp only [Function.comp_def]
    rw [if_neg Bool.false_ne_true, if_neg Bool.false_ne_true, if_neg (fits hlen hbase), if_neg (Nat.not_lt.mpr hplaces), if_neg (by simpa using hroom)])
  exact hexec

theorem mxdrn_of_settled {b n : Nat} {a : Arr} (ha : (t.core (coreOf e)).arr = a) (hb : src t (.firing e f) o .whole o.b false 0 = b)
    (hn : (if a.outf = 1 then 4 else 2) = n) (hrole : a.role ≠ 1) (hout : outfOf o.ty = a.outf) (hbase : descBase b + n ≤ 32)
    (hsettled : ∀ u ∈ (List.range n).map fun i => a.tile (descTag b) (descBase b + i), u.state ≠ .accum) :
    exec (.mxdrn o) s = .next (finish (setArr t (coreOf e) (leftByDrain a (descTag b) (descBase b) n (b.testBit 11))) o
      ((Agent.firing e f).setVector o.d (if a.outf = 1 then vecOfPacked 16 (drainedLanes a (descTag b) (descBase b) n)
        else vecOfLanes (drainedLanes a (descTag b) (descBase b) n)))) := by
  subst hn ha
  have hexec : execMxdrn o s = _ := arrayOp_of_owned h hclaim hown himg (by
    dsimp only
    rw [srcWord, hb, if_neg hrole, hout, bne_self_eq_false, if_neg Bool.false_ne_true, if_neg (Nat.not_lt.mpr hbase), List.map_map, if_neg, if_neg]
    · simpa [List.any_eq_true] using hsettled
    · simp only [List.any_eq_true, Bool.and_eq_true, not_exists, not_and, beq_iff_eq]
      rintro r hr hstate
      obtain ⟨i, hi, rfl⟩ := List.mem_map.mp hr
      exact absurd hstate (hsettled _ (List.mem_map_of_mem hi)))
  exact hexec

theorem mxrel_of_single (hidle : arrBusy (arrOf t (coreOf e)) < 2) (hpartner : arrPartner t (coreOf e) = none) :
    exec (.mxrel o) s = .next (finish (setArr t (coreOf e) (t.core (coreOf e)).arr.released) o (.firing e f)) := by
  have hexec : execMxrel o s = _ := arrayOp_of_owned h hclaim hown himg (by
    dsimp only
    rw [hpartner, Nat.div_eq_of_lt hidle, if_neg (by decide)])
  exact hexec

theorem mxrelForce_of_owned : exec (.mxrelForce o) s = .next (finish (forceArray t (coreOf e)) o (.firing e f)) := by
  have hexec : execMxrelForce o s = _ := arrayOp_of_owned h hclaim hown himg rfl
  exact hexec

theorem mxcor_of_captured (hfed : f.fed = none ∨ (arrOf t (coreOf e)).cells.all (fun r => r.elem != e) = true) :
    exec (.mxcor o) s = .next (finish t o
      ((Agent.firing e f).setVector o.d (vecOfLanes (mxcorLanes (arrOf t (coreOf e)) f.fed.isSome (xField o.x 1 0))))) := by
  have hexec : execMxcor o s = _ := arrayOp_of_owned h hclaim hown himg (by
    dsimp only
    rw [if_neg]
    simp only [Bool.and_eq_true, List.any_eq_true, beq_iff_eq, not_and, not_exists]
    intro hsome r hr helem
    rcases hfed with hnone | hall
    · rw [hnone] at hsome
      cases hsome
    · simpa [helem] using List.all_eq_true.mp hall r hr)
  exact hexec

theorem mxstat_of_owned : exec (.mxstat o) s = .next (finish
    (if o.x.toNat.testBit 4 then setArr t (arrData t (coreOf e)) { (t.core (arrData t (coreOf e))).arr with trunc := 0, inv := false, forced := false }
      else t) o ((Agent.firing e f).setScalar o.d
        (if xField o.x 1 0 = 0 then astat t (coreOf e) else tileMasks (t.core (arrData t (coreOf e))).arr (xField o.x 3 2)))) := by
  have hexec : execMxstat o s = _ := arrayOp_of_owned h hclaim hown himg rfl
  exact hexec
end

/-- Settles O24, instruction by instruction: the claim and the owner, and then what the instruction makes of its array. -/
theorem arrayInstructionsComplete : Obligations.ArrayInstructionsComplete := by
  intro o s t e f h hclaim
  dsimp only
  refine ⟨mxcfg_of_idle h hclaim, fun hfree => ?free, fun hown himg => ?other, fun hown himg => ⟨fun hfeeds hchecks => ⟨?ldb, ?feed⟩, ?drn,
    mxrel_of_single h hclaim hown himg, mxrelForce_of_owned h hclaim hown himg, mxcor_of_captured h hclaim hown himg,
    mxstat_of_owned h hclaim hown himg⟩⟩
  case free =>
    have hraise {k} : arrayOp o s false k = _ := arrayOp_of_free h hclaim hfree
    simp only [List.forall_mem_cons, List.not_mem_nil, false_implies, implies_true, and_true]
    have hforce : execMxrelForce o s = _ := hraise
    have hstat : execMxstat o s = _ := hraise
    exact ⟨hraise, hraise, hraise, hraise, hforce, hraise, hstat⟩
  case other =>
    have hraise {cfg k} : arrayOp o s cfg k = _ := arrayOp_of_other h hclaim hown himg
    simp only [List.forall_mem_cons, List.not_mem_nil, false_implies, implies_true, and_true]
    have hforce : execMxrelForce o s = _ := hraise
    have hstat : execMxstat o s = _ := hraise
    exact ⟨hraise, hraise, hraise, hraise, hraise, hforce, hraise, hstat⟩
  case ldb =>
    intro hstaged hlen hbase hbad
    exact mxldb_of_fitting h hclaim hown himg rfl rfl rfl rfl rfl rfl hfeeds hchecks hstaged hlen hbase hbad
  case feed =>
    intro hstat hlen hbase hbad hrows hplaces hfast hroom
    exact mxfeed_of_fitting h hclaim hown himg rfl rfl rfl rfl rfl rfl hfeeds hstat hchecks hlen hbase hbad hrows hplaces hfast hroom
  case drn =>
    intro hrole hout hbase hsettled
    exact ⟨_, mxdrn_of_settled h hclaim hown himg rfl rfl rfl hrole hout hbase hsettled, leftByDrain_leaves hbase _⟩

end Sys2Proof.Machine
end

section
/-! The sheaf cutter's instructions of a firing, and the capture of SPHDR (R285 to R296). -/

namespace Sys2Proof.Machine

/-! ## What reads of the cutter leave -/

/-- What a route of an element is resolved by: the cores that are fused off and the registers of every core. -/
def routing (s : State) : List (BitVec 128) × (Nat → Tab W64) := (s.fused, fun c => (s.core c).cfg1)

theorem routing_setCore {s : State} {c : Nat} {x : Core} (hx : x.cfg1 = (s.core c).cfg1) : routing (s.setCore c x) = routing s := by
  refine Prod.ext rfl (funext fun d => ?_)
  by_cases hd : d = c
  · subst hd
    exact (congrArg Core.cfg1 State.core_setCore).trans hx
  · exact congrArg Core.cfg1 (State.core_setCore_ne hd)

theorem routing_correct (s : State) (a n : Nat) : routing (correct s a n) = routing s := by
  refine foldl_keeps routing (fun s e => ?_) s.soft s
  split
  · next core off =>
    split
    · change routing (s.setCore core { s.core core with eccScr := min ((s.core core).eccScr + 1) 65535 }) = _
      exact routing_setCore rfl
    · rfl
  · split <;> rfl
  · split <;> rfl
  · rfl

theorem routing_readScr (s : State) (e : Nat) (f : Firing) (n : Nat) (offs : List Nat) : routing (readScr s e f n offs).1 = routing s := by
  have hkeeps := foldl_keeps routing (fun s a => routing_correct s (scrAddr (coreOf e) a) n) offs s
  rw [readScr]
  split <;> exact hkeeps

theorem routing_cutRead {s u : State} {e off n v : Nat} {f : Firing} (h : cutRead s e f off n = .ok (u, v)) : routing u = routing s := by
  rw [cutRead] at h
  split at h
  · cases h
  · split at h
    · cases h
    · next hread =>
      cases h
      have := routing_readScr s e f n [off]
      rw [hread] at this
      exact this

/-- A computation that succeeds is made of computations that succeed. -/
theorem bind_eq_ok {ε α β : Type} {x : Except ε α} {k : α → Except ε β} {b : β} (h : x.bind k = .ok b) : ∃ a, x = .ok a ∧ k a = .ok b := by
  cases x with
  | error w => cases h
  | ok a => exact ⟨a, rfl, h⟩

theorem routing_bitWords {e base n : Nat} {f : Firing} {sum : Option Nat} {g : Nat} {s u : State} {ws : List Nat}
    (h : bitWords e f base sum n g s = .ok (u, ws)) : routing u = routing s := by
  induction n generalizing g s u ws with
  | zero => cases h; rfl
  | succ n ih =>
    rw [bitWords] at h
    split at h
    · have hskip : (bitWords e f base sum n (g + 1) s).bind (fun p => .ok (p.1, 0 :: p.2)) = .ok (u, ws) := h
      obtain ⟨⟨v, r⟩, hrest, h⟩ := bind_eq_ok hskip
      cases h
      exact ih hrest
    · obtain ⟨⟨t, w⟩, hword, h⟩ := bind_eq_ok h
      obtain ⟨⟨v, r⟩, hrest, h⟩ := bind_eq_ok h
      cases h
      exact (ih hrest).trans (routing_cutRead hword)

theorem routing_bitOperand {s u : State} {e d v : Nat} {f : Firing} {tree : Bool} (h : bitOperand s e f d tree = .ok (u, v)) :
    routing u = routing s := by
  rw [bitOperand] at h
  split at h
  · obtain ⟨_, hthrow, -⟩ := bind_eq_ok h
    cases hthrow
  · dsimp only at h
    split at h
    · obtain ⟨⟨t, m⟩, hsum, h⟩ := bind_eq_ok h
      obtain ⟨⟨w, ws⟩, hwords, h⟩ := bind_eq_ok h
      cases h
      exact (routing_bitWords hwords).trans (routing_cutRead hsum)
    · obtain ⟨⟨w, ws⟩, hwords, h⟩ := bind_eq_ok h
      cases h
      exact routing_bitWords hwords

/-- A route names the same cores where it is resolved the same way. -/
theorem routeCores_of_routing {s t : State} (h : routing t = routing s) (e ctx r : Nat) (w : W64) :
    routeCores t e ctx r w = routeCores s e ctx r w := by
  obtain ⟨hfused, hregs⟩ := Prod.mk.inj h
  have hfork : forkOf t e ctx r w = forkOf s e ctx r w := by
    rw [forkOf, forkOf, show (t.core (coreOf e)).cfg1 = (s.core (coreOf e)).cfg1 from congrFun hregs (coreOf e)]
  have hisFused (c : Nat) : isFused t c = isFused s c := by rw [isFused, isFused, hfused]
  rw [routeCores, routeCores, hfork]
  simp only [hisFused]

/-- The word that a cut gives. -/
def cutResult (cur : Sheaf) (cut : Cut) : Nat :=
  cur.sk0 + cut.k * 2 ^ 17 + cut.list.length * 2 ^ 34 + cur.snum * 2 ^ 41 + (if cut.list = [] then 2 ^ 47 else 0)
    + (if cut.k = cur.bound then 2 ^ 48 else 0)

theorem cutWord_eq (cur : Sheaf) (cut : Cut) : cutWord cur.sk0 cut.k cut.list.length cur.snum cur.bound = cutResult cur cut := by
  have hempty : ofBool (cut.list.length == 0) = if cut.list = [] then 1 else 0 := by
    by_cases hl : cut.list = [] <;> simp [ofBool, hl]
  have hbound : ofBool (cut.k == cur.bound) = if cut.k = cur.bound then 1 else 0 := by
    by_cases hk : cut.k = cur.bound <;> simp [ofBool, hk]
  rw [cutWord, cutResult, hempty, hbound, ite_mul, ite_mul, Nat.one_mul, Nat.zero_mul, Nat.one_mul, Nat.zero_mul]

/-! ## The claim of the cutter (R285) -/

section
variable {s t : State} {e : Nat} {f : Firing} (h : s.agent = some (.firing e f)) (hclaim : claimCutter s e f.frame.ctx = some t) {o : Ops}
include h hclaim

theorem cutterOp_of_claimed {k : State → Nat → Firing → Except Why (State × Agent)} {u : State} {x : Agent} (hk : k t e f = .ok (u, x)) :
    cutterOp o s k = .next (finish u o x) := by
  rw [cutterOp, withFiring, h]
  dsimp only
  rw [hclaim]
  dsimp only
  rw [hk]

theorem shcfg_of_good {p q c : W64} (hp : word (src t (.firing e f) o .whole o.a false 0) = p)
    (hq : word (src t (.firing e f) o .whole o.b false 0) = q) (hc : word (src t (.firing e f) o .whole (thirdSpec o) false 0) = c)
    (hgood : shcfgBad p q c = false) (hareas : checkAreas t e f.frame.ctx (occupancyAreas p ++ (if cMode c = 1 || cMode c = 2 then occupancyAreas q
      else []) ++ [(cSi c, outputBytes p c, true)]) = .ok ()) :
    exec (.shcfg o) s = .next (finish (setSheaf t e f.frame.ctx
      { v := true, scfg := c, spdesc := p, sqdesc := q, sk0 := 0, sk1 := 0, sn := 0, si := cSi c, bound := dK p,
        snum := 0, done := false, skr := 0 }) o (.firing e f)) := by
  have hexec : execShcfg o s = _ := cutterOp_of_claimed h hclaim (by
    dsimp only
    rw [srcWord, srcWord, srcWord, hp, hq, hc, hgood, if_neg Bool.false_ne_true, hareas])
  exact hexec

theorem shbnd_of_bounded {a b : Nat} {set : Sheaf} (hset : sheafOf t e f.frame.ctx = set) (ha : src t (.firing e f) o .whole o.a false 0 = a)
    (hb : src t (.firing e f) o .whole o.b false 0 = b) (hv : set.v = true) (hab : a ≤ b) (hbk : b ≤ dK set.spdesc)
    (halign : cMode set.scfg = 3 → a % 64 = 0 ∧ b % 64 = 0) :
    exec (.shbnd o) s = .next (finish (setSheaf t e f.frame.ctx
      { set with sk0 := a, sk1 := a, bound := b, sn := 0, snum := 0, done := false, skr := a + a * 2 ^ 17 }) o (.firing e f)) := by
  have hexec : execShbnd o s = _ := cutterOp_of_claimed h hclaim (by
    dsimp only
    rw [srcWord, srcWord, ha, hb, hset, if_neg (by simp [hv]), if_neg]
    simp only [Bool.or_eq_true, Bool.and_eq_true, decide_eq_true_eq, bne_iff_ne, ne_eq]
    rintro ((hlt | hlt) | ⟨hmode, hne | hne⟩)
    · omega
    · omega
    · exact hne (halign hmode).1
    · exact hne (halign hmode).2)
  exact hexec

theorem shco_of_partners {i0 : Nat} {set : Sheaf} {u u' : State} {ks vals : List Nat} (hset : sheafOf t e f.frame.ctx = set)
    (ha : src t (.firing e f) o .whole o.a false 0 = i0) (hv : set.v = true) (hq : set.sqdesc ≠ 0) (htype : Ty.code o.ty = dFmt set.sqdesc)
    (hfits : dForm set.sqdesc = 2 ∨ i0 + 256 / (cRows set.scfg * (Ty.width o.ty / 8)) ≤ 32)
    (hlist : indexList e f set.si set.sn 0 t = .ok (u, ks)) (hks : ∀ k ∈ ks, k < dK set.sqdesc)
    (hrows : partnerRows e f set ks (256 / (cRows set.scfg * (Ty.width o.ty / 8))) i0 u = .ok (u', vals)) :
    exec (.shco o) s = .next (finish u' o ((Agent.firing e f).setVector o.d (vecOfPacked (8 * (Ty.width o.ty / 8)) vals))) := by
  have hexec : execShco o s = _ := cutterOp_of_claimed h hclaim (by
    dsimp only
    rw [srcWord, ha, hset, hv, if_neg (by simpa using hq), htype, bne_self_eq_false, if_neg Bool.false_ne_true,
      if_neg (by simpa [or_iff_not_imp_left] using hfits), hlist]
    have hfind : ks.find? (fun k => decide (dK set.sqdesc ≤ k)) = none := List.find?_eq_none.mpr fun k hk => by simpa using hks k hk
    dsimp only [bind, Except.bind]
    rw [hfind]
    dsimp only
    rw [hrows]
    rfl)
  exact hexec

/-! ## SHCUT (R289 to R294) -/

variable (hroom : bufferBusy s e f = false)
include hroom

theorem shcut_of_cut {set cur : Sheaf} {u : State} {cut : Cut} {g : Firing} (hset : sheafOf t e f.frame.ctx = set) (hv : set.v = true)
    (hdone : set.done = false) (hsnum : set.snum ≠ 64) (hcur : (if xBit o.x 23 then { set with sk0 := set.sk1 } else set) = cur)
    (hcut : (if cMode set.scfg = 3 then cutN64 e f cur 1025 t { k := cur.sk0, bytes := 0, list := [], rows := [] }
      else cutPlain e f cur 65537 t { k := cur.sk0, bytes := 0, list := [], rows := [] }) = .ok (u, cut))
    (hcheck : cutCheck u e f.frame.ctx cur.si (outputBytes cur.spdesc cur.scfg) true = .ok ())
    (hsend : issueMemSend u e f (sendRoute o) { seq := cur.snum, last := decide (cut.k = cur.bound), esheaf := decide (cut.list = []) }
      (BitVec.ofNat 2048 (cutResult cur cut)) = .ok g) :
    exec (.shcut o) s = .next (finish (setSheaf u e f.frame.ctx { cur with
      sk1 := cut.k, sn := cut.list.length, snum := cur.snum + 1, done := decide (cut.k = cur.bound), skr := cutResult cur cut }) o
      ((Agent.firing e (g.addScr (.write cur.si (cutOutput cur cut)))).setScalar o.d (cutResult cur cut))) := by
  have hempty : cut.list.isEmpty = decide (cut.list = []) := by rcases cut.list with _ | ⟨x, rest⟩ <;> rfl
  change execShcut o s = _
  rw [execShcut, withFiring, h]
  dsimp only
  rw [hroom, hclaim, if_neg Bool.false_ne_true]
  dsimp only
  obtain ⟨hv', hdone', hsnum', hscfg⟩ : cur.v = true ∧ cur.done = false ∧ cur.snum ≠ 64 ∧ cur.scfg = set.scfg := by
    subst hcur
    split <;> exact ⟨hv, hdone, hsnum, rfl⟩
  have hlast : (cut.k == cur.bound) = decide (cut.k = cur.bound) := rfl
  rw [hset, hcur, if_neg (by simp [hv']), if_neg (by simp [hdone', hsnum'])]
  rw [← hscfg] at hcut
  by_cases hmode : cMode cur.scfg = 3
  · rw [if_pos hmode] at hcut ⊢
    simp only [hcut, bind, Except.bind, hcheck, hlast, hempty, cutWord_eq, hsend]
    rfl
  · rw [if_neg hmode] at hcut ⊢
    simp only [hcut, bind, Except.bind, hcheck, hlast, hempty, cutWord_eq, hsend]
    rfl
end

/-! ## SPHDR (R296) -/

/-- The emission that SPHDR captures. -/
def sphdrEmission (s : State) (e : Nat) (f : Firing) (o : Ops) (v : Nat) : Emission :=
  { elem := e, ctx := f.frame.ctx, ent := f.frame.ent, ts := f.frame.ts, route := sendRoute o,
    word := routeWord s e f.frame.ctx (sendRoute o),
    cores := routeCores s e f.frame.ctx (sendRoute o) (routeWord s e f.frame.ctx (sendRoute o)),
    bits := (List.range 4096).filter fun i => v.testBit i, next := 0, live := false, rel := 0, gated := 0, after := f.items.length }

/-- The bits that SPHDR combines. -/
def sphdrBits (mode va vb : Nat) : Nat := if mode = 1 then va &&& vb else va ||| vb

theorem testBit_sphdrBits (mode va vb i : Nat) : (sphdrBits mode va vb).testBit i =
    if mode = 1 then va.testBit i && vb.testBit i else va.testBit i || vb.testBit i := by
  rw [sphdrBits]
  split
  · exact Nat.testBit_and va vb i
  · exact Nat.testBit_or va vb i

section
variable {s u v : State} {e va vb : Nat} {f : Firing} (h : Safety.Issues s e f) {o : Ops}
include h

theorem sphdr_of_captured {a b mode : Nat} {tree : Bool} (ha : src s (.firing e f) o .whole o.a false 0 = a)
    (hb : src s (.firing e f) o .whole o.b false 0 = b) (hmode : xField o.x 23 22 = mode) (htree : xBit o.x 21 = tree)
    (hfree : (s.core (coreOf e)).emission = none) (hlen : mode ≠ 0 → a / 2 ^ 19 % 4096 = b / 2 ^ 19 % 4096)
    (hva : bitOperand s e f a tree = .ok (u, va)) (hvb : mode ≠ 0 → bitOperand u e f b tree = .ok (v, vb)) (hone : mode = 0 → v = u ∧ vb = va)
    (hdepth : tsDepth f.frame.ts ≠ 3) (halive : sendsToDead v (routeWord s e f.frame.ctx (sendRoute o)) = false) :
    exec (.sphdr o) s = .next (finish (v.setCore (coreOf e) { v.core (coreOf e) with
      emission := some (sphdrEmission s e f o (sphdrBits mode va vb)) }) o (.firing e { f with nsend := f.nsend + 1 })) := by
  obtain ⟨hagent, hroom⟩ := h
  have hrouting : routing v = routing s := by
    by_cases hm : mode = 0
    · rw [(hone hm).1]
      exact routing_bitOperand hva
    · exact (routing_bitOperand (hvb hm)).trans (routing_bitOperand hva)
  have hcores := routeCores_of_routing hrouting e f.frame.ctx (sendRoute o) (routeWord s e f.frame.ctx (sendRoute o))
  change execSphdr o s = _
  rw [execSphdr, withFiring, hagent]
  dsimp only
  rw [srcWord, srcWord, ha, hb, hmode, htree, hroom, hfree, if_neg (by decide), if_neg (by simpa using hlen)]
  by_cases hm : mode = 0
  · obtain ⟨rfl, rfl⟩ := hone hm
    simp only [hm, if_true, hva, bind, Except.bind, pure, Except.pure, if_neg hdepth, halive, Bool.false_eq_true, if_false, hcores]
    rfl
  · simp only [hm, if_false, hva, hvb hm, bind, Except.bind, pure, Except.pure, if_neg hdepth, halive, Bool.false_eq_true, hcores]
    rfl
end

/-- Settles O25: each instruction by what its claim, its checks and its reads give. -/
theorem cutterInstructionsComplete : Obligations.CutterInstructionsComplete := by
  constructor
  · intro o s t e f hissues hclaim
    obtain ⟨h, hroom⟩ := hissues
    dsimp only
    refine ⟨fun hgood hareas => shcfg_of_good h hclaim rfl rfl rfl hgood hareas,
      fun hv hab hbk halign => shbnd_of_bounded h hclaim rfl rfl rfl hv hab hbk halign, fun hv hdone hsnum u cut g hcut hcheck hsend => ?cut,
      fun hv hq htype hfits u ks u' vals hlist hks hrows => shco_of_partners h hclaim rfl rfl hv hq htype hfits hlist hks hrows⟩
    case cut =>
      rw [← sendRoute_eq] at hsend
      exact shcut_of_cut h hclaim hroom rfl hv hdone hsnum rfl hcut hcheck hsend
  · intro o s u v e f va vb hissues hfree
    dsimp only
    intro hlen hva hvb hone hdepth halive
    rw [sphdr_of_captured hissues rfl rfl rfl rfl hfree hlen hva hvb hone hdepth halive, sphdrEmission]
    simp only [testBit_sphdrBits]

end Sys2Proof.Machine
end
